-- ==== Sys2Proof/Word.lean ====
section
/-! DEFINITION. The word types of the part: the byte of a link frame (R11, R28), the 16-bit word of the
parameter memory (R184), and time, which the model counts in whole microseconds. -/

namespace Sys2Proof

/-- One byte of an Axle Link frame (R28). -/
abbrev Byte := BitVec 8

/-- One word of the parameter memory, "taken as an unsigned value of 0..65,535" (R184). -/
abbrev ParamWord := BitVec 16

/-- A length of time, or a moment of the station's own count of time, in microseconds. -/
abbrev Micros := Nat

/-- A payload as it stands on the wires, byte 0 first. -/
abbrev Payload := List Byte

end Sys2Proof
end

