-- ==== Sys2Proof/Syntax.lean ====
section
/-! DEFINITION. The commands of one axle station: one constructor of `Instr` for each row of spec/opcode_table.json,
with what the row's step takes from outside as its operands (sensor readings, frames, switches).
Every command carries `dt`, the time in microseconds since the command before it (notes/assumptions/1.md). -/

namespace Sys2Proof

/-- A side of the axle, as seen facing forward (section 1.4). -/
inductive Side where
  | left
  | right
  deriving DecidableEq, Repr

/-- What an analogue input shows when a block reads it: an open or a short, or a reading in the unit of Table 1.6. -/
inductive AnalogIn where
  | openShort
  | reading (value : Int)
  deriving DecidableEq, Repr

/-- What a switch input shows when it is read (R155). -/
inductive SwitchIn where
  | off
  | on
  | openShort
  deriving DecidableEq, Repr

/-- The direction selector, and the direction in use (R24, R53). -/
inductive Direction where
  | forward
  | neutral
  | reverse
  deriving DecidableEq, Repr

/-- The level switch (R24). -/
inductive LevelRequest where
  | drive
  | raise
  | kneel
  deriving DecidableEq, Repr

/-- The driver input lines of the cab station as read at a DRIVER emission expiry (R24, R114). -/
structure DriverLines where
  pedal : AnalogIn
  direction : Direction
  level : LevelRequest
  driveIntent : Bool
  haltSwitch : Bool
  docking : Bool
  /-- Bit 2 × (k − 1) + s is the switch of door slot s at station k (R24). -/
  doorSwitches : BitVec 12
  deriving DecidableEq, Repr

/-- The closed-locked and edge inputs of the two door slots (section 9.1). -/
structure DoorInputs where
  closed0 : SwitchIn
  edge0 : SwitchIn
  closed1 : SwitchIn
  edge1 : SwitchIn
  deriving DecidableEq, Repr

/-- The inputs the levelling block reads at step 1 of R132. -/
structure LevelInputs where
  reservoir : AnalogIn
  heightL : AnalogIn
  heightR : AnalogIn
  bellowsL : AnalogIn
  bellowsR : AnalogIn
  deriving DecidableEq, Repr

/-- What a whole START reads (R1, R131, R153, R184): the strap pins, the 64 words of the parameter memory (`none` for a
word not received whole), the height inputs and the door inputs. -/
structure StartReading where
  strap : BitVec 3
  words : List (Option ParamWord)
  heightL : AnalogIn
  heightR : AnalogIn
  doors : DoorInputs
  deriving DecidableEq, Repr

/-- What a START that a supply fault abandons had read by then (R172, R184): the strap pins, if they had been read,
and the words already received. -/
structure AbandonedReading where
  strap : Option (BitVec 3)
  words : List (Option ParamWord)
  deriving DecidableEq, Repr

/-- The commands, in the order of spec/opcode_table.json. -/
inductive Instr where
  | powerUp (dt : Micros)
  | powerUpWaitEnd (dt : Micros)
  | startComplete (dt : Micros) (reading : StartReading)
  /-- `millivolts` is the supply as it stands from now on, and the time before it the supply stood as the command before
  said; `start` matters in START only. -/
  | supply (dt : Micros) (millivolts : Nat) (start : AbandonedReading)
  | supplyGoodRun (dt : Micros)
  | syncTimeout (dt : Micros)
  | runTimeElapsed (dt : Micros)
  | deferralWindowTimeout (dt : Micros)
  | listenEnd (dt : Micros)
  | silentEnd (dt : Micros)
  | transmitAttemptStart (dt : Micros)
  | attemptCompleted (dt : Micros)
  | arbitrationLost (dt : Micros)
  | attemptDestroyed (dt : Micros)
  | stateFrameReceived (dt : Micros) (sender : BitVec 3) (payload : Payload)
  | driverFrameReceived (dt : Micros) (sender : BitVec 3) (payload : Payload)
  | pathFrameReceived (dt : Micros) (sender : BitVec 3) (payload : Payload)
  | alertFrameReceived (dt : Micros) (sender : BitVec 3) (payload : Payload)
  | readStatus (dt : Micros) (sender : BitVec 3) (target tag argument : Byte)
  | readFaults (dt : Micros) (sender : BitVec 3) (target tag argument : Byte)
  | clearFaults (dt : Micros) (sender : BitVec 3) (target tag argument : Byte)
  | readParameter (dt : Micros) (sender : BitVec 3) (target tag argument : Byte)
  | readTrack (dt : Micros) (sender : BitVec 3) (target tag argument : Byte)
  | serviceRequestRejected (dt : Micros) (sender : BitVec 3) (payload : Payload)
  | missed (dt : Micros) (peer : Nat)
  | driverStatusHolding (dt : Micros)
  | driverStatusExpired (dt : Micros)
  | cabLost (dt : Micros)
  | toothEdge (dt : Micros) (side : Side)
  /-- `present` is whether the open or short is there, or has ended. -/
  | wheelSensorOpenShort (dt : Micros) (side : Side) (present : Bool)
  | speedOdometryExpiry (dt : Micros)
  | wheelZeroSpeedTimeout (dt : Micros) (side : Side)
  | wheelPlausibilityFail (dt : Micros) (side : Side)
  | standstillSet (dt : Micros)
  | cabMarkAdoption (dt : Micros)
  | rearAdoptionTimeout (dt : Micros)
  | pathGeneratorExpiry (dt : Micros) (front : AnalogIn)
  | trackMemoryExpiry (dt : Micros)
  | trackStarved (dt : Micros)
  | steeringExpiry (dt : Micros) (angle : AnalogIn)
  | lockLossRun (dt : Micros) (angle : AnalogIn)
  | notValidRun (dt : Micros) (angle : AnalogIn)
  | guidedExitRun (dt : Micros) (angle : AnalogIn)
  | centredRun (dt : Micros) (angle : AnalogIn)
  | steerMismatch (dt : Micros) (angle : AnalogIn)
  | centringTravelTimeout (dt : Micros) (angle : AnalogIn)
  | jointMonitorExpiry (dt : Micros) (joint : AnalogIn)
  | jackAlertSetRun (dt : Micros) (joint : AnalogIn)
  | jackAlertClearRun (dt : Micros) (joint : AnalogIn)
  | brakingExpiry (dt : Micros) (pressure : AnalogIn)
  | slipReapplyDone (dt : Micros) (side : Side) (pressure : AnalogIn)
  | brakePressureMismatch (dt : Micros) (pressure : AnalogIn)
  | backupExitRun (dt : Micros) (pressure : AnalogIn)
  | stateEmission (dt : Micros)
  | driverEmission (dt : Micros) (lines : DriverLines)
  | doorInterlockExpiry (dt : Micros) (inputs : DoorInputs)
  | levellingExpiry (dt : Micros) (inputs : LevelInputs)
  | heightStuck (dt : Micros) (side : Side) (inputs : LevelInputs)
  | pulseEnd (dt : Micros) (side : Side)
  /-- `height` is what the continuous watch of R139 reads. -/
  | continuousStopReached (dt : Micros) (side : Side) (height : Int)
  | twistGateReached (dt : Micros) (height : Int)
  | kneelTimeout (dt : Micros) (inputs : LevelInputs)
  | raiseTimeout (dt : Micros) (inputs : LevelInputs)
  | powerOff (dt : Micros)
  deriving DecidableEq, Repr

/-- The time a command brings with it. -/
def Instr.elapsed : Instr → Micros
  | .powerUp dt => dt
  | .powerUpWaitEnd dt => dt
  | .startComplete dt _ => dt
  | .supply dt _ _ => dt
  | .supplyGoodRun dt => dt
  | .syncTimeout dt => dt
  | .runTimeElapsed dt => dt
  | .deferralWindowTimeout dt => dt
  | .listenEnd dt => dt
  | .silentEnd dt => dt
  | .transmitAttemptStart dt => dt
  | .attemptCompleted dt => dt
  | .arbitrationLost dt => dt
  | .attemptDestroyed dt => dt
  | .stateFrameReceived dt _ _ => dt
  | .driverFrameReceived dt _ _ => dt
  | .pathFrameReceived dt _ _ => dt
  | .alertFrameReceived dt _ _ => dt
  | .readStatus dt _ _ _ _ => dt
  | .readFaults dt _ _ _ _ => dt
  | .clearFaults dt _ _ _ _ => dt
  | .readParameter dt _ _ _ _ => dt
  | .readTrack dt _ _ _ _ => dt
  | .serviceRequestRejected dt _ _ => dt
  | .missed dt _ => dt
  | .driverStatusHolding dt => dt
  | .driverStatusExpired dt => dt
  | .cabLost dt => dt
  | .toothEdge dt _ => dt
  | .wheelSensorOpenShort dt _ _ => dt
  | .speedOdometryExpiry dt => dt
  | .wheelZeroSpeedTimeout dt _ => dt
  | .wheelPlausibilityFail dt _ => dt
  | .standstillSet dt => dt
  | .cabMarkAdoption dt => dt
  | .rearAdoptionTimeout dt => dt
  | .pathGeneratorExpiry dt _ => dt
  | .trackMemoryExpiry dt => dt
  | .trackStarved dt => dt
  | .steeringExpiry dt _ => dt
  | .lockLossRun dt _ => dt
  | .notValidRun dt _ => dt
  | .guidedExitRun dt _ => dt
  | .centredRun dt _ => dt
  | .steerMismatch dt _ => dt
  | .centringTravelTimeout dt _ => dt
  | .jointMonitorExpiry dt _ => dt
  | .jackAlertSetRun dt _ => dt
  | .jackAlertClearRun dt _ => dt
  | .brakingExpiry dt _ => dt
  | .slipReapplyDone dt _ _ => dt
  | .brakePressureMismatch dt _ => dt
  | .backupExitRun dt _ => dt
  | .stateEmission dt => dt
  | .driverEmission dt _ => dt
  | .doorInterlockExpiry dt _ => dt
  | .levellingExpiry dt _ => dt
  | .heightStuck dt _ _ => dt
  | .pulseEnd dt _ => dt
  | .continuousStopReached dt _ _ => dt
  | .twistGateReached dt _ => dt
  | .kneelTimeout dt _ => dt
  | .raiseTimeout dt _ => dt
  | .powerOff dt => dt

/-- The same command, `d` microseconds after the one before it. -/
def Instr.after (d : Micros) : Instr → Instr
  | .powerUp _ => .powerUp d
  | .powerUpWaitEnd _ => .powerUpWaitEnd d
  | .startComplete _ reading => .startComplete d reading
  | .supply _ millivolts start => .supply d millivolts start
  | .supplyGoodRun _ => .supplyGoodRun d
  | .syncTimeout _ => .syncTimeout d
  | .runTimeElapsed _ => .runTimeElapsed d
  | .deferralWindowTimeout _ => .deferralWindowTimeout d
  | .listenEnd _ => .listenEnd d
  | .silentEnd _ => .silentEnd d
  | .transmitAttemptStart _ => .transmitAttemptStart d
  | .attemptCompleted _ => .attemptCompleted d
  | .arbitrationLost _ => .arbitrationLost d
  | .attemptDestroyed _ => .attemptDestroyed d
  | .stateFrameReceived _ sender payload => .stateFrameReceived d sender payload
  | .driverFrameReceived _ sender payload => .driverFrameReceived d sender payload
  | .pathFrameReceived _ sender payload => .pathFrameReceived d sender payload
  | .alertFrameReceived _ sender payload => .alertFrameReceived d sender payload
  | .readStatus _ sender target tag argument => .readStatus d sender target tag argument
  | .readFaults _ sender target tag argument => .readFaults d sender target tag argument
  | .clearFaults _ sender target tag argument => .clearFaults d sender target tag argument
  | .readParameter _ sender target tag argument => .readParameter d sender target tag argument
  | .readTrack _ sender target tag argument => .readTrack d sender target tag argument
  | .serviceRequestRejected _ sender payload => .serviceRequestRejected d sender payload
  | .missed _ peer => .missed d peer
  | .driverStatusHolding _ => .driverStatusHolding d
  | .driverStatusExpired _ => .driverStatusExpired d
  | .cabLost _ => .cabLost d
  | .toothEdge _ side => .toothEdge d side
  | .wheelSensorOpenShort _ side present => .wheelSensorOpenShort d side present
  | .speedOdometryExpiry _ => .speedOdometryExpiry d
  | .wheelZeroSpeedTimeout _ side => .wheelZeroSpeedTimeout d side
  | .wheelPlausibilityFail _ side => .wheelPlausibilityFail d side
  | .standstillSet _ => .standstillSet d
  | .cabMarkAdoption _ => .cabMarkAdoption d
  | .rearAdoptionTimeout _ => .rearAdoptionTimeout d
  | .pathGeneratorExpiry _ front => .pathGeneratorExpiry d front
  | .trackMemoryExpiry _ => .trackMemoryExpiry d
  | .trackStarved _ => .trackStarved d
  | .steeringExpiry _ angle => .steeringExpiry d angle
  | .lockLossRun _ angle => .lockLossRun d angle
  | .notValidRun _ angle => .notValidRun d angle
  | .guidedExitRun _ angle => .guidedExitRun d angle
  | .centredRun _ angle => .centredRun d angle
  | .steerMismatch _ angle => .steerMismatch d angle
  | .centringTravelTimeout _ angle => .centringTravelTimeout d angle
  | .jointMonitorExpiry _ joint => .jointMonitorExpiry d joint
  | .jackAlertSetRun _ joint => .jackAlertSetRun d joint
  | .jackAlertClearRun _ joint => .jackAlertClearRun d joint
  | .brakingExpiry _ pressure => .brakingExpiry d pressure
  | .slipReapplyDone _ side pressure => .slipReapplyDone d side pressure
  | .brakePressureMismatch _ pressure => .brakePressureMismatch d pressure
  | .backupExitRun _ pressure => .backupExitRun d pressure
  | .stateEmission _ => .stateEmission d
  | .driverEmission _ lines => .driverEmission d lines
  | .doorInterlockExpiry _ inputs => .doorInterlockExpiry d inputs
  | .levellingExpiry _ inputs => .levellingExpiry d inputs
  | .heightStuck _ side inputs => .heightStuck d side inputs
  | .pulseEnd _ side => .pulseEnd d side
  | .continuousStopReached _ side height => .continuousStopReached d side height
  | .twistGateReached _ height => .twistGateReached d height
  | .kneelTimeout _ inputs => .kneelTimeout d inputs
  | .raiseTimeout _ inputs => .raiseTimeout d inputs
  | .powerOff _ => .powerOff d

end Sys2Proof
end

