-- ==== Sys2Proof/Machine/Arith.lean ====
section
/-! DEFINITION. The rounding of R8, clamps, and the true values of cos, tan and asin that R8 asks for, worked in integers
at 160 binary places (notes/assumptions/6.md). -/

namespace Sys2Proof.Machine

/-- A quotient of naturals rounded once to the nearest integer, halves away from zero (R8). -/
def roundNat (n d : Nat) : Nat := (2 * n + d) / (2 * d)

/-- A quotient with a signed numerator rounded once, halves away from zero (R8). -/
def roundInt (n : Int) (d : Nat) : Int :=
  if n < 0 then -(roundNat n.natAbs d : Int) else (roundNat n.natAbs d : Int)

/-- A quotient rounded up, for the count of pulses (R138). -/
def ceilDiv (n d : Nat) : Nat := (n + d - 1) / d

/-- The distance between two naturals. -/
def distance (a b : Nat) : Nat := (a - b) + (b - a)

/-- A value brought into −bound..+bound. -/
def clampInt (bound x : Int) : Int := max (-bound) (min bound x)

/-- A value brought into lo..hi. -/
def clampNat (lo hi x : Nat) : Nat := max lo (min hi x)

/-- The binary scale of the trigonometric values: 2 to the 160th. -/
def trigScale : Nat := 2 ^ 160

/-- π × `trigScale`, to the unit below. -/
def piScaled : Nat := 4591442807048218921384805199743311128454155024418

/-- `Σ (−1)^k x^(n+2k) / (n+2k)!` from a first term, in units of 1/`trigScale`: `x2` is the square of the angle. -/
def trigSeries (x2 : Nat) : Nat → Nat → Nat → Int
  | 0, _, _ => 0
  | fuel + 1, n, term => (term : Int) - trigSeries x2 fuel (n + 2) (term * x2 / (trigScale * ((n + 1) * (n + 2))))

/-- An angle of `cd` centidegrees in units of 1/`trigScale` radian. -/
def radians (cd : Nat) : Nat := cd * piScaled / 18000

/-- cos and sin of 0..9,000 cd, in units of 1/`trigScale`. -/
def cosScaled (cd : Nat) : Int := trigSeries (radians cd * radians cd / trigScale) 32 0 trigScale
def sinScaled (cd : Nat) : Int := trigSeries (radians cd * radians cd / trigScale) 32 1 (radians cd)

/-- `x × cos(δ)` rounded to the nearest integer (R51). The exact values at 0, 60 and 90 degrees are taken as such,
since only there can a half arise. -/
def timesCos (x : Nat) (cd : Int) : Nat :=
  if cd.natAbs = 0 then x
  else if cd.natAbs = 6000 then roundNat x 2
  else if cd.natAbs ≥ 9000 then 0
  else roundNat (x * (cosScaled cd.natAbs).toNat) trigScale

/-- `round(10⁷ × tan(δ) / W1)` clamped to ±20,000 cu (R60); a δ of ±9,000 gives ±20,000. -/
def curvatureOf (cd : Int) (wheelbase : Nat) : Int :=
  let size : Int :=
    if cd.natAbs ≥ 9000 then 20000
    else min 20000 (roundNat (10000000 * (sinScaled cd.natAbs).toNat) (wheelbase * (cosScaled cd.natAbs).toNat) : Int)
  if cd < 0 then -size else size

/-- Newton's steps toward the integer square root of `n`, from above. -/
def sqrtSteps (n : Nat) : Nat → Nat → Nat
  | 0, r => r
  | fuel + 1, r => if (r + n / r) / 2 < r then sqrtSteps n fuel ((r + n / r) / 2) else r

/-- The integer square root. -/
def intSqrt (n : Nat) : Nat := if n = 0 then 0 else sqrtSteps n 24 (2 ^ (n.log2 / 2 + 1))

/-- The sine of half the angle whose sine is `q`, both in units of 1/`trigScale`. -/
def halfSine (q : Nat) : Nat :=
  intSqrt ((trigScale - intSqrt (trigScale * trigScale - q * q)) * trigScale / 2)

/-- The series of asin from its n-th term, in units of 1/`trigScale`: `q2` is the square of the sine. -/
def asinSeries (q2 : Nat) : Nat → Nat → Nat → Nat
  | 0, _, _ => 0
  | fuel + 1, n, term =>
    term + asinSeries q2 fuel (n + 2) (term * q2 * (n * n) / (trigScale * ((n + 1) * (n + 2))))

/-- asin of `num / den`, with `num / den` clamped to at most 1, in units of 1/`trigScale` radian. -/
def asinScaled (num den : Nat) : Nat :=
  let q := min trigScale (num * trigScale / den)
  if 8 * q ≤ trigScale then asinSeries (q * q / trigScale) 32 1 q
  else
    let h := halfSine (halfSine (halfSine q))
    8 * asinSeries (h * h / trigScale) 40 1 h

/-- asin of `num / den` clamped to −1..+1, signed, in units of 1/`trigScale` radian. -/
def asinSigned (num : Int) (den : Nat) : Int :=
  if num < 0 then -(asinScaled num.natAbs den : Int) else (asinScaled num.natAbs den : Int)

/-- An angle in units of 1/`trigScale` radian as centidegrees, rounded once (R8). -/
def toCentidegrees (x : Int) : Int := roundInt (x * 18000) piScaled

/-- The divisor of the chord laws, 2 × 10⁷ (R91, R103). -/
def chordDivisor : Nat := 20000000

/-- The half-chord law: `−asin(a × κ / (2 × 10⁷))` in cd (R91). -/
def halfChord (lever : Nat) (curvature : Int) : Int :=
  -toCentidegrees (asinSigned (lever * curvature) chordDivisor)

/-- The expected articulation: the sum of the two chord angles, rounded once and clamped (R103). -/
def expectedArticulation (a b : Nat) (midCurvature farCurvature : Int) : Int :=
  clampInt 9000 (toCentidegrees (asinSigned (a * midCurvature) chordDivisor + asinSigned (b * farCurvature) chordDivisor))

end Sys2Proof.Machine
end

