-- ==== Sys2Proof/Config.lean ====
section
/-! DEFINITION. The numbers the spec fixes for every station, and the one value it leaves open. -/

namespace Sys2Proof.Config

/-- The peer error limit that a station without a working copy counts against. R36 takes the limit from the working
copy, and a station in LIMP without one still keeps its peer table (R25): no rule states the limit it uses.
A free value (notes/assumptions/5.md). -/
opaque peerErrorLimitWithoutCopy : Nat

/-- The largest mark (R4). -/
def maxMark : Nat := 4000000000

/-- The largest curvature magnitude, in cu (Table 1.6). -/
def maxCurvature : Int := 20000

/-- The largest angle magnitude, in cd (Table 1.6). -/
def maxAngle : Int := 9000

/-- The largest speed, in cm/s (Table 1.6). -/
def maxSpeed : Nat := 3000

/-- The largest pressure, in kPa (Table 1.6). -/
def maxPressure : Nat := 1000

/-- The largest height, in mm (Table 1.6). -/
def maxHeight : Nat := 400

/-- The largest deceleration demand, in cm/s² (Table 1.6). -/
def maxDemand : Nat := 650

/-- The largest lag, in cm (Table 2.5). -/
def maxLag : Nat := 4000

/-- One millisecond and one second. -/
def ms : Micros := 1000
def second : Micros := 1000000

/-- The unit of the station time and of the interlock hold time, 0.1 s (R171, Table 11.1). -/
def tenth : Micros := 100000

/-- The fast period in milliseconds (Table 1.8), by which the borrow time is counted. -/
def fastPeriodMs : Nat := 10

/-- A duration as a run of fast expiries, and of levelling expiries (R10). -/
def fastRun (milliseconds : Nat) : Nat := milliseconds / 10
def levellingRun (milliseconds : Nat) : Nat := milliseconds / 100

/-- The largest number of entries of a track memory (R67). -/
def trackCapacity : Nat := 128

/-- The largest number of records of a fault list (R183). -/
def faultCapacity : Nat := 16

/-- The largest station time (R171). -/
def maxStationTime : Nat := 16777215

/-- The bounds of the low and the high run, in millivolts (R176). -/
def supplyLow : Nat := 16000
def supplyHigh : Nat := 34000

/-- The band of the good run, in millivolts (R172, R177). -/
def goodLow : Nat := 18000
def goodHigh : Nat := 32000

end Sys2Proof.Config
end

