-- ==== Sys2Proof/Machine/State.lean ====
section
/-! DEFINITION. The state of one axle station, block by block (Table 0.1), as plain data, and the state before supply is
first applied. Elapsed times are held as the moment, on the station's own count of microseconds, from which they run
(`none` while they are not running); runs that a block counts at its own expiries are held as counts (R10). -/

namespace Sys2Proof.Machine

/-- The reasons for which a step can stop the machine with a fault. There is none: the spec gives every command of
the part an effect on every state, and its own faults are records of the fault list (R182), not stops. -/
inductive Fault where
  deriving DecidableEq, Repr

/-- The reasons for which a step can be refused. -/
inductive Refusal where
  /-- Raised by an arm of `exec` whose command has no meaning yet (safe: the run stops). No arm is left so. -/
  | notModelled (mnemonic : String)
  deriving DecidableEq, Repr

/-! ## Names the spec lists -/

/-- The station modes (Table 10.2). -/
inductive Mode where
  | start
  | sync
  | run
  | degraded
  | restart
  | limp
  deriving DecidableEq, Repr

/-- Whether the part has supply, and whether the power-up wait of R172 is under way. -/
inductive Power where
  | off
  | waiting
  | on
  deriving DecidableEq, Repr

/-- Link engine states (Table 2.3); `stopped` is the engine that is not running, in START and RESTART (R13, R21). -/
inductive LinkState where
  | stopped
  | listen
  | active
  | silent
  deriving DecidableEq, Repr

/-- Presence of a peer (Table 2.10). -/
inductive Presence where
  | absent
  | joining
  | present
  | lost
  deriving DecidableEq, Repr

/-- Driver status (Table 2.11). -/
inductive DriverStatus where
  | none
  | fresh
  | holding
  | expired
  deriving DecidableEq, Repr

/-- Odometer source (R52). -/
inductive OdometerSource where
  | own
  | borrowed
  deriving DecidableEq, Repr

/-- Track status (R75). -/
inductive TrackStatus where
  | valid
  | starved
  | empty
  deriving DecidableEq, Repr

/-- Steer modes (Table 5.1). -/
inductive SteerMode where
  | locked
  | centring
  | tracking
  | guided
  | failed
  deriving DecidableEq, Repr

/-- Slip record states (Table 7.4). -/
inductive SlipState where
  | free
  | dump
  | hold
  | reapply
  deriving DecidableEq, Repr

/-- What latched the backup (Table 7.7). -/
inductive LatchedCause where
  | pressureMismatch
  | brakeSensor
  | limp
  deriving DecidableEq, Repr

/-- Air status (R134). -/
inductive AirStatus where
  | normal
  | prewarn
  | protect
  deriving DecidableEq, Repr

/-- Height condition of a corner (R137). -/
inductive HeightCondition where
  | openShort
  | range
  | stuck
  deriving DecidableEq, Repr

/-- Valve channel states, run kinds and directions (Table 8.3). -/
inductive ChannelState where
  | idle
  | filling
  | exhausting
  | suspended
  deriving DecidableEq, Repr

inductive RunKind where
  | pulsed
  | continuous
  deriving DecidableEq, Repr

inductive FlowDirection where
  | fill
  | exhaust
  deriving DecidableEq, Repr

/-- Level states (Table 8.4). -/
inductive LevelState where
  | level
  | raising
  | raised
  | descending
  | kneeling
  | kneeled
  | kneelHeld
  | returning
  deriving DecidableEq, Repr

/-- Door states (R153); `none` is what an unfitted slot reports. -/
inductive DoorState where
  | none
  | locked
  | released
  | opened
  | closingWait
  | unreleasedOpen
  deriving DecidableEq, Repr

/-- Halt states (R160). -/
inductive HaltState where
  | off
  | applying
  | applied
  | releasing
  deriving DecidableEq, Repr

/-- A line that is asserted, released or not driven (Table 9.1). -/
inductive DrivenLine where
  | notDriven
  | released
  | asserted
  deriving DecidableEq, Repr

/-- The 29 fault codes, in the order of Table 10.6. -/
inductive FaultCode where
  | config
  | supply
  | restartLimit
  | wheelSensorsBoth
  | steerMismatch
  | steerSensor
  | steerInput
  | pedalInput
  | brakePressureMismatch
  | brakeSensor
  | cabLost
  | paramClamped
  | wheelSensorL
  | wheelSensorR
  | jointSensor
  | heightSensorL
  | heightSensorR
  | bellowsSensor
  | reservoirSensor
  | trackStarved
  | trackOverflow
  | trackNearFull
  | peerLost
  | linkSilent
  | kneelTimeout
  | raiseTimeout
  | doorUnreleased
  | stationUnexpected
  | odometerSaturated
  deriving DecidableEq, Repr

/-- State of a fault record (R182). -/
inductive RecordState where
  | active
  | deferred
  | passive
  deriving DecidableEq, Repr

/-! ## The parameter loader (Chapter 11) -/

/-- The working copy: words 0..39 of Table 11.1 after the checks of R185 (R186). -/
structure Params where
  /-- Word 0, N. -/
  axles : Nat
  /-- Word 1, D. -/
  lag : Nat
  steered : Nat
  /-- Word 3, a. -/
  steerLever : Nat
  jointOwned : Nat
  /-- Word 5, b. -/
  jointLever : Nat
  /-- Word 6, W1. -/
  wheelbase : Nat
  /-- Word 7, δabs. -/
  steerLimit : Nat
  rateLimit : Nat
  dockingOffset : Nat
  /-- Word 10, K. -/
  guidedGain : Nat
  teeth : Nat
  circumference : Nat
  /-- Word 13, A. -/
  bellowsArea : Nat
  /-- Word 14, U. -/
  unsprung : Nat
  ladenDefault : Nat
  /-- Word 16, G. -/
  gain : Nat
  /-- Word 17, p0. -/
  threshold : Nat
  /-- Word 18, p_max. -/
  maxPressure : Nat
  /-- Word 19, p_halt. -/
  haltPressure : Nat
  slipEntry : Nat
  slipExit : Nat
  /-- Word 22, H. -/
  driveHeight : Nat
  raiseHeight : Nat
  kneelDepth : Nat
  roadDepth : Nat
  participant : Nat
  twistLimit : Nat
  deadband : Nat
  pulseWidth : Nat
  pulseStep : Nat
  protectAt : Nat
  releaseAt : Nat
  prewarnAt : Nat
  fillLimit : Nat
  doorCount : Nat
  errorLimit : Nat
  jackThreshold : Nat
  /-- Word 38, in 0.1 s. -/
  holdTime : Nat
  /-- Word 39: 0 right, 1 left. -/
  kerbSide : Nat
  deriving DecidableEq, Repr

/-- The parameter loader's state: the strap value (R1), the block image (R184), the working copy (R186). -/
structure Loader where
  strap : Nat
  image : List (Option ParamWord)
  copy : Option Params
  deriving DecidableEq, Repr

/-! ## Frames and the link engine (Chapter 2) -/

/-- A frame as it stands on the link: its identifier (R11) and payload. -/
structure Frame where
  identifier : Nat
  payload : Payload
  deriving DecidableEq, Repr

/-- A frame in the transmit queue. `ticket` tells a frame from the one that replaced it in its slot (R14). -/
structure Queued where
  ticket : Nat
  frame : Frame
  deriving DecidableEq, Repr

/-- The link engine: state, transmit queue of Table 2.2, counters, token. -/
structure Link where
  state : LinkState
  /-- When the engine entered LISTEN or SILENT (R18, R20). -/
  since : Micros
  /-- When the engine left LISTEN in this start: the door interlock's absence time (Table 9.1) and the 2 s of R42 run from it. -/
  leftListen : Option Micros
  /-- At most two, oldest first (R15). -/
  alerts : List Queued
  driver : Option Queued
  /-- At most four, oldest first (R17). -/
  paths : List Queued
  stateFrame : Option Queued
  answer : Option Queued
  /-- The frame whose attempt is on the wires (R14). -/
  attempt : Option Queued
  /-- Transmit error count, 0..32 (R19). -/
  errors : Nat
  /-- ALERT overflow counter (R15). -/
  overflow : Nat
  /-- PATH drop counter (R17). -/
  drops : Nat
  /-- The token the next STATE frame carries (R22). -/
  token : Nat
  /-- Whether an unexpected sender has been met since START (R25). -/
  unexpectedSeen : Bool
  /-- The ticket of the next frame queued: the model's own numbering. -/
  nextTicket : Nat
  deriving DecidableEq, Repr

/-! ## What frames carry -/

/-- One door slot as a STATE frame reports it (Table 2.5). -/
structure DoorReport where
  state : DoorState
  edge : Bool
  deriving DecidableEq, Repr

/-- The content of a STATE frame (Table 2.5). -/
structure StateContent where
  token : Nat
  station : Nat
  faultCount : Nat
  /-- 0 none, 1 Q, 2 I. -/
  worstClass : Nat
  starvingSoon : Bool
  axleSpeed : Nat
  speedValid : Bool
  markValid : Bool
  slipActive : Bool
  backup : Bool
  mark : Nat
  lag : Nat
  mode : Mode
  tractionInhibit : Bool
  speedLimit : Bool
  commanded : Nat
  halt : HaltState
  air : AirStatus
  jackReduction : Bool
  fillInProgress : Bool
  measured : Nat
  level : LevelState
  participant : Bool
  axleLoad : Nat
  reservoir : Nat
  heightL : Nat
  door0 : DoorReport
  heightR : Nat
  door1 : DoorReport
  steerMode : SteerMode
  jackAlert : Bool
  jointPresent : Bool
  deviationAvailable : Bool
  appliedSteer : Int
  measuredSteer : Int
  articulation : Int
  deviation : Int
  deriving DecidableEq, Repr

/-- The content of a DRIVER frame (Table 2.6). -/
structure DriverContent where
  demand : Nat
  direction : Direction
  level : LevelRequest
  driveIntent : Bool
  haltSwitch : Bool
  doorMask : Nat
  docking : Bool
  angleValid : Bool
  curvature : Int
  frontAngle : Int
  deriving DecidableEq, Repr

/-- The content of a PATH frame (Table 2.7). -/
structure PathSample where
  mark : Nat
  curvature : Int
  firstAfterBreak : Bool
  gapBefore : Bool
  deriving DecidableEq, Repr

/-- Alert kinds (Table 2.8). -/
inductive AlertKind where
  | doorUnreleased
  | edge
  | standstillLost
  | jackknife
  | limpEntered
  deriving DecidableEq, Repr

/-- The content of an ALERT frame (Table 2.8); `slot` is 255 for the kinds that name no door. -/
structure Alert where
  kind : AlertKind
  station : Nat
  slot : Nat
  value : Int
  deriving DecidableEq, Repr

/-! ## The peer table (section 2.7) -/

/-- One peer record (Table 2.10). A latch is `some n` while it is set, with n STATE contents stored since (R40). -/
structure PeerRecord where
  presence : Presence
  errors : Nat
  goodRun : Nat
  reference : Option Nat
  /-- When the last accepted STATE frame arrived: the silence timer runs from it. -/
  acceptedAt : Option Micros
  /-- The next MISSED deadline (R35). -/
  deadline : Option Micros
  /-- When the record entered LOST: the loss time runs from it (R39). -/
  lostAt : Option Micros
  content : Option StateContent
  stale : Bool
  doorLatch0 : Option Nat
  doorLatch1 : Option Nat
  edgeLatch0 : Option Nat
  edgeLatch1 : Option Nat
  jackLatch : Option Nat
  deriving DecidableEq, Repr

/-- The driver content a station holds, from when its age runs, and the driver status (R41). -/
structure DriverHold where
  content : Option DriverContent
  since : Micros
  status : DriverStatus
  deriving DecidableEq, Repr

/-! ## Speed and odometry (Table 3.4) -/

/-- One wheel input. -/
structure Wheel where
  /-- The last edge, if timing has started (R43). -/
  lastEdge : Option Micros
  /-- The period capture in µs (R43). -/
  capture : Option Nat
  speed : Nat
  excluded : Bool
  /-- Whether the input circuit detects an open or a short (R45). -/
  openShort : Bool
  /-- Expiries in a row at which the plausibility test has failed, up to 200 (R46). -/
  implausible : Nat
  /-- The period accumulator, in units of 1/teeth µm (R50). -/
  accumulator : Nat
  deriving DecidableEq, Repr

structure Odometry where
  left : Wheel
  right : Wheel
  axleSpeed : Nat
  speedValid : Bool
  /-- v_ref (R49). -/
  reference : Nat
  /-- The half µm carried into the next period's sum, 0 or 1 (R51). -/
  halfCarry : Nat
  /-- The mark accumulator, in µm (R51). -/
  markAccumulator : Nat
  mark : Nat
  markValid : Bool
  /-- An increment has carried the mark to its end, where it stays until the next START (R54). -/
  saturated : Bool
  source : OdometerSource
  /-- The borrow time, in ms (R52). -/
  borrowTime : Nat
  direction : Direction
  standstill : Bool
  /-- The set run of R57, in expiries. -/
  setRun : Nat
  deriving DecidableEq, Repr

/-! ## Path generator (Table 4.3) and track memory (R67) -/

structure PathGenerator where
  frontAngle : Int
  curvature : Int
  nextMark : Option Nat
  breakPending : Bool
  gapPending : Bool
  deriving DecidableEq, Repr

structure TrackEntry where
  mark : Nat
  curvature : Int
  gap : Bool
  deriving DecidableEq, Repr

structure TrackMemory where
  /-- Oldest first. -/
  entries : List TrackEntry
  gapCount : Nat
  highWater : Bool
  /-- Stale-sample count (R68). -/
  staleCount : Nat
  status : TrackStatus
  starvingSoon : Bool
  /-- The starved run, in expiries (R76). -/
  starvedRun : Nat
  deriving DecidableEq, Repr

/-! ## Steering (Table 5.1) and joint monitor (Table 6.1) -/

structure Steering where
  mode : SteerMode
  /-- The target as R90 forms and keeps it, before the speed limit. -/
  unlimited : Int
  /-- The target clamped to the speed limit (R94). -/
  target : Int
  applied : Int
  staged : Int
  /-- The demand line output. -/
  line : Int
  /-- The lock-release solenoid, energised or not. -/
  solenoid : Bool
  /-- The docking contribution (R93). -/
  docking : Int
  measured : Int
  lockLoss : Nat
  notValid : Nat
  guidedExit : Nat
  centred : Nat
  mismatch : Nat
  travel : Nat
  failedLatch : Bool
  deriving DecidableEq, Repr

structure JointMonitor where
  measured : Int
  expected : Option Int
  deviation : Option Int
  jackAlert : Bool
  setRun : Nat
  clearRun : Nat
  fold : Bool
  /-- The damper demand line in percent, `none` while de-energised (R108). -/
  damper : Option Nat
  protectionOff : Bool
  deriving DecidableEq, Repr

/-! ## Braking (Tables 7.1 and 7.4) -/

/-- One wheel's slip record and its two modulator lines (R112, R121). -/
structure SlipRecord where
  state : SlipState
  steps : Nat
  phase : Nat
  previous : Nat
  holdLine : Bool
  dumpLine : Bool
  deriving DecidableEq, Repr

structure Braking where
  demand : Nat
  load : Nat
  commanded : Nat
  staged : Nat
  /-- The relay demand line output. -/
  line : Nat
  /-- The backup select line, energised or not. -/
  select : Bool
  measured : Nat
  /-- The halt contribution. -/
  halt : Nat
  jackReduction : Bool
  slipL : SlipRecord
  slipR : SlipRecord
  driverLost : Bool
  latched : Option LatchedCause
  backup : Bool
  exitRun : Nat
  mismatchRun : Nat
  mismatchReference : Nat
  deriving DecidableEq, Repr

/-! ## Air and levelling (Tables 8.1 to 8.3) -/

structure Corner where
  height : Nat
  bellows : Nat
  target : Nat
  condition : Option HeightCondition
  excluded : Bool
  bellowsCondition : Bool
  stuckReference : Nat
  stuckCount : Nat
  deriving DecidableEq, Repr

structure Channel where
  state : ChannelState
  kind : RunKind
  direction : FlowDirection
  pulses : Nat
  gated : Bool
  /-- Whether the valve the channel drives is open now (R136). -/
  valveOpen : Bool
  /-- When the last pulse opened (R138). -/
  pulseFrom : Micros
  deriving DecidableEq, Repr

structure Levelling where
  air : AirStatus
  reservoir : Nat
  reservoirLatch : Bool
  cornerL : Corner
  cornerR : Corner
  channelL : Channel
  channelR : Channel
  level : LevelState
  /-- The twist gate, in mm (R148). -/
  gate : Option Int
  /-- The gate neighbours below and above (R148). -/
  gateBelow : Option Nat
  gateAbove : Option Nat
  /-- Expiries in KNEELING, and counted expiries in RETURNING (R146, R147). -/
  kneelTimer : Nat
  returnTime : Nat
  kneelDisabled : Bool
  axleLoad : Nat
  deriving DecidableEq, Repr

/-! ## Door interlock (Table 9.1) -/

structure DoorSlot where
  /-- The door record; `none` for a slot that is not fitted. -/
  state : DoorState
  /-- Edge state active. -/
  edge : Bool
  /-- The last reading of the closed-locked input: closed and locked. -/
  closed : Bool
  grant : Bool
  /-- The release line, energised or not. -/
  release : Bool
  /-- Whether the gate of R166 has de-energised the line since the grant was given. -/
  gatedOff : Bool
  deriving DecidableEq, Repr

structure DoorInterlock where
  slot0 : DoorSlot
  slot1 : DoorSlot
  halt : HaltState
  tractionInhibit : DrivenLine
  speedLimit : DrivenLine
  deriving DecidableEq, Repr

/-! ## Station supervisor (Table 10.1) -/

/-- A run of the supply monitor (R176). -/
inductive SupplyRun where
  /-- The supply is outside the run's band. -/
  | clear
  /-- The supply has been in the band since this moment, for less than 5 ms when it was last read. -/
  | counting (since : Micros)
  /-- The run has reached 5 ms, and the supply is still in the band. -/
  | reached
  deriving DecidableEq, Repr

/-- A fault record (R182). Its class is that of its code (Table 10.6). -/
structure FaultRecord where
  code : FaultCode
  state : RecordState
  count : Nat
  first : Nat
  last : Nat
  deriving DecidableEq, Repr

structure Supervisor where
  power : Power
  mode : Mode
  restartCounter : Nat
  /-- The RUN time runs from here (R178). -/
  runFrom : Option Micros
  /-- The station time runs from here (R171). -/
  poweredAt : Micros
  /-- The SYNC time and the adoption timer run from here (R173, R55). -/
  syncFrom : Option Micros
  /-- The low and the high run of the supply monitor (R176). -/
  lowRun : SupplyRun
  highRun : SupplyRun
  /-- The good run, and the power-up wait, run from here (R172, R177). -/
  goodFrom : Option Micros
  /-- The deferral window: `some t` is OPEN since t (R181). -/
  windowFrom : Option Micros
  /-- The window's pending consequences, oldest first. -/
  deferred : List FaultCode
  /-- The consequences in effect until the next START (R180). -/
  effects : List FaultCode
  /-- The faults whose condition is present. -/
  conditions : List FaultCode
  /-- Oldest first (R183). -/
  faults : List FaultRecord
  overflow : Nat
  listFull : Bool
  limpLine : DrivenLine
  deriving DecidableEq, Repr

/-! ## The station -/

structure State where
  /-- The commands that wait, first in, first out. -/
  pending : List Instr
  /-- The station's own count of time. -/
  now : Micros
  loader : Loader
  link : Link
  /-- One record for each other station 1..N, by station number, rising (R33). -/
  peers : List (Nat × PeerRecord)
  driver : DriverHold
  odo : Odometry
  path : PathGenerator
  track : TrackMemory
  steer : Steering
  joint : JointMonitor
  brake : Braking
  air : Levelling
  doors : DoorInterlock
  sup : Supervisor
  deriving DecidableEq, Repr

/-! ## Setting one block -/

def State.setNow (s : State) (x : Micros) : State := { s with now := x }
def State.setLoader (s : State) (x : Loader) : State := { s with loader := x }
def State.setLink (s : State) (x : Link) : State := { s with link := x }
def State.setPeers (s : State) (x : List (Nat × PeerRecord)) : State := { s with peers := x }
def State.setDriver (s : State) (x : DriverHold) : State := { s with driver := x }
def State.setOdo (s : State) (x : Odometry) : State := { s with odo := x }
def State.setPath (s : State) (x : PathGenerator) : State := { s with path := x }
def State.setTrack (s : State) (x : TrackMemory) : State := { s with track := x }
def State.setSteer (s : State) (x : Steering) : State := { s with steer := x }
def State.setJoint (s : State) (x : JointMonitor) : State := { s with joint := x }
def State.setBrake (s : State) (x : Braking) : State := { s with brake := x }
def State.setAir (s : State) (x : Levelling) : State := { s with air := x }
def State.setDoors (s : State) (x : DoorInterlock) : State := { s with doors := x }
def State.setSup (s : State) (x : Supervisor) : State := { s with sup := x }

/-! ## Values after START (Tables 2.10, 3.4, 4.3, 5.1, 6.1, 7.1, 8.1 to 8.3, 9.1), where they do not depend on what START reads -/

/-- A link engine that is not running, with its queue empty and its counters at 0 (R18, R21). -/
def Link.initial : Link :=
  { state := .stopped, since := 0, leftListen := none, alerts := [], driver := none, paths := [], stateFrame := none,
    answer := none, attempt := none, errors := 0, overflow := 0, drops := 0, token := 1, unexpectedSeen := false,
    nextTicket := 0 }

def PeerRecord.initial : PeerRecord :=
  { presence := .absent, errors := 0, goodRun := 0, reference := none, acceptedAt := none, deadline := none,
    lostAt := none, content := none, stale := false, doorLatch0 := none, doorLatch1 := none, edgeLatch0 := none,
    edgeLatch1 := none, jackLatch := none }

def DriverHold.initial : DriverHold := { content := none, since := 0, status := .none }

def Wheel.initial : Wheel :=
  { lastEdge := none, capture := none, speed := 0, excluded := false, openShort := false, implausible := 0,
    accumulator := 0 }

/-- The block after START (Table 3.4). DESIGN CHOICE: an axle mark that is not yet set holds 0 (notes/assumptions/8.md). -/
def Odometry.initial : Odometry :=
  { left := Wheel.initial, right := Wheel.initial, axleSpeed := 0, speedValid := true, reference := 0, halfCarry := 0,
    markAccumulator := 0, mark := 0, markValid := false, saturated := false, source := .own, borrowTime := 0,
    direction := .forward, standstill := false, setRun := 0 }

def PathGenerator.initial : PathGenerator :=
  { frontAngle := 0, curvature := 0, nextMark := none, breakPending := true, gapPending := false }

/-- The high watermark is clear and starving-soon set. R71 has START clear both of the memory's flags and then has the
starving-soon flag set; DESIGN CHOICE: the second is followed (notes/assumptions/40.md). -/
def TrackMemory.initial : TrackMemory :=
  { entries := [], gapCount := 0, highWater := false, staleCount := 0, status := .empty, starvingSoon := true,
    starvedRun := 0 }

def Steering.initial : Steering :=
  { mode := .locked, unlimited := 0, target := 0, applied := 0, staged := 0, line := 0, solenoid := false, docking := 0, measured := 0,
    lockLoss := 0, notValid := 0, guidedExit := 0, centred := 0, mismatch := 0, travel := 0, failedLatch := false }

def JointMonitor.initial : JointMonitor :=
  { measured := 0, expected := none, deviation := none, jackAlert := false, setRun := 0, clearRun := 0, fold := false,
    damper := none, protectionOff := false }

def SlipRecord.initial : SlipRecord :=
  { state := .free, steps := 0, phase := 0, previous := 0, holdLine := false, dumpLine := false }

/-- `laden` is the laden default of the working copy. -/
def Braking.initial (laden : Nat) : Braking :=
  { demand := 0, load := laden, commanded := 0, staged := 0, line := 0, select := false, measured := 0, halt := 0,
    jackReduction := false, slipL := SlipRecord.initial, slipR := SlipRecord.initial, driverLost := true,
    latched := none, backup := true, exitRun := 0, mismatchRun := 0, mismatchReference := 0 }

def Corner.initial (height target : Nat) : Corner :=
  { height := height, bellows := 0, target := target, condition := none, excluded := false, bellowsCondition := false,
    stuckReference := height, stuckCount := 0 }

def Channel.initial : Channel :=
  { state := .idle, kind := .pulsed, direction := .fill, pulses := 0, gated := false, valveOpen := false, pulseFrom := 0 }

/-- The levelling block of a station without a working copy: what R151 says it reports. -/
def Levelling.initial : Levelling :=
  { air := .protect, reservoir := 0, reservoirLatch := false, cornerL := Corner.initial 0 0,
    cornerR := Corner.initial 0 0, channelL := Channel.initial, channelR := Channel.initial, level := .level,
    gate := none, gateBelow := none, gateAbove := none, kneelTimer := 0, returnTime := 0, kneelDisabled := false,
    axleLoad := 0 }

def DoorSlot.unfitted : DoorSlot :=
  { state := .none, edge := false, closed := false, grant := false, release := false, gatedOff := false }

def DoorInterlock.initial : DoorInterlock :=
  { slot0 := DoorSlot.unfitted, slot1 := DoorSlot.unfitted, halt := .off, tractionInhibit := .notDriven,
    speedLimit := .notDriven }

/-- The supervisor after power-up (Table 10.1), of a part that has no supply yet. -/
def Supervisor.initial : Supervisor :=
  { power := .off, mode := .start, restartCounter := 0, runFrom := none, poweredAt := 0, syncFrom := none, lowRun := .clear,
    highRun := .clear, goodFrom := none, windowFrom := none, deferred := [], effects := [], conditions := [], faults := [],
    overflow := 0, listFull := false, limpLine := .notDriven }

/-- The part before supply is applied: every block at its values after power-up, no command waiting
(notes/assumptions/2.md). -/
def State.reset : State :=
  { pending := [], now := 0, loader := { strap := 0, image := [], copy := none }, link := Link.initial, peers := [],
    driver := DriverHold.initial, odo := Odometry.initial, path := PathGenerator.initial, track := TrackMemory.initial,
    steer := Steering.initial, joint := JointMonitor.initial, brake := Braking.initial 0, air := Levelling.initial,
    doors := DoorInterlock.initial, sup := Supervisor.initial }

end Sys2Proof.Machine
end

