-- ==== Sys2Proof/Machine/Frames.lean ====
section
/-! DEFINITION. The byte layouts of the Axle Link: STATE, DRIVER, PATH and ALERT frames (R28 to R32), the codings of their
fields, and the fault record of a READ_FAULTS answer (R187). A decoder answers `none` for a malformed payload (R27). -/

namespace Sys2Proof.Machine

/-! ## Bytes and bits (R28) -/

/-- The low byte of a number. -/
def toByte (n : Nat) : Byte := BitVec.ofNat 8 n

/-- Multi-byte fields, least significant byte first (R28). -/
def le16 (n : Nat) : Payload := [toByte n, toByte (n / 256)]
def le24 (n : Nat) : Payload := [toByte n, toByte (n / 256), toByte (n / 65536)]
def le32 (n : Nat) : Payload := [toByte n, toByte (n / 256), toByte (n / 65536), toByte (n / 16777216)]

/-- Byte `i` of a payload as a number; a byte beyond the end reads 0. -/
def byteAt (p : Payload) (i : Nat) : Nat := (p.getD i 0).toNat

/-- The multi-byte fields at byte `i` (R28). -/
def word16At (p : Payload) (i : Nat) : Nat := byteAt p i + 256 * byteAt p (i + 1)
def word32At (p : Payload) (i : Nat) : Nat := word16At p i + 65536 * word16At p (i + 2)

/-- A flag as a bit, and a bit as a flag. -/
def flagBit (b : Bool) : Nat := if b then 1 else 0
def bitFlag (n k : Nat) : Bool := n / 2 ^ k % 2 == 1

/-- The field of `width` bits from bit `k` (R28). -/
def bitField (n k width : Nat) : Nat := n / 2 ^ k % 2 ^ width

/-- A signed 16-bit field in two's complement (R28). -/
def signed16 (x : Int) : Nat := (x % 65536).toNat
def fromSigned16 (n : Nat) : Int := if n < 32768 then (n : Int) else (n : Int) - 65536

/-! ## Codings (Tables 2.5, 2.6, 2.8) -/

/-- The mode's code in a STATE frame and a READ_STATUS answer; START and RESTART send neither. -/
def Mode.code : Mode → Nat
  | .sync => 0
  | .run => 1
  | .degraded => 2
  | .limp => 3
  | .start => 0
  | .restart => 0

def Mode.ofCode : Nat → Mode
  | 0 => .sync
  | 1 => .run
  | 2 => .degraded
  | _ => .limp

def HaltState.code : HaltState → Nat
  | .off => 0
  | .applying => 1
  | .applied => 2
  | .releasing => 3

def HaltState.ofCode : Nat → HaltState
  | 0 => .off
  | 1 => .applying
  | 2 => .applied
  | _ => .releasing

def AirStatus.code : AirStatus → Nat
  | .normal => 0
  | .prewarn => 1
  | .protect => 2

def AirStatus.ofCode? : Nat → Option AirStatus
  | 0 => some .normal
  | 1 => some .prewarn
  | 2 => some .protect
  | _ => none

def LevelState.code : LevelState → Nat
  | .level => 0
  | .raising => 1
  | .raised => 2
  | .descending => 3
  | .kneeling => 4
  | .kneeled => 5
  | .kneelHeld => 6
  | .returning => 7

def LevelState.ofCode : Nat → LevelState
  | 0 => .level
  | 1 => .raising
  | 2 => .raised
  | 3 => .descending
  | 4 => .kneeling
  | 5 => .kneeled
  | 6 => .kneelHeld
  | _ => .returning

def DoorState.code : DoorState → Nat
  | .none => 0
  | .locked => 1
  | .released => 2
  | .opened => 3
  | .closingWait => 4
  | .unreleasedOpen => 5

def DoorState.ofCode? : Nat → Option DoorState
  | 0 => some .none
  | 1 => some .locked
  | 2 => some .released
  | 3 => some .opened
  | 4 => some .closingWait
  | 5 => some .unreleasedOpen
  | _ => Option.none

def SteerMode.code : SteerMode → Nat
  | .locked => 0
  | .centring => 1
  | .tracking => 2
  | .guided => 3
  | .failed => 4

def SteerMode.ofCode? : Nat → Option SteerMode
  | 0 => some .locked
  | 1 => some .centring
  | 2 => some .tracking
  | 3 => some .guided
  | 4 => some .failed
  | _ => none

def directionCode : Direction → Nat
  | .forward => 0
  | .neutral => 1
  | .reverse => 2

def directionOfCode? : Nat → Option Direction
  | 0 => some .forward
  | 1 => some .neutral
  | 2 => some .reverse
  | _ => none

def requestCode : LevelRequest → Nat
  | .drive => 0
  | .raise => 1
  | .kneel => 2

def requestOfCode? : Nat → Option LevelRequest
  | 0 => some .drive
  | 1 => some .raise
  | 2 => some .kneel
  | _ => none

def AlertKind.code : AlertKind → Nat
  | .doorUnreleased => 1
  | .edge => 2
  | .standstillLost => 3
  | .jackknife => 4
  | .limpEntered => 5

def AlertKind.ofCode? : Nat → Option AlertKind
  | 1 => some .doorUnreleased
  | 2 => some .edge
  | 3 => some .standstillLost
  | 4 => some .jackknife
  | 5 => some .limpEntered
  | _ => none

/-! ## Identifiers (R11) -/

/-- Frame class × 8 + the sender's station number. -/
def identifierOf (frameClass station : Nat) : Nat := frameClass * 8 + station

def classAlert : Nat := 0
def classDriver : Nat := 1
def classPath : Nat := 2
def classState : Nat := 3
def classService : Nat := 6

/-! ## STATE frames (R29, Table 2.5) -/

/-- The 16 bits of a height field with its door slot: bits 0–8, 9–11 and 12. -/
def heightWord (height : Nat) (d : DoorReport) : Nat := height + 512 * d.state.code + 4096 * flagBit d.edge

/-- A STATE frame's 32 bytes. A field whose validity or presence flag is clear is sent as 0 (R28). -/
def encodeState (c : StateContent) : Payload :=
  [toByte (c.token + 16 * c.station),
   toByte (c.faultCount + 32 * c.worstClass + 128 * flagBit c.starvingSoon)]
  ++ le16 (c.axleSpeed + 4096 * flagBit c.speedValid + 8192 * flagBit c.markValid + 16384 * flagBit c.slipActive
      + 32768 * flagBit c.backup)
  ++ le32 (if c.markValid then c.mark else 0)
  ++ le16 (c.lag + 4096 * c.mode.code + 16384 * flagBit c.tractionInhibit + 32768 * flagBit c.speedLimit)
  ++ le16 (c.commanded + 1024 * c.halt.code + 4096 * c.air.code + 16384 * flagBit c.jackReduction
      + 32768 * flagBit c.fillInProgress)
  ++ le16 (c.measured + 1024 * c.level.code + 8192 * flagBit c.participant)
  ++ le16 c.axleLoad
  ++ le16 c.reservoir
  ++ le16 (heightWord c.heightL c.door0)
  ++ le16 (heightWord c.heightR c.door1)
  ++ [toByte (c.steerMode.code + 8 * flagBit (c.jointPresent && c.jackAlert) + 16 * flagBit c.jointPresent
      + 32 * flagBit (c.jointPresent && c.deviationAvailable)), 0]
  ++ le16 (signed16 c.appliedSteer)
  ++ le16 (signed16 c.measuredSteer)
  ++ le16 (signed16 (if c.jointPresent then c.articulation else 0))
  ++ le16 (signed16 (if c.jointPresent && c.deviationAvailable then c.deviation else 0))

/-- The content a STATE frame of 32 bytes carries, numeric fields brought to the nearest end of their range (R7);
`none` where a coded field is outside its coding (R27). Fields whose flag is clear are not used, and read 0 (R28). -/
def decodeStateFields (p : Payload) : Option StateContent :=
  let b0 := byteAt p 0
  let b1 := byteAt p 1
  let w2 := word16At p 2
  let w8 := word16At p 8
  let w10 := word16At p 10
  let w12 := word16At p 12
  let w18 := word16At p 18
  let w20 := word16At p 20
  let b22 := byteAt p 22
  let markValid := bitFlag w2 13
  let jointPresent := bitFlag b22 4
  let deviationAvailable := jointPresent && bitFlag b22 5
  match AirStatus.ofCode? (bitField w10 12 2), DoorState.ofCode? (bitField w18 9 3),
      DoorState.ofCode? (bitField w20 9 3), SteerMode.ofCode? (bitField b22 0 3) with
  | some air, some door0, some door1, some steer =>
    if bitField b0 0 4 = 0 ∨ bitField b1 0 5 > 16 ∨ bitField b1 5 2 > 2 then none
    else some
      { token := bitField b0 0 4, station := bitField b0 4 3, faultCount := bitField b1 0 5,
        worstClass := bitField b1 5 2, starvingSoon := bitFlag b1 7,
        axleSpeed := min Config.maxSpeed (bitField w2 0 12), speedValid := bitFlag w2 12, markValid := markValid,
        slipActive := bitFlag w2 14, backup := bitFlag w2 15,
        mark := if markValid then min Config.maxMark (word32At p 4) else 0,
        lag := min Config.maxLag (bitField w8 0 12), mode := Mode.ofCode (bitField w8 12 2),
        tractionInhibit := bitFlag w8 14, speedLimit := bitFlag w8 15,
        commanded := min Config.maxPressure (bitField w10 0 10), halt := HaltState.ofCode (bitField w10 10 2),
        air := air, jackReduction := bitFlag w10 14, fillInProgress := bitFlag w10 15,
        measured := min Config.maxPressure (bitField w12 0 10), level := LevelState.ofCode (bitField w12 10 3),
        participant := bitFlag w12 13, axleLoad := word16At p 14,
        reservoir := min Config.maxPressure (bitField (word16At p 16) 0 10),
        heightL := min Config.maxHeight (bitField w18 0 9), door0 := { state := door0, edge := bitFlag w18 12 },
        heightR := min Config.maxHeight (bitField w20 0 9), door1 := { state := door1, edge := bitFlag w20 12 },
        steerMode := steer, jackAlert := jointPresent && bitFlag b22 3, jointPresent := jointPresent,
        deviationAvailable := deviationAvailable,
        appliedSteer := clampInt Config.maxAngle (fromSigned16 (word16At p 24)),
        measuredSteer := clampInt Config.maxAngle (fromSigned16 (word16At p 26)),
        articulation := if jointPresent then clampInt Config.maxAngle (fromSigned16 (word16At p 28)) else 0,
        deviation := if deviationAvailable then clampInt Config.maxAngle (fromSigned16 (word16At p 30)) else 0 }
  | _, _, _, _ => none

/-- A STATE payload from the sender of the identifier, or `none` where it is malformed (R27). -/
def decodeState (sender : Nat) (p : Payload) : Option StateContent :=
  if p.length ≠ 32 ∨ bitField (byteAt p 0) 4 3 ≠ sender then none else decodeStateFields p

/-! ## DRIVER frames (R30, Table 2.6) -/

def encodeDriver (c : DriverContent) : Payload :=
  le16 (c.demand + 1024 * directionCode c.direction + 4096 * requestCode c.level + 16384 * flagBit c.driveIntent
      + 32768 * flagBit c.haltSwitch)
  ++ le16 (c.doorMask + 4096 * flagBit c.docking + 8192 * flagBit c.angleValid)
  ++ le16 (signed16 (if c.angleValid then c.curvature else 0))
  ++ le16 (signed16 (if c.angleValid then c.frontAngle else 0))
  ++ [0, 0, 0, 0]

/-- A DRIVER payload, or `none` where it is malformed (R27). -/
def decodeDriver (p : Payload) : Option DriverContent :=
  let w0 := word16At p 0
  let w2 := word16At p 2
  if p.length ≠ 12 then none
  else
    match directionOfCode? (bitField w0 10 2), requestOfCode? (bitField w0 12 2) with
    | some direction, some level => some
        { demand := min Config.maxDemand (bitField w0 0 10), direction := direction, level := level,
          driveIntent := bitFlag w0 14, haltSwitch := bitFlag w0 15, doorMask := bitField w2 0 12,
          docking := bitFlag w2 12, angleValid := bitFlag w2 13,
          curvature := if bitFlag w2 13 then clampInt Config.maxCurvature (fromSigned16 (word16At p 4)) else 0,
          frontAngle := if bitFlag w2 13 then clampInt Config.maxAngle (fromSigned16 (word16At p 6)) else 0 }
    | _, _ => none

/-! ## PATH frames (R31, Table 2.7) -/

def encodePath (c : PathSample) : Payload :=
  le32 c.mark ++ le16 (signed16 c.curvature) ++ [toByte (flagBit c.firstAfterBreak + 2 * flagBit c.gapBefore), 0]

/-- A PATH payload, or `none` where it is malformed (R27). -/
def decodePath (p : Payload) : Option PathSample :=
  if p.length ≠ 8 then none
  else some
    { mark := min Config.maxMark (word32At p 0),
      curvature := clampInt Config.maxCurvature (fromSigned16 (word16At p 4)),
      firstAfterBreak := bitFlag (byteAt p 6) 0, gapBefore := bitFlag (byteAt p 6) 1 }

/-! ## ALERT frames (R32, Tables 2.8 and 2.9) -/

/-- Whether the door slot fits the alert kind: 0 or 1 for the two door kinds, 255 for every other (R32). -/
def AlertKind.slotFits (k : AlertKind) (slot : Nat) : Bool :=
  match k with
  | .doorUnreleased | .edge => slot == 0 || slot == 1
  | .standstillLost | .jackknife | .limpEntered => slot == 255

def encodeAlert (a : Alert) : Payload :=
  [toByte a.kind.code, toByte a.station, toByte a.slot, 0] ++ le16 (signed16 a.value) ++ [0, 0]

/-- An ALERT payload from the sender of the identifier, or `none` where it is malformed (R27). -/
def decodeAlert (sender : Nat) (p : Payload) : Option Alert :=
  if p.length ≠ 8 ∨ byteAt p 1 ≠ sender then none
  else
    match AlertKind.ofCode? (byteAt p 0) with
    | none => none
    | some k =>
      if k.slotFits (byteAt p 2) then
        some { kind := k, station := byteAt p 1, slot := byteAt p 2, value := fromSigned16 (word16At p 4) }
      else none

/-! ## Faults as the service tool sees them (R187) -/

/-- Codes are numbered 1..29 in the order of Table 10.6. -/
def FaultCode.number : FaultCode → Nat
  | .config => 1
  | .supply => 2
  | .restartLimit => 3
  | .wheelSensorsBoth => 4
  | .steerMismatch => 5
  | .steerSensor => 6
  | .steerInput => 7
  | .pedalInput => 8
  | .brakePressureMismatch => 9
  | .brakeSensor => 10
  | .cabLost => 11
  | .paramClamped => 12
  | .wheelSensorL => 13
  | .wheelSensorR => 14
  | .jointSensor => 15
  | .heightSensorL => 16
  | .heightSensorR => 17
  | .bellowsSensor => 18
  | .reservoirSensor => 19
  | .trackStarved => 20
  | .trackOverflow => 21
  | .trackNearFull => 22
  | .peerLost => 23
  | .linkSilent => 24
  | .kneelTimeout => 25
  | .raiseTimeout => 26
  | .doorUnreleased => 27
  | .stationUnexpected => 28
  | .odometerSaturated => 29

/-- The class of a code (Table 10.6): the first eleven are of class I, the rest of class Q. -/
def FaultCode.classI (c : FaultCode) : Bool := c.number ≤ 11

/-- The class as STATE and READ_FAULTS code it: 1 Q, 2 I. -/
def FaultCode.classCode (c : FaultCode) : Nat := if c.classI then 2 else 1

def RecordState.code : RecordState → Nat
  | .active => 0
  | .deferred => 1
  | .passive => 2

/-- The 9 bytes of a fault record (R187). -/
def encodeRecord (r : FaultRecord) : Payload :=
  [toByte r.code.number, toByte (r.code.classCode + 4 * r.state.code), toByte r.count] ++ le24 r.first ++ le24 r.last

end Sys2Proof.Machine
end

