-- ==== Sys2Proof/Machine/Operands.lean ====
section
/-! DEFINITION. How a command's operands are read: the test of an analogue input, the reading of door switches, and the
side a command names. -/

namespace Sys2Proof.Machine

/-- The reading of an input that shows neither an open nor a short and lies within lo..hi; `none` where the input is
faulty (R61, R98, R102, R114, R126, R133, R137, R149). -/
def soundReading (lo hi : Int) : AnalogIn → Option Int
  | .openShort => none
  | .reading v => if lo ≤ v ∧ v ≤ hi then some v else none

/-- A sound reading of a quantity that is never negative. -/
def soundNat (hi : Nat) (x : AnalogIn) : Option Nat := (soundReading 0 hi x).map Int.toNat

/-- A closed-locked input that shows an open or a short reads as not closed-locked (R155). -/
def closedLocked : SwitchIn → Bool
  | .on => true
  | .off => false
  | .openShort => false

/-- An edge input that shows an open or a short reads as edge active (R155). -/
def edgeActive : SwitchIn → Bool
  | .on => true
  | .off => false
  | .openShort => true

/-- A wheel input by its side. -/
def Odometry.wheel (o : Odometry) : Side → Wheel
  | .left => o.left
  | .right => o.right

def Odometry.setWheel (o : Odometry) (side : Side) (w : Wheel) : Odometry :=
  match side with
  | .left => { o with left := w }
  | .right => { o with right := w }

/-- A corner, and its valve channel, by side. -/
def Levelling.corner (a : Levelling) : Side → Corner
  | .left => a.cornerL
  | .right => a.cornerR

def Levelling.setCorner (a : Levelling) (side : Side) (c : Corner) : Levelling :=
  match side with
  | .left => { a with cornerL := c }
  | .right => { a with cornerR := c }

def Levelling.channel (a : Levelling) : Side → Channel
  | .left => a.channelL
  | .right => a.channelR

def Levelling.setChannel (a : Levelling) (side : Side) (c : Channel) : Levelling :=
  match side with
  | .left => { a with channelL := c }
  | .right => { a with channelR := c }

/-- A slip record by side. -/
def Braking.slip (b : Braking) : Side → SlipRecord
  | .left => b.slipL
  | .right => b.slipR

/-- The other side of the axle. -/
def otherSide : Side → Side
  | .left => .right
  | .right => .left

/-- The fault code of a side's wheel sensor and height sensor. -/
def wheelFault : Side → FaultCode
  | .left => .wheelSensorL
  | .right => .wheelSensorR

def heightFault : Side → FaultCode
  | .left => .heightSensorL
  | .right => .heightSensorR

/-- The kerb corner's side: the kerb side parameter is 0 for right, 1 for left (R6, Table 11.1). -/
def kerbOf (p : Params) : Side := if p.kerbSide = 1 then .left else .right

/-- A DRIVER line's own bit for door slot `slot` of station `k`: 2 × (k − 1) + slot (R24). -/
def doorBit (k slot : Nat) : Nat := 2 * (k - 1) + slot

end Sys2Proof.Machine
end

