-- ==== Sys2Proof/Machine/Flags.lean ====
section
/-! DEFINITION. What the blocks ask of the state: the station's role and mode, the driver status, peers' presence, fault
conditions, and the flags that a STATE frame summarises. -/

namespace Sys2Proof.Machine

/-! ## Role (R1, R2) -/

/-- The station number is the strap value (R1). -/
def State.station (s : State) : Nat := s.loader.strap

/-- N, taken as 6 where the parameter block could not be read (R25). -/
def State.axles (s : State) : Nat :=
  match s.loader.copy with
  | some p => p.axles
  | none => 6

def State.isCab (s : State) : Bool := s.station == 1

def State.hasCopy (s : State) : Bool := s.loader.copy.isSome

/-- The station number has a column of Table 1.1 with neither steering nor a joint: the cab's, or station 2's. -/
def State.ofFrontColumns (s : State) : Bool := s.station == 1 || s.station == 2

/-- The working copy marks the station as steered, by which R89 gives its steer mode in LIMP (notes/assumptions/21.md). -/
def State.marksSteered (s : State) : Bool :=
  match s.loader.copy with
  | some p => p.steered == 1
  | none => false

/-- A steered, and a joint-owning, station: by parameter, and never at station numbers 1 and 2 (Table 1.1). A strap value
that names no column goes by the words (notes/assumptions/21.md). -/
def State.isSteered (s : State) : Bool := s.marksSteered && !s.ofFrontColumns

def State.ownsJoint (s : State) : Bool :=
  match s.loader.copy with
  | some p => p.jointOwned == 1 && !s.ofFrontColumns
  | none => false

/-- A steered or joint-owning station keeps a track memory (Table 1.1). -/
def State.keepsTrack (s : State) : Bool := s.isSteered || s.ownsJoint

/-! ## Mode -/

/-- SYNC, RUN or DEGRADED: the modes in which the blocks do all their work. -/
def State.working (s : State) : Bool :=
  match s.sup.mode with
  | .sync | .run | .degraded => true
  | .start | .restart | .limp => false

/-- RUN or DEGRADED. -/
def State.runOrDegraded (s : State) : Bool :=
  match s.sup.mode with
  | .run | .degraded => true
  | .start | .sync | .restart | .limp => false

def State.inLimp (s : State) : Bool := s.sup.mode == .limp

/-- The modes in which the block timers run (R9). -/
def State.timersRun (s : State) : Bool := s.working || s.inLimp

/-- Time elapsed since a moment. -/
def State.elapsed (s : State) (since : Micros) : Micros := s.now - since

/-- Whether at least `span` has elapsed since a moment that is running. -/
def State.reached (s : State) (since : Option Micros) (span : Micros) : Bool :=
  match since with
  | some t => span ≤ s.elapsed t
  | none => false

/-- Whether more than `span` has elapsed since a moment that is running. -/
def State.passed (s : State) (since : Option Micros) (span : Micros) : Bool :=
  match since with
  | some t => span < s.elapsed t
  | none => false

/-- The station time: 0.1 s since power-up, saturating (R171). DESIGN CHOICE: it counts the tenths that are complete
(notes/assumptions/54.md). -/
def State.stationTime (s : State) : Nat := min Config.maxStationTime (s.elapsed s.sup.poweredAt / Config.tenth)

/-! ## Driver content (R41) -/

/-- FRESH or HOLDING: the cab is not lost for driver purposes. -/
def DriverHold.usable (d : DriverHold) : Bool :=
  match d.status with
  | .fresh | .holding => true
  | .none | .expired => false

def State.driverUsable (s : State) : Bool := s.driver.usable

/-- The driver content that consumers use: none while the cab is lost for driver purposes (Table 2.11). -/
def State.driverContent (s : State) : Option DriverContent := if s.driverUsable then s.driver.content else none

/-- A field of the driver content, or `absent` while the cab is lost. -/
def State.driverField {α : Type} (s : State) (field : DriverContent → α) (absent : α) : α :=
  match s.driverContent with
  | some c => field c
  | none => absent

/-! ## Peers -/

def State.peer (s : State) (k : Nat) : Option PeerRecord := (s.peers.find? (fun p => p.1 == k)).map Prod.snd

def State.peerPresent (s : State) (k : Nat) : Bool :=
  match s.peer k with
  | some r => r.presence == .present
  | none => false

/-- Station 1's record is PRESENT, or the station is itself station 1. -/
def State.cabPresent (s : State) : Bool := s.isCab || s.peerPresent 1

/-- The last stored contents of the PRESENT peers, by station number. -/
def State.presentContents (s : State) : List (Nat × StateContent) :=
  s.peers.filterMap (fun p =>
    if p.2.presence == .present then p.2.content.map (fun c => (p.1, c)) else none)

/-- The interlock hold time of a working copy in microseconds (Table 11.1). -/
def Params.holdMicros (p : Params) : Micros := p.holdTime * Config.tenth

/-- A LOST record whose loss time is above the hold time (R107, R158, R161). -/
def State.lostBeyondHold (s : State) (p : Params) (r : PeerRecord) : Bool :=
  r.presence == .lost && s.passed r.lostAt p.holdMicros

/-! ## Faults -/

def State.hasCondition (s : State) (c : FaultCode) : Bool := s.sup.conditions.contains c

/-- Whether the consequence of a fault is in effect (R180). -/
def State.inEffect (s : State) (c : FaultCode) : Bool := s.sup.effects.contains c

/-- The seven class Q codes whose consequence can be deferred (Table 10.6). -/
def FaultCode.deferrable : FaultCode → Bool
  | .wheelSensorL | .wheelSensorR | .jointSensor | .heightSensorL | .heightSensorR | .reservoirSensor
  | .odometerSaturated => true
  | .config | .supply | .restartLimit | .wheelSensorsBoth | .steerMismatch | .steerSensor | .steerInput | .pedalInput
  | .brakePressureMismatch | .brakeSensor | .cabLost | .paramClamped | .bellowsSensor | .trackStarved | .trackOverflow
  | .trackNearFull | .peerLost | .linkSilent | .kneelTimeout | .raiseTimeout | .doorUnreleased
  | .stationUnexpected => false

/-- A protected manoeuvre is in progress while the level state is RETURNING or the steer mode is CENTRING (R180). -/
def State.protectedManoeuvre (s : State) : Bool := s.air.level == .returning || s.steer.mode == .centring

/-- The records that count in the STATE summary: ACTIVE or DEFERRED (R183). -/
def Supervisor.activeRecords (u : Supervisor) : List FaultRecord := u.faults.filter (fun r => r.state != .passive)

def Supervisor.activeCount (u : Supervisor) : Nat := u.activeRecords.length

/-- The worst active class: 2 for I, 1 for Q, 0 for none (R183, Table 2.5). -/
def Supervisor.worstClass (u : Supervisor) : Nat :=
  if u.activeRecords.any (fun r => r.code.classI) then 2 else if u.activeRecords.isEmpty then 0 else 1

/-! ## Flags of the blocks -/

/-- Slip active: either record stands in a state other than FREE (R124). -/
def Braking.slipActive (b : Braking) : Bool := b.slipL.state != .free || b.slipR.state != .free

/-- Either own door's grant is held, and either release line is energised. -/
def DoorInterlock.anyGrant (d : DoorInterlock) : Bool := d.slot0.grant || d.slot1.grant
def DoorInterlock.anyRelease (d : DoorInterlock) : Bool := d.slot0.release || d.slot1.release

/-- Some own door record is UNRELEASED_OPEN (R157). -/
def DoorInterlock.anyUnreleased (d : DoorInterlock) : Bool :=
  d.slot0.state == .unreleasedOpen || d.slot1.state == .unreleasedOpen

/-- The gate of R166: while any of its conditions fails, no release line is energised. -/
def State.releaseGate (s : State) : Bool :=
  s.odo.standstill && s.doors.halt == .applied && s.cabPresent && s.driverUsable && s.runOrDegraded && !s.brake.backup

/-- LEVEL or RAISED. -/
def LevelState.settled : LevelState → Bool
  | .level | .raised => true
  | .raising | .descending | .kneeling | .kneeled | .kneelHeld | .returning => false

/-- Fill in progress: either channel is FILLING (R152). -/
def Levelling.filling (a : Levelling) : Bool := a.channelL.state == .filling || a.channelR.state == .filling

/-- Kneel participant as the station reports it (R152). -/
def State.kneelParticipant (s : State) : Bool :=
  match s.loader.copy with
  | some p => p.participant == 1 && !s.air.kneelDisabled && !s.inLimp
  | none => false

/-- The consequences that are degraded causes while in effect (Table 10.4). -/
def degradingEffects : List FaultCode :=
  [.wheelSensorsBoth, .wheelSensorL, .wheelSensorR, .jointSensor, .heightSensorL, .heightSensorR, .reservoirSensor,
   .odometerSaturated]

/-- Some degraded cause of Table 10.4 is present. -/
def State.degradedCause (s : State) : Bool :=
  s.peers.any (fun p => p.2.presence != .present)
  || !s.driverUsable
  || !s.odo.markValid
  || s.steer.failedLatch
  || s.brake.latched.isSome
  || degradingEffects.any (fun c => s.inEffect c)
  || (s.isCab && (s.hasCondition .steerInput || s.hasCondition .pedalInput))

end Sys2Proof.Machine
end

