-- ==== Sys2Proof/Machine/Ops.lean ====
section
/-! DEFINITION. The operations that several blocks share: time passing, the fault list and the deferral window, the
transmit queue, clearing the track memory, ending valve runs, dropping release lines, entry to backup, and a frame's
sorting by its sender. -/

namespace Sys2Proof.Machine

/-- The time a command brings with it passes before the command is taken (notes/assumptions/1.md). -/
def State.advance (s : State) (dt : Micros) : State := s.setNow (s.now + dt)

/-- What a command answers. -/
abbrev Answer : Type := Host.Outcome State Fault Refusal

/-- A command's time passes, and then its work is done: a next state in every case. -/
def State.take (s : State) (dt : Micros) (work : State → State) : Answer := .next (work (s.advance dt))

/-- A command that stands for one outcome of a block's expiry is that whole expiry where it comes to this outcome, and
nothing but time passing otherwise (notes/assumptions/3.md). -/
def State.expiryIf (s after : State) (happens : Bool) : State := if happens then after else s

/-- Work that needs the working copy is not done without one (R186). -/
def State.withCopy (s : State) (work : Params → State → State) : State :=
  match s.loader.copy with
  | some p => work p s
  | none => s

/-- A value from the working copy, 0 without one. -/
def State.param (s : State) (value : Params → Nat) : Nat :=
  match s.loader.copy with
  | some p => value p
  | none => 0

/-! ## Valve channels (R135, R136) -/

/-- A run is ended: the channel becomes IDLE with its valve closed. -/
def Channel.stop (c : Channel) : Channel :=
  { c with state := .idle, pulses := 0, gated := false, valveOpen := false }

/-- A channel in FILLING becomes SUSPENDED and its fill valve closes at once; other channels stay (R135). -/
def Channel.suspend (c : Channel) : Channel :=
  if c.state = .filling then { c with state := .suspended, gated := false, valveOpen := false } else c

def Levelling.stopAll (a : Levelling) : Levelling :=
  { a with channelL := a.channelL.stop, channelR := a.channelR.stop }

def Levelling.suspendFills (a : Levelling) : Levelling :=
  { a with channelL := a.channelL.suspend, channelR := a.channelR.suspend }

/-! ## The fault list (R182, R183) -/

def Supervisor.find (u : Supervisor) (c : FaultCode) : Option FaultRecord := u.faults.find? (fun r => r.code == c)

/-- A change of the record of a code, where there is one. -/
def Supervisor.update (u : Supervisor) (c : FaultCode) (change : FaultRecord → FaultRecord) : Supervisor :=
  { u with faults := u.faults.map (fun r => if r.code = c then change r else r) }

/-- A raise that finds a record of its code: a PASSIVE record returns to `state` with its count raised, any other takes the last time only (R182). -/
def FaultRecord.raiseAgain (state : RecordState) (time : Nat) (r : FaultRecord) : FaultRecord :=
  if r.state = .passive then { r with state := state, count := min 255 (r.count + 1), last := time }
  else { r with last := time }

/-- A raise that finds no record: a new record at the newest end, in place of the oldest PASSIVE record where 16 are held, or the overflow count (R183). -/
def Supervisor.addRecord (u : Supervisor) (r : FaultRecord) : Supervisor :=
  if u.faults.length < Config.faultCapacity then { u with faults := u.faults ++ [r] }
  else if u.faults.any (fun x => x.state == .passive) then
    { u with faults := u.faults.eraseP (fun x => x.state == .passive) ++ [r] }
  else { u with overflow := min 255 (u.overflow + 1), listFull := true }

/-- A raise of fault code `c`, recorded as R182 states. -/
def Supervisor.record (u : Supervisor) (c : FaultCode) (state : RecordState) (time : Nat) : Supervisor :=
  match u.find c with
  | some _ => u.update c (FaultRecord.raiseAgain state time)
  | none => u.addRecord { code := c, state := state, count := 1, first := time, last := time }

/-- A condition is present from the raise on. -/
def Supervisor.addCondition (u : Supervisor) (c : FaultCode) : Supervisor :=
  if u.conditions.contains c then u else { u with conditions := u.conditions ++ [c] }

/-- A record that leaves DEFERRED is ACTIVE while its condition is present, PASSIVE after (R181). -/
def Supervisor.undefer (u : Supervisor) (c : FaultCode) : Supervisor :=
  u.update c (fun r =>
    if r.state = .deferred then { r with state := if u.conditions.contains c then RecordState.active else RecordState.passive } else r)

/-- A condition ends: its record becomes PASSIVE, unless it is DEFERRED (R182). -/
def Supervisor.endCondition (u : Supervisor) (c : FaultCode) : Supervisor :=
  Supervisor.update { u with conditions := u.conditions.filter (fun x => x != c) } c (fun r =>
    if r.state = .active then { r with state := .passive } else r)

/-- A consequence is in effect from now until the next START (R180). -/
def Supervisor.addEffect (u : Supervisor) (c : FaultCode) : Supervisor :=
  if u.effects.contains c then u else { u with effects := u.effects ++ [c] }

def State.endCondition (s : State) (c : FaultCode) : State := s.setSup (s.sup.endCondition c)

/-! ## Consequences (Table 10.6) -/

/-- A corner is excluded: its channel is ended, and the station's kneel is disabled (R137). -/
def Levelling.exclude (a : Levelling) (side : Side) : Levelling :=
  { (a.setCorner side { a.corner side with excluded := true }).setChannel side (a.channel side).stop with
    kneelDisabled := true }

/-- JOINT_SENSOR's consequence: the protection-off latch is set, and the alert and its runs are cleared (R102). -/
def JointMonitor.protectOff (j : JointMonitor) : JointMonitor :=
  { j with protectionOff := true, jackAlert := false, setRun := 0, clearRun := 0 }

/-- RESERVOIR_SENSOR's consequence: the latch holds the air status at PROTECT, and fills are suspended (R133, R135). -/
def Levelling.latchReservoir (a : Levelling) : Levelling :=
  { a with reservoirLatch := true, air := .protect }.suspendFills

/-- A wheel becomes excluded (R45). -/
def Odometry.exclude (o : Odometry) (side : Side) : Odometry :=
  o.setWheel side { o.wheel side with excluded := true }

/-- The consequence of a fault takes effect, in the block that owns it (R180). The consequences of the other codes are
made by the block that raises them. -/
def State.applyConsequence (s : State) (c : FaultCode) : State :=
  let marked := s.setSup (s.sup.addEffect c)
  match c with
  | .wheelSensorL => marked.setOdo (s.odo.exclude .left)
  | .wheelSensorR => marked.setOdo (s.odo.exclude .right)
  | .jointSensor => marked.setJoint s.joint.protectOff
  | .heightSensorL => marked.setAir (s.air.exclude .left)
  | .heightSensorR => marked.setAir (s.air.exclude .right)
  | .reservoirSensor => marked.setAir s.air.latchReservoir
  | .odometerSaturated => marked
  | _ => s

/-- A consequence that is pending takes effect, and stays with the other pending ones no longer. -/
def Supervisor.takePending (u : Supervisor) (c : FaultCode) : Supervisor :=
  if u.deferred.contains c then
    (Supervisor.undefer { u with deferred := u.deferred.filter (fun x => x != c) } c).addEffect c
  else u

/-- WHEEL_SENSORS_BOTH: both wheels are excluded at once, and a pending WHEEL_SENSOR consequence takes effect with it (R47, R180). -/
def State.applyBothWheels (s : State) : State :=
  (s.setSup (((s.sup.addEffect .wheelSensorsBoth).takePending .wheelSensorL).takePending .wheelSensorR)).setOdo
    ((s.odo.exclude .left).exclude .right)

/-- A block raises a fault: it is recorded, and its consequence is dealt with by its class (R180). -/
def State.raiseFault (s : State) (c : FaultCode) : State :=
  let u := s.sup.addCondition c
  let time := s.stationTime
  if c = .wheelSensorsBoth then (s.setSup (u.record c .active time)).applyBothWheels
  else if !c.deferrable || s.inEffect c then s.setSup (u.record c .active time)
  else if s.protectedManoeuvre || s.sup.windowFrom.isSome then
    s.setSup
      { u.record c .deferred time with
        windowFrom := some (s.sup.windowFrom.getD s.now),
        deferred := if u.deferred.contains c then u.deferred else u.deferred ++ [c] }
  else (s.setSup (u.record c .active time)).applyConsequence c

/-- A fault whose condition is a single event: PASSIVE from the moment it is recorded (R182). -/
def State.raiseEvent (s : State) (c : FaultCode) : State := (s.raiseFault c).endCondition c

/-- A condition tested at every expiry raises its fault when it begins, and the fault lasts while it does (notes/assumptions/7.md). -/
def State.follow (s : State) (c : FaultCode) (present : Bool) : State :=
  if present then (if s.hasCondition c then s else s.raiseFault c) else s.endCondition c

/-- Every pending consequence takes effect, in the order in which they were made pending. -/
def State.applyAll (s : State) : List FaultCode → State
  | [] => s
  | c :: rest => State.applyAll ((s.setSup (s.sup.undefer c)).applyConsequence c) rest

/-- The deferral window closes: every pending consequence takes effect and the set is emptied (R181). -/
def State.closeWindow (s : State) : State :=
  let t := s.applyAll s.sup.deferred
  t.setSup { t.sup with windowFrom := none, deferred := [] }

/-! ## The transmit queue (R14 to R17) -/

/-- A frame of this station, with the next ticket. -/
def State.ticketed (s : State) (frameClass : Nat) (payload : Payload) : Queued :=
  { ticket := s.link.nextTicket, frame := { identifier := identifierOf frameClass s.station, payload := payload } }

/-- An ALERT takes a free slot, or replaces the older of two with the overflow counted (R15). -/
def State.queueAlert (s : State) (kind : AlertKind) (slot : Nat) (value : Int) : State :=
  let q := s.ticketed classAlert (encodeAlert { kind := kind, station := s.station, slot := slot, value := value })
  let l := { s.link with nextTicket := s.link.nextTicket + 1 }
  if s.link.alerts.length < 2 then s.setLink { l with alerts := s.link.alerts ++ [q] }
  else s.setLink { l with alerts := s.link.alerts.tail ++ [q], overflow := min 255 (s.link.overflow + 1) }

/-- DRIVER, STATE and SERVICE answer frames replace what waits in their slot (R16). -/
def State.queueDriver (s : State) (payload : Payload) : State :=
  s.setLink { s.link with driver := some (s.ticketed classDriver payload), nextTicket := s.link.nextTicket + 1 }

def State.queueState (s : State) (payload : Payload) : State :=
  s.setLink { s.link with stateFrame := some (s.ticketed classState payload), nextTicket := s.link.nextTicket + 1 }

def State.queueAnswer (s : State) (payload : Payload) : State :=
  s.setLink { s.link with answer := some (s.ticketed classService payload), nextTicket := s.link.nextTicket + 1 }

/-- Whether a PATH slot is free (R17). -/
def Link.takesPath (l : Link) : Bool := l.paths.length < 4

/-- A PATH frame takes a free slot, or is refused with the drop counted (R17). -/
def State.queuePath (s : State) (sample : PathSample) : State :=
  if s.link.takesPath then
    s.setLink { s.link with paths := s.link.paths ++ [s.ticketed classPath (encodePath sample)],
                            nextTicket := s.link.nextTicket + 1 }
  else s.setLink { s.link with drops := min 255 (s.link.drops + 1) }

/-! ## Reception (R25) -/

/-- Where a completed frame goes by its sender (R25). -/
inductive Arrival where
  /-- The engine does not run, or the frame is the station's own. -/
  | ignored
  /-- From station 7. -/
  | tool
  /-- From station 0 or a number above N. -/
  | unexpected
  /-- From another station 1..N. -/
  | peer
  deriving DecidableEq, Repr

/-- A frame is received in LISTEN, ACTIVE and SILENT (R13) and sorted by its sender in the order of R25. DESIGN CHOICE: a
station strapped 7 takes the tool's frames for its own (notes/assumptions/47.md). -/
def State.arrival (s : State) (sender : Nat) : Arrival :=
  if s.link.state = .stopped ∨ sender = s.station then .ignored
  else if sender = 7 then .tool
  else if sender = 0 ∨ s.axles < sender then .unexpected
  else .peer

/-- The first frame after START from an unexpected sender raises STATION_UNEXPECTED (R25). -/
def State.meetUnexpected (s : State) : State :=
  if s.link.unexpectedSeen then s
  else (s.setLink { s.link with unexpectedSeen := true }).raiseEvent .stationUnexpected

/-- A frame of classes 0..3: handled where it is from a peer, ignored from the tool and from the station itself (R25). -/
def State.received (s : State) (sender : Nat) (handle : State → State) : State :=
  match s.arrival sender with
  | .peer => handle s
  | .unexpected => s.meetUnexpected
  | .tool | .ignored => s

/-! ## The track memory's clear (R71) -/

/-- A clear: no entries, gap count 0, the high watermark clear. -/
def TrackMemory.cleared (t : TrackMemory) : TrackMemory := { t with entries := [], gapCount := 0, highWater := false }

/-- The track memory is cleared, which ends TRACK_NEAR_FULL (R71). -/
def State.clearTrack (s : State) : State := (s.setTrack s.track.cleared).endCondition .trackNearFull

/-! ## Release lines (R156, R163, R166) -/

/-- A release line is de-energised at once, and the door record moves by the rows of Table 9.2. -/
def DoorSlot.drop (d : DoorSlot) : DoorSlot :=
  if d.release then
    { d with
      release := false
      state :=
        match d.state with
        | .released => if d.closed then .locked else .closingWait
        | .opened => if d.closed then .opened else .closingWait
        | other => other }
  else d

/-- The gate of R166 de-energises an energised line. -/
def DoorSlot.gate (d : DoorSlot) : DoorSlot := if d.release then { d.drop with gatedOff := true } else d

/-- Between expiries a release line is de-energised the moment the gate ceases to hold (R166). -/
def State.gateReleases (s : State) : State :=
  if s.releaseGate then s
  else s.setDoors { s.doors with slot0 := s.doors.slot0.gate, slot1 := s.doors.slot1.gate }

/-- The halt state is forced OFF, every own release line is de-energised and every own grant withdrawn (R163). -/
def DoorInterlock.forceOff (d : DoorInterlock) : DoorInterlock :=
  { d with
    halt := .off
    slot0 := { d.slot0.drop with grant := false, gatedOff := false }
    slot1 := { d.slot1.drop with grant := false, gatedOff := false } }

/-! ## Backup (R127) -/

/-- A record FREE with its modulator lines de-energised; the previous wheel speed is kept. -/
def SlipRecord.freed (r : SlipRecord) : SlipRecord :=
  { r with state := .free, steps := 0, phase := 0, holdLine := false, dumpLine := false }

/-- What entry to backup does to the braking block's own state and lines (R127); in backup the demand in use is 0 (R115). -/
def Braking.toBackup (b : Braking) : Braking :=
  { b with
    demand := 0, select := false, line := 0, staged := 0, commanded := 0, halt := 0, slipL := b.slipL.freed,
    slipR := b.slipR.freed, backup := true, mismatchRun := 0, exitRun := 0 }

/-- Entry to backup, from not being in backup; already in backup nothing changes (R127). -/
def State.enterBackup (s : State) : State :=
  if s.brake.backup then s else (s.setBrake s.brake.toBackup).setDoors s.doors.forceOff

/-- The cause that first latches the backup is the latched cause (R126). DESIGN CHOICE: so it stays at entry to LIMP
(notes/assumptions/50.md). -/
def Braking.latch (b : Braking) (c : LatchedCause) : Braking := { b with latched := some (b.latched.getD c) }

/-- A latched cause is taken, and backup entered (R127). -/
def State.latchBackup (s : State) (c : LatchedCause) : State := (s.setBrake (s.brake.latch c)).enterBackup

/-! ## Steering's entry to FAILED (R88) -/

/-- Entry to FAILED: the solenoid drops, the line and every demand are 0, the runs are cleared, the latch is set. -/
def Steering.toFailed (t : Steering) : Steering :=
  { t with
    mode := .failed, solenoid := false, line := 0, staged := 0, applied := 0, unlimited := 0, target := 0, docking := 0,
    lockLoss := 0,
    notValid := 0, guidedExit := 0, centred := 0, mismatch := 0, travel := 0, failedLatch := true }

end Sys2Proof.Machine
end

