-- ==== Sys2Proof/Machine/Modes.lean ====
section
/-! DEFINITION. The station modes: the safe output set, each block's values after START, entry to START, SYNC, LIMP and
RESTART, and what the supervisor takes at the moment it reaches it (Chapter 10). -/

namespace Sys2Proof.Machine

/-! ## Values after START -/

/-- A height within ±10 mm of a target (R143). -/
def nearTarget (height target : Nat) : Bool := height ≤ target + 10 && target ≤ height + 10

/-- The level state that heights show, `none` standing for a height that is not sound (R143). -/
def levelFromHeights (driveHeight : Nat) (left right : Option Nat) : LevelState :=
  let near (h : Option Nat) : Bool := h.elim true (fun x => nearTarget x driveHeight)
  let low (h : Option Nat) : Bool := h.elim false (fun x => x + 10 < driveHeight)
  if near left && near right then .level
  else if low left || low right then .returning
  else .descending

/-- Corner targets by level state (Table 8.4). -/
def cornerTarget (p : Params) (l : LevelState) (side : Side) : Nat :=
  match l with
  | .level | .descending | .returning => p.driveHeight
  | .raising | .raised => p.driveHeight + p.raiseHeight
  | .kneeling | .kneeled | .kneelHeld =>
    if side = kerbOf p then p.driveHeight - p.kneelDepth else p.driveHeight - p.roadDepth

/-- The targets of the level state, in both corner records. -/
def Levelling.setTargets (a : Levelling) (p : Params) : Levelling :=
  { a with
    cornerL := { a.cornerL with target := cornerTarget p a.level .left }
    cornerR := { a.cornerR with target := cornerTarget p a.level .right } }

/-- The levelling block after START (R131, R143). -/
def Levelling.afterStart (p : Params) (r : StartReading) : Levelling :=
  let left := soundNat Config.maxHeight r.heightL
  let right := soundNat Config.maxHeight r.heightR
  Levelling.setTargets
    { Levelling.initial with
      cornerL := Corner.initial (left.getD 0) 0
      cornerR := Corner.initial (right.getD 0) 0
      level := levelFromHeights p.driveHeight left right
      axleLoad := p.ladenDefault } p

/-- A fitted door's record from the inputs read in START (R153). -/
def DoorSlot.afterStart (closed edge : SwitchIn) : DoorSlot :=
  { DoorSlot.unfitted with
    state := if closedLocked closed then .locked else .unreleasedOpen
    edge := edgeActive edge
    closed := closedLocked closed }

def DoorInterlock.afterStart (p : Params) (d : DoorInputs) : DoorInterlock :=
  { DoorInterlock.initial with
    slot0 := if 1 ≤ p.doorCount then DoorSlot.afterStart d.closed0 d.edge0 else DoorSlot.unfitted
    slot1 := if 2 ≤ p.doorCount then DoorSlot.afterStart d.closed1 d.edge1 else DoorSlot.unfitted }

/-- The peer table over the station numbers 1..N other than the station's own (R33). -/
def peersInitial (axles own : Nat) : List (Nat × PeerRecord) :=
  ([1, 2, 3, 4, 5, 6].filter (fun k => k ≤ axles && k != own)).map (fun k => (k, PeerRecord.initial))

/-- The speed block after START. An open or a short on a wheel's line is the line's own state, and is kept
(notes/assumptions/4.md). -/
def Odometry.afterStart (o : Odometry) : Odometry :=
  { Odometry.initial with
    left := { Wheel.initial with openShort := o.left.openShort }
    right := { Wheel.initial with openShort := o.right.openShort } }

/-- Every block at its values after START of a station without a working copy, each line as the safe output set has it
(R175), the link engine stopped. The parameter loader and the supervisor are not touched. -/
def State.blocksInitial (s : State) : State :=
  { s with
    link := Link.initial, peers := peersInitial s.axles s.station, driver := DriverHold.initial,
    odo := s.odo.afterStart, path := PathGenerator.initial, track := TrackMemory.initial, steer := Steering.initial,
    joint := JointMonitor.initial, brake := Braking.initial 0, air := Levelling.initial, doors := DoorInterlock.initial }

/-- The values that depend on what START read, for a station that has a working copy. -/
def State.blocksFromCopy (s : State) (p : Params) (r : StartReading) : State :=
  { s with
    brake := Braking.initial p.ladenDefault, air := Levelling.afterStart p r, doors := DoorInterlock.afterStart p r.doors }

/-- Entry to START: outputs safe, every block at its initial values, no working copy yet (R172). -/
def State.enterStart (s : State) : State :=
  let t := (s.setLoader { s.loader with image := [], copy := none }).blocksInitial
  t.setSup
    { t.sup with
      mode := .start, runFrom := none, syncFrom := none, goodFrom := none, windowFrom := none, deferred := [],
      effects := [], limpLine := .notDriven }

/-! ## The safe output set (Table 10.3) -/

def SlipRecord.linesOff (r : SlipRecord) : SlipRecord := { r with holdLine := false, dumpLine := false }

def Channel.close (c : Channel) : Channel := { c with valveOpen := false }

/-- The safe output set is put on the lines; LIMP asserts the speed limit and limp lines (R175). -/
def State.safeOutputs (s : State) (limp : Bool) : State :=
  { s with
    steer := { s.steer with solenoid := false, line := 0 }
    joint := { s.joint with damper := none }
    brake := { s.brake with select := false, line := 0, slipL := s.brake.slipL.linesOff, slipR := s.brake.slipR.linesOff }
    air := { s.air with channelL := s.air.channelL.close, channelR := s.air.channelR.close }
    doors :=
      { s.doors with
        slot0 := s.doors.slot0.drop, slot1 := s.doors.slot1.drop, tractionInhibit := .notDriven,
        speedLimit := if limp then .asserted else .notDriven }
    sup := { s.sup with limpLine := if limp then .asserted else .notDriven } }

/-! ## The link engine's start (R18) -/

/-- The token's seed: the station number, or 1 for a strap value of 0 (R22). -/
def tokenSeed (station : Nat) : Nat := if station = 0 then 1 else station

/-- The engine starts in LISTEN with its queue empty and its counters at 0 (R18). -/
def State.startLink (s : State) : State :=
  s.setLink { Link.initial with state := .listen, since := s.now, token := tokenSeed s.station }

/-- Entry to SYNC (R173). DESIGN CHOICE: the limp line stays not driven, here and in RUN and DEGRADED
(notes/assumptions/41.md). -/
def State.enterSync (s : State) : State :=
  (s.setSup { s.sup with mode := .sync, syncFrom := some s.now }).startLink

/-! ## LIMP (R179) -/

/-- Entry to LIMP clears mark-valid (R56), and the mark stays as it is (R51); without a working copy speed-valid is clear
and the axle speed 0. -/
def Odometry.toLimp (o : Odometry) (copy : Bool) : Odometry :=
  { o with
    markValid := false, speedValid := copy && o.speedValid,
    axleSpeed := if copy then o.axleSpeed else 0, standstill := copy && o.standstill }

/-- Steering's entry to LIMP (R89), by which CENTRING is left (R97). DESIGN CHOICE: the FAILED latch and the runs stay as
they were (notes/assumptions/18.md). -/
def Steering.toLimp (t : Steering) (marked : Bool) : Steering :=
  { t with
    mode := if marked then .failed else .locked
    solenoid := false, line := 0, staged := 0, applied := 0, unlimited := 0, target := 0, docking := 0, travel := 0 }

/-- The joint monitor's entry to LIMP (R110). -/
def JointMonitor.toLimp (j : JointMonitor) : JointMonitor :=
  { j with damper := none, expected := none, deviation := none, jackAlert := false, setRun := 0, clearRun := 0, fold := false }

/-- Levelling's entry to LIMP (R151). -/
def Levelling.toLimp (a : Levelling) : Levelling :=
  { a.stopAll with gate := none, gateBelow := none, gateAbove := none, kneelTimer := 0, returnTime := 0 }

/-- Each block's own LIMP entry (R56, R71, R89, R110, R129, R151, R169). -/
def State.limpBlocks (s : State) : State :=
  let t := s.clearTrack.latchBackup .limp
  { t with
    odo := t.odo.toLimp t.hasCopy
    steer := t.steer.toLimp t.marksSteered
    joint := t.joint.toLimp
    air := t.air.toLimp
    doors := t.doors.forceOff }

/-- Entry to LIMP (R179). `cause` is the ALERT's value: 1 for CONFIG, 2 for RESTART_LIMIT (Table 2.9). An entry from
START starts the link engine. -/
def State.enterLimp (s : State) (cause : Int) : State :=
  let t := (s.safeOutputs true).closeWindow.limpBlocks
  let u := t.setSup { t.sup with mode := .limp, runFrom := none, syncFrom := none }
  (if s.sup.mode = .start then u.startLink else u).queueAlert .limpEntered 255 cause

/-! ## RESTART (R177) -/

/-- Every record that is ACTIVE or DEFERRED becomes PASSIVE, except the SUPPLY record (R177). -/
def FaultRecord.toRestart (r : FaultRecord) : FaultRecord :=
  if r.code = .supply then r else { r with state := .passive }

/-- Steering's entry to RESTART: the line and what was staged become 0 (R89, R96). -/
def Steering.toRestart (t : Steering) : Steering := { t with solenoid := false, line := 0, staged := 0, applied := 0 }

/-- Entry to RESTART (R177), with each block's own entry (R21, R89, R106, R110, R129, R151, R169). -/
def State.enterRestart (s : State) : State :=
  let t := s.safeOutputs false
  { t with
    link := Link.initial
    steer := t.steer.toRestart
    joint := { t.joint with jackAlert := false }
    air := t.air.stopAll
    doors := t.doors.forceOff
    sup :=
      { t.sup with
        mode := .restart, runFrom := none, syncFrom := none, goodFrom := none, windowFrom := none, deferred := [],
        conditions := t.sup.conditions.filter (fun c => c == .supply)
        faults := t.sup.faults.map FaultRecord.toRestart } }

/-- The station calls for RESTART, and the restart counter decides (R178). -/
def State.callRestart (s : State) : State :=
  if s.sup.restartCounter < 3 then
    (s.setSup { s.sup with restartCounter := s.sup.restartCounter + 1 }).enterRestart
  else (s.raiseFault .restartLimit).enterLimp 2

/-! ## RUN and DEGRADED (R173, R174) -/

/-- Entry to RUN: the RUN time starts; a return from DEGRADED releases the speed limit line (R174, R178). -/
def State.enterRun (s : State) : State :=
  (s.setSup { s.sup with mode := .run, runFrom := some s.now }).setDoors
    { s.doors with speedLimit := if s.sup.mode = .degraded then .released else s.doors.speedLimit }

/-- Entry to DEGRADED asserts the speed limit line (R174). -/
def State.enterDegraded (s : State) : State :=
  (s.setSup { s.sup with mode := .degraded, runFrom := none }).setDoors { s.doors with speedLimit := .asserted }

/-- The moves among SYNC, RUN and DEGRADED that the degraded causes decide (R173, R174). -/
def State.updateMode (s : State) : State :=
  match s.sup.mode with
  | .sync | .degraded => if s.degradedCause then s else s.enterRun
  | .run => if s.degradedCause then s.enterDegraded else s
  | .start | .restart | .limp => s

/-- The window closes at the moment no protected manoeuvre is in progress (R181). -/
def State.closeIfIdle (s : State) : State :=
  if s.sup.windowFrom.isSome && !s.protectedManoeuvre then s.closeWindow else s

/-- What follows at the moment a step has changed what the supervisor and the release gate watch: the deferral window,
the mode, the release lines (R166, R174, R181). -/
def State.settle (s : State) : State := s.closeIfIdle.updateMode.gateReleases

end Sys2Proof.Machine
end

