-- ==== Sys2Proof/Machine/Brake.lean ====
section
/-! DEFINITION. Braking: the six steps of one expiry, demand, load, commanded pressure, slip control, pressure
supervision and backup (R107, R111 to R129). -/

namespace Sys2Proof.Machine

/-! ## Runs -/

def pressureRunLength : Nat := Config.fastRun 300
def backupExitLength : Nat := Config.fastRun 1000

/-! ## Steps 1 and 2: output, reading and supervision (R113, R125, R126) -/

/-- Outside backup the staged pressure goes to the relay demand line, and the backup select line is energised with it (R113, R128). -/
def Braking.output (b : Braking) : Braking := if b.backup then b else { b with line := b.staged, select := true }

/-- The brake pressure input is read and tested; a faulty one raises BRAKE_SENSOR and latches backup (R126). -/
def State.readPressure (s : State) (pressure : AnalogIn) : State :=
  match soundNat Config.maxPressure pressure with
  | some v => (s.follow .brakeSensor false).setBrake { s.brake with measured := v }
  | none =>
    let t := s.follow .brakeSensor true
    let u := t.setBrake { t.brake with measured := 0 }
    if s.hasCondition .brakeSensor then u else u.latchBackup .brakeSensor

/-- The mismatch run after this expiry's reading (R125). -/
def Braking.comparePressure (b : Braking) : Braking :=
  if b.backup then { b with mismatchRun := 0 }
  else if distance b.measured b.line ≤ 80 then { b with mismatchRun := 0 }
  else if b.mismatchRun = 0 ∨ 20 < distance b.line b.mismatchReference then
    { b with mismatchRun := 1, mismatchReference := b.line }
  else { b with mismatchRun := b.mismatchRun + 1 }

/-- A run that reaches 300 ms raises BRAKE_PRESSURE_MISMATCH and latches backup, which ends its condition (R125). -/
def State.supervisePressure (s : State) : State :=
  let t := s.setBrake s.brake.comparePressure
  if pressureRunLength ≤ t.brake.mismatchRun then (t.raiseEvent .brakePressureMismatch).latchBackup .pressureMismatch
  else t

/-! ## Step 3: backup causes (R127, R128) -/

/-- The driver-lost cause is set while the cab is lost for driver purposes, which enters backup (R127). -/
def State.loseDriver (s : State) : State :=
  if s.driverUsable then s else (s.setBrake { s.brake with driverLost := true }).enterBackup

/-- The backup exit run, and backup left when it reaches 1 s (R128). -/
def State.exitBackup (s : State) : State :=
  let b := s.brake
  if b.backup && b.driverLost && b.latched.isNone && s.driverUsable then
    if backupExitLength ≤ b.exitRun + 1 then
      s.setBrake { b with driverLost := false, backup := false, exitRun := 0, mismatchRun := 0 }
    else s.setBrake { b with exitRun := b.exitRun + 1 }
  else s.setBrake { b with exitRun := 0 }

/-! ## Step 4: demand and load (R115, R116) -/

def State.demandWork (s : State) : State :=
  let demand := if s.brake.backup then 0 else s.driverField DriverContent.demand 0
  s.setBrake { s.brake with demand := demand, load := if demand = 0 then s.air.axleLoad else s.brake.load }

/-! ## Step 5: pressure (R107, R117 to R120) -/

/-- A peer ahead calls for the jackknife reduction (R107). -/
def State.peerJackknifes (s : State) (p : Params) (k : Nat) (r : PeerRecord) : Bool :=
  k < s.station &&
    ((r.presence == .present && r.content.any (fun c => c.jointPresent && c.jackAlert))
      || (r.jackLatch.isSome && !s.lostBeyondHold p r))

/-- The jackknife reduction flag (R107). -/
def State.reductionNow (s : State) (p : Params) : Bool :=
  (s.ownsJoint && s.joint.jackAlert) || s.peers.any (fun x => s.peerJackknifes p x.1 x.2)

/-- The demand-derived pressure before the reduction (R117). -/
def demandPressure (p : Params) (demand load : Nat) : Nat :=
  if demand = 0 then 0 else p.threshold + roundNat (roundNat (load * demand) 100) p.gain

/-- The part above p0 is halved (R118). -/
def reducePressure (p : Params) (pressure : Nat) : Nat :=
  if pressure = 0 then 0 else p.threshold + roundNat (pressure - p.threshold) 2

/-- The halt contribution (R119). -/
def haltContribution (p : Params) (halt : HaltState) (release : Bool) (previous : Nat) : Nat :=
  match halt with
  | .applying | .applied => p.haltPressure
  | .releasing => if release then p.haltPressure else previous - 50
  | .off => if release then p.haltPressure else 0

/-- Reduction flag, p_d, halt contribution and p_c, which is staged; in backup p_c and the contribution are 0 (R120, R127, R128). -/
def State.pressureWork (s : State) (p : Params) : State :=
  let b := s.brake
  let reduce := s.reductionNow p
  if b.backup then s.setBrake { b with jackReduction := reduce, halt := 0, commanded := 0, staged := 0 }
  else
    let full := demandPressure p b.demand b.load
    let derived := if reduce then reducePressure p full else full
    let halt := haltContribution p s.doors.halt s.doors.anyRelease b.halt
    let commanded := min p.maxPressure (max derived halt)
    s.setBrake { b with jackReduction := reduce, halt := halt, commanded := commanded, staged := commanded }

/-! ## Step 6: slip control (R121 to R124) -/

/-- λ in per mille (R121). -/
def slipOf (reference wheel : Nat) : Int := roundInt (((reference : Int) - wheel) * 1000) reference

/-- One expiry of REAPPLY from phase and steps: the inlet opens at phase 0, and the tenth opening's pattern ends in FREE (R123). -/
def SlipRecord.reapplyStep (r : SlipRecord) : SlipRecord :=
  if r.phase = 0 ∧ 10 ≤ r.steps then r.freed
  else
    { r with
      state := .reapply
      steps := if r.phase = 0 then r.steps + 1 else r.steps
      phase := if r.phase = 2 then 0 else r.phase + 1
      holdLine := r.phase != 0
      dumpLine := false }

def SlipRecord.toDump (r : SlipRecord) : SlipRecord :=
  { r with state := .dump, holdLine := true, dumpLine := true }

def SlipRecord.toHold (r : SlipRecord) : SlipRecord := { r with state := .hold, holdLine := true, dumpLine := false }

/-- The transitions of Table 7.6, and the lines of Table 7.5 for the state they leave. -/
def SlipRecord.move (r : SlipRecord) (p : Params) (slip : Int) (wheel commanded : Nat) : SlipRecord :=
  let enters : Bool := (p.slipEntry : Int) ≤ slip
  let exits : Bool := slip < (p.slipExit : Int)
  let rose : Bool := r.previous < wheel
  match r.state with
  | .free => if enters && 0 < commanded then r.toDump else r.freed
  | .dump => if exits || rose then r.toHold else r.toDump
  | .hold =>
    if exits then { r with steps := 0, phase := 0 }.reapplyStep
    else if enters && !rose then r.toDump
    else r.toHold
  | .reapply => if enters then r.toDump else r.reapplyStep

/-- What makes a wheel's record FREE at once (R124). -/
def State.slipOff (s : State) (w : Wheel) : Bool :=
  s.brake.commanded == 0 || s.odo.reference < 150 || w.excluded || s.brake.backup

/-- One wheel's record at step 6; the previous wheel speed is set at its end (R121, R124). -/
def State.slipStep (s : State) (p : Params) (w : Wheel) (r : SlipRecord) : SlipRecord :=
  let moved :=
    if s.slipOff w then r.freed else r.move p (slipOf s.odo.reference w.speed) w.speed s.brake.commanded
  { moved with previous := w.speed }

def State.slipWork (s : State) (p : Params) : State :=
  s.setBrake
    { s.brake with
      slipL := s.slipStep p s.odo.left s.brake.slipL, slipR := s.slipStep p s.odo.right s.brake.slipR }

/-! ## The expiry -/

/-- The six steps of R113. -/
def State.brakeWork (pressure : AnalogIn) (p : Params) (s : State) : State :=
  let read := ((s.setBrake s.brake.output).readPressure pressure).supervisePressure
  ((read.loseDriver.exitBackup.demandWork).pressureWork p).slipWork p

/-- The block works in SYNC, RUN and DEGRADED (R113). -/
def State.brakeExpiry (s : State) (pressure : AnalogIn) : State :=
  if s.working then (s.withCopy (State.brakeWork pressure)).settle else s

/-- The brake demand of a pedal travel in per mille (R114). -/
def demandOf (travel : Nat) : Nat := if travel < 50 then 0 else roundNat (650 * (travel - 50)) 950

/-! ## Outcomes of an expiry -/

/-- A REAPPLY record at phase 0 with its ten steps made. -/
def SlipRecord.reapplied (r : SlipRecord) : Bool := r.state == .reapply && r.phase == 0 && 10 ≤ r.steps

/-- A REAPPLY record ends in FREE at this expiry (R123). -/
def State.reapplyExpiry (s : State) (side : Side) (pressure : AnalogIn) : State :=
  let t := s.brakeExpiry pressure
  s.expiryIf t ((s.brake.slip side).reapplied && (t.brake.slip side).state == .free)

/-- The pressure mismatch run is complete at this expiry (R125). -/
def State.pressureExpiry (s : State) (pressure : AnalogIn) : State :=
  let read := (s.setBrake s.brake.output).readPressure pressure
  s.expiryIf (s.brakeExpiry pressure)
    (s.working && s.hasCopy && pressureRunLength ≤ read.brake.comparePressure.mismatchRun)

/-- Backup is left at this expiry (R128). -/
def State.backupExitExpiry (s : State) (pressure : AnalogIn) : State :=
  let t := s.brakeExpiry pressure
  s.expiryIf t (s.brake.backup && !t.brake.backup)

/-! ## Commands -/

/-- BRAKING_EXPIRY (R113). -/
def execBrakingExpiry (dt : Micros) (pressure : AnalogIn) (s : State) : Answer :=
  s.take dt (fun t => t.brakeExpiry pressure)

/-- SLIP_REAPPLY_DONE (R123). -/
def execSlipReapplyDone (dt : Micros) (side : Side) (pressure : AnalogIn) (s : State) : Answer :=
  s.take dt (fun t => t.reapplyExpiry side pressure)

/-- BRAKE_PRESSURE_MISMATCH (R125). -/
def execBrakePressureMismatch (dt : Micros) (pressure : AnalogIn) (s : State) : Answer :=
  s.take dt (fun t => t.pressureExpiry pressure)

/-- BACKUP_EXIT_RUN (R128). -/
def execBackupExitRun (dt : Micros) (pressure : AnalogIn) (s : State) : Answer :=
  s.take dt (fun t => t.backupExitExpiry pressure)

end Sys2Proof.Machine
end

