-- ==== Sys2Proof/Machine/Doors.lean ====
section
/-! DEFINITION. The door interlock: release lines, door records, known stations, the halt brake, grants, and the traction
inhibit and speed limit lines (R153 to R169). -/

namespace Sys2Proof.Machine

/-! ## Step 1: output update (R156, R166) -/

/-- The line is energised from the grant, unless the gate forbids it or has de-energised it since the grant; the record
follows the line (R156, R166). -/
def DoorSlot.output (d : DoorSlot) (gate : Bool) : DoorSlot :=
  if d.grant && !d.gatedOff && gate then
    { d with release := true, state := if d.state = .locked then .released else d.state }
  else d.drop

def State.outputDoors (s : State) : State :=
  s.setDoors
    { s.doors with slot0 := s.doors.slot0.output s.releaseGate, slot1 := s.doors.slot1.output s.releaseGate }

/-! ## Step 2: doors (R155 to R157) -/

/-- The moves of Table 9.2 that a reading of the closed-locked input makes. -/
def doorAfter (release closed : Bool) : DoorState → DoorState
  | .none => .none
  | .locked => if !closed && !release then .unreleasedOpen else .locked
  | .released =>
    if release then (if closed then .released else .opened) else (if closed then .locked else .closingWait)
  | .opened =>
    if release then (if closed then .released else .opened) else (if closed then .opened else .closingWait)
  | .closingWait => if closed then .locked else .closingWait
  | .unreleasedOpen => if closed then .locked else .unreleasedOpen

/-- A fitted door's record and edge state take their inputs; an unfitted slot's inputs are ignored (R153, R156, R157). -/
def DoorSlot.read (d : DoorSlot) (closed edge : SwitchIn) : DoorSlot :=
  if d.state = .none then d
  else { d with state := doorAfter d.release (closedLocked closed) d.state, edge := edgeActive edge, closed := closedLocked closed }

/-- The ALERTs of one slot's changes: DOOR_UNRELEASED where it passes from LOCKED to UNRELEASED_OPEN, EDGE where its
edge rises (R157). -/
def State.doorAlerts (s : State) (slot : Nat) (before after : DoorSlot) : State :=
  let t := if before.state = .locked ∧ after.state = .unreleasedOpen then s.queueAlert .doorUnreleased slot 0 else s
  if !before.edge && after.edge then t.queueAlert .edge slot 0 else t

/-- One slot's record raises DOOR_UNRELEASED: it passes from LOCKED to UNRELEASED_OPEN, or START left it so and this is the
first expiry, whatever the door reads then (R157). `first` is whether the fault's condition is still absent. -/
def raisesUnreleased (before after : DoorSlot) (first : Bool) : Bool :=
  (before.state == .locked && after.state == .unreleasedOpen) || (before.state == .unreleasedOpen && first)

/-- A fault is raised where a test calls for it. -/
def State.raiseIf (s : State) (c : FaultCode) (raises : Bool) : State := if raises then s.raiseFault c else s

/-- DOOR_UNRELEASED: raised once for each slot that calls for it; its condition lasts while any own door is
UNRELEASED_OPEN (R157). -/
def State.doorFault (s : State) (raises0 raises1 : Bool) : State :=
  let t := (s.raiseIf .doorUnreleased raises0).raiseIf .doorUnreleased raises1
  if s.doors.anyUnreleased then t else t.endCondition .doorUnreleased

/-- Step 2 of R154. DESIGN CHOICE: the ALERTs of one expiry are queued slot by slot, and of one slot DOOR_UNRELEASED before
EDGE (notes/assumptions/43.md). -/
def State.readDoors (s : State) (inputs : DoorInputs) : State :=
  let d0 := s.doors.slot0
  let d1 := s.doors.slot1
  let e0 := d0.read inputs.closed0 inputs.edge0
  let e1 := d1.read inputs.closed1 inputs.edge1
  let t := s.setDoors { s.doors with slot0 := e0, slot1 := e1 }
  let first := !s.hasCondition .doorUnreleased
  ((t.doorAlerts 0 d0 e0).doorAlerts 1 d1 e1).doorFault (raisesUnreleased d0 e0 first) (raisesUnreleased d1 e1 first)

/-! ## Step 3: known stations (R158) -/

/-- A slot of a known station as the block sees it: whether it is a known door, not LOCKED, edge active. -/
structure KnownDoor where
  fitted : Bool
  notLocked : Bool
  edge : Bool
  deriving DecidableEq, Repr

/-- A known station: its number, its two slots, its level. -/
structure KnownStation where
  station : Nat
  door0 : KnownDoor
  door1 : KnownDoor
  level : LevelState
  deriving DecidableEq, Repr

/-- A slot as reported, with the peer's latches for it (R158). -/
def knownDoor (d : DoorReport) (doorLatch edgeLatch : Option Nat) : KnownDoor :=
  { fitted := d.state != .none
    notLocked := d.state != .none && (d.state != .locked || doorLatch.isSome)
    edge := d.state != .none && (d.edge || edgeLatch.isSome) }

def knownPeer (k : Nat) (c : StateContent) (r : PeerRecord) : KnownStation :=
  { station := k, door0 := knownDoor c.door0 r.doorLatch0 r.edgeLatch0, door1 := knownDoor c.door1 r.doorLatch1 r.edgeLatch1,
    level := c.level }

/-- A slot as a report carries it (R29, R170). -/
def DoorSlot.report (d : DoorSlot) : DoorReport := { state := d.state, edge := d.state != .none && d.edge }

/-- PRESENT, JOINING, or LOST within the hold time (R158). -/
def State.isKnown (s : State) (p : Params) (r : PeerRecord) : Bool :=
  r.presence != .absent && !s.lostBeyondHold p r

/-- The known stations, the station itself first (R158). -/
def State.knownStations (s : State) (p : Params) : List KnownStation :=
  { station := s.station, door0 := knownDoor s.doors.slot0.report none none,
    door1 := knownDoor s.doors.slot1.report none none, level := s.air.level } ::
  s.peers.filterMap (fun x =>
    if s.isKnown p x.2 then x.2.content.map (fun c => knownPeer x.1 c x.2) else none)

/-! ## Step 4: the halt brake (R159 to R162) -/

/-- The door request mask names a fitted door of the station (R159). -/
def KnownStation.requested (k : KnownStation) (mask axles : Nat) : Bool :=
  (k.door0.fitted && mask.testBit (doorBit k.station 0) && doorBit k.station 0 < 2 * axles)
  || (k.door1.fitted && mask.testBit (doorBit k.station 1) && doorBit k.station 1 < 2 * axles)

/-- Some hold reason is present (R159). -/
def State.holdReason (s : State) (p : Params) : Bool :=
  let known := s.knownStations p
  s.driverField DriverContent.haltSwitch false
  || known.any (fun k => k.door0.notLocked || k.door1.notLocked)
  || known.any (fun k => k.door0.edge || k.door1.edge)
  || s.doors.anyGrant
  || known.any (fun k => k.requested (s.driverField DriverContent.doorMask 0) p.axles)
  || known.any (fun k => !k.level.settled)

/-- A peer that does not block the halt release: PRESENT, LOST beyond the hold time, or ABSENT with an absence time above it (R161). -/
def State.permitsRelease (s : State) (p : Params) (r : PeerRecord) : Bool :=
  r.presence == .present || s.lostBeyondHold p r || (r.presence == .absent && s.passed s.link.leftListen p.holdMicros)

/-- The halt brake may release (R161). -/
def State.mayRelease (s : State) (p : Params) : Bool :=
  !s.holdReason p && s.driverField DriverContent.driveIntent false && s.cabPresent
    && s.peers.all (fun x => s.permitsRelease p x.2)

/-- At most one transition of the halt state (R160 to R162). -/
def State.nextHalt (s : State) (p : Params) : HaltState :=
  match s.doors.halt with
  | .off => if s.odo.standstill && s.holdReason p && !s.brake.backup && s.working then .applying else .off
  | .applying =>
    if s.mayRelease p then .releasing
    else if p.haltPressure ≤ s.brake.measured + 30 then .applied
    else .applying
  | .applied => if s.mayRelease p then .releasing else .applied
  | .releasing => if s.holdReason p then .applying else if s.brake.halt = 0 then .off else .releasing

def State.haltWork (s : State) (p : Params) : State := s.setDoors { s.doors with halt := s.nextHalt p }

/-! ## Step 5: grants (R164, R165) -/

/-- The request bit of an own slot in the driver content (R164). -/
def State.slotRequested (s : State) (slot : Nat) : Bool :=
  (s.driverField DriverContent.doorMask 0).testBit (doorBit s.station slot)

/-- A peer's report that counts for a grant: halt APPLIED, mode LIMP, or backup (R164). -/
def StateContent.held (c : StateContent) : Bool := c.halt == .applied || c.mode == .limp || c.backup

/-- Every condition of R164 but those of the slot itself. -/
def State.mayGrant (s : State) : Bool :=
  s.odo.standstill && s.doors.halt == .applied && s.presentContents.all (fun x => x.2.held) && s.cabPresent
    && s.driverUsable && s.runOrDegraded

/-- What withdraws every held grant (R165). -/
def State.mustWithdraw (s : State) : Bool :=
  !s.odo.standstill || !s.cabPresent || !s.driverUsable || s.doors.halt != .applied || !s.runOrDegraded

/-- One slot's grant given or withdrawn (R164, R165). -/
def DoorSlot.decideGrant (d : DoorSlot) (requested may must : Bool) : DoorSlot :=
  if d.grant then (if !requested || must || d.gatedOff then { d with grant := false, gatedOff := false } else d)
  else if requested && may && d.state == .locked then { d with grant := true, gatedOff := false }
  else d

def State.grantWork (s : State) : State :=
  s.setDoors
    { s.doors with
      slot0 := s.doors.slot0.decideGrant (s.slotRequested 0) s.mayGrant s.mustWithdraw
      slot1 := s.doors.slot1.decideGrant (s.slotRequested 1) s.mayGrant s.mustWithdraw }

/-! ## Step 6: lines (R167, R168) -/

/-- The traction inhibit line is asserted (R167). -/
def State.inhibitsTraction (s : State) (p : Params) : Bool :=
  s.doors.halt != .off || (s.knownStations p).any (fun k => k.door0.notLocked || k.door1.notLocked)
    || !s.air.level.settled || (s.ownsJoint && s.joint.fold)

def State.lineWork (s : State) (p : Params) : State :=
  s.setDoors
    { s.doors with
      tractionInhibit := if s.inhibitsTraction p then .asserted else .released
      speedLimit := if s.sup.mode = .degraded then .asserted else .released }

/-! ## The expiry -/

/-- The six steps of R154; in LIMP step 2 alone (R169). -/
def State.doorWork (inputs : DoorInputs) (p : Params) (s : State) : State :=
  if s.inLimp then s.readDoors inputs
  else (((s.outputDoors.readDoors inputs).haltWork p).grantWork).lineWork p

/-- The interlock works while the timers run and the station has a working copy (R154, R169). -/
def State.doorExpiry (s : State) (inputs : DoorInputs) : State :=
  if s.timersRun then (s.withCopy (State.doorWork inputs)).settle else s

/-! ## Commands -/

/-- DOOR_INTERLOCK_EXPIRY (R154). -/
def execDoorInterlockExpiry (dt : Micros) (inputs : DoorInputs) (s : State) : Answer :=
  s.take dt (fun t => t.doorExpiry inputs)

end Sys2Proof.Machine
end

