-- ==== Sys2Proof/Machine/PeerTable.lean ====
section
/-! DEFINITION. The peer table: the token sequence, STATE frames and their errors, presence, alert latches, and the driver
content (R22, R33 to R42). -/

namespace Sys2Proof.Machine

/-- The successor of a token: (2t mod 16) plus the exclusive-or of its bits of value 8 and 4 (R22). -/
def tokenSuccessor (t : Nat) : Nat := 2 * t % 16 + (t / 8 % 2 + t / 4 % 2) % 2

/-- The time from an accepted STATE frame to its MISSED deadline, between deadlines, and below which a frame is EARLY (R34, R35). -/
def missedAfter : Micros := 25 * Config.ms
def missedEvery : Micros := 10 * Config.ms
def earlyWithin : Micros := 5 * Config.ms

/-- The peer error limit the station counts against (R36); without a working copy it is a free value within the
parameter's range. -/
def State.errorLimit (s : State) : Nat :=
  match s.loader.copy with
  | some p => p.errorLimit
  | none => clampNat 2 15 Config.peerErrorLimitWithoutCopy

/-- A record JOINING or PRESENT: one whose frames are timed and counted. -/
def PeerRecord.tracked (r : PeerRecord) : Bool := r.presence == .joining || r.presence == .present

/-- One error in a tracked record (R36, R38): the counter rises, or the record enters LOST with its content stale. -/
def PeerRecord.countError (r : PeerRecord) (limit : Nat) (now : Micros) : PeerRecord :=
  let good := if r.presence = .joining then 0 else r.goodRun
  if r.errors < limit then { r with errors := r.errors + 1, goodRun := good }
  else
    { r with
      presence := .lost, errors := if limit < 15 then limit + 1 else 15, goodRun := good, stale := true, deadline := none,
      lostAt := some now }

/-- One more STATE content stored: a latch clears when the second is stored (R40). -/
def latchStored : Option Nat → Option Nat
  | none => none
  | some n => if n + 1 < 2 then some (n + 1) else none

/-- A STATE content is stored, and the silence timer restarts (R34, R35, R40). -/
def PeerRecord.store (r : PeerRecord) (c : StateContent) (now : Micros) : PeerRecord :=
  { r with
    reference := some c.token, content := some c, stale := false, acceptedAt := some now,
    deadline := some (now + missedAfter), doorLatch0 := latchStored r.doorLatch0, doorLatch1 := latchStored r.doorLatch1,
    edgeLatch0 := latchStored r.edgeLatch0, edgeLatch1 := latchStored r.edgeLatch1, jackLatch := latchStored r.jackLatch }

/-- A STATE frame brings an ABSENT or LOST record to JOINING (R37). -/
def PeerRecord.join (r : PeerRecord) (c : StateContent) (now : Micros) : PeerRecord :=
  { r.store c now with presence := .joining, errors := 0, goodRun := 0, lostAt := none }

/-- A good frame (R34, R38). -/
def PeerRecord.good (r : PeerRecord) (c : StateContent) (now : Micros) : PeerRecord :=
  let t := r.store c now
  if r.presence = .joining then
    if 8 ≤ r.goodRun + 1 then { t with presence := .present, errors := 0, goodRun := 8 }
    else { t with errors := r.errors - 1, goodRun := r.goodRun + 1 }
  else { t with errors := r.errors - 1 }

/-- Whether a frame arriving now is EARLY (R34). -/
def PeerRecord.early (r : PeerRecord) (now : Micros) : Bool :=
  match r.acceptedAt with
  | some t => now - t < earlyWithin
  | none => false

/-- Whether a token is the successor of the reference token (R34). -/
def PeerRecord.expects (r : PeerRecord) (token : Nat) : Bool :=
  match r.reference with
  | some t => token == tokenSuccessor t
  | none => false

/-- A STATE frame arrives for a record: `content` is `none` for a malformed one (R27, R34, R37). -/
def PeerRecord.onState (r : PeerRecord) (content : Option StateContent) (limit : Nat) (now : Micros) : PeerRecord :=
  match content with
  | none => if r.tracked then r.countError limit now else r
  | some c =>
    if !r.tracked then r.join c now
    else if r.early now then r.countError limit now
    else if r.expects c.token then r.good c now
    else (r.store c now).countError limit now

/-- A MISSED deadline passes: one error, and the next deadline 10 ms later (R35). -/
def PeerRecord.miss (r : PeerRecord) (limit : Nat) (now : Micros) : PeerRecord :=
  match r.deadline with
  | some t =>
    let counted := r.countError limit now
    if counted.presence = .lost then counted else { counted with deadline := some (t + missedEvery) }
  | none => r

/-- A MISSED deadline is due: the record is tracked, and its deadline has come. -/
def PeerRecord.missDue (r : PeerRecord) (now : Micros) : Bool :=
  r.tracked &&
    match r.deadline with
    | some t => t ≤ now
    | none => false

/-- An ALERT sets a latch, whatever the presence; one already set starts its count again (R40). -/
def PeerRecord.latch (r : PeerRecord) (a : Alert) : PeerRecord :=
  match a.kind with
  | .doorUnreleased => if a.slot = 0 then { r with doorLatch0 := some 0 } else { r with doorLatch1 := some 0 }
  | .edge => if a.slot = 0 then { r with edgeLatch0 := some 0 } else { r with edgeLatch1 := some 0 }
  | .jackknife => { r with jackLatch := some 0 }
  | .standstillLost | .limpEntered => r

/-- One record of the table is changed. -/
def State.updatePeer (s : State) (k : Nat) (change : PeerRecord → PeerRecord) : State :=
  s.setPeers (s.peers.map (fun p => if p.1 = k then (p.1, change p.2) else p))

def State.anyLost (s : State) : Bool := s.peers.any (fun p => p.2.presence == .lost)

/-- A change of a record that can lose it, or bring it back: entry to LOST raises PEER_LOST, whose condition ends when
no record is LOST (R39). -/
def State.changePeer (s : State) (k : Nat) (change : PeerRecord → PeerRecord) : State :=
  let lost (x : State) : Bool := (x.peer k).any (fun r => r.presence == .lost)
  let t := s.updatePeer k change
  if !lost s && lost t then t.raiseFault .peerLost
  else if t.anyLost then t
  else t.endCondition .peerLost

/-- A STATE frame from a peer (R26, R34). -/
def State.takeState (s : State) (sender : Nat) (p : Payload) : State :=
  s.changePeer sender (fun r => r.onState (decodeState sender p) s.errorLimit s.now)

/-- An ALERT frame from a peer (R26, R40). -/
def State.takeAlert (s : State) (sender : Nat) (p : Payload) : State :=
  match decodeAlert sender p with
  | some a => s.updatePeer sender (fun r => r.latch a)
  | none => s

/-- A new driver content: the status is FRESH at once, and the condition of CAB_LOST ends (R41, R42). -/
def State.newDriver (s : State) (c : DriverContent) : State :=
  (s.setDriver { content := some c, since := s.now, status := .fresh }).endCondition .cabLost

/-- A DRIVER frame from station 1 (R26, R41). -/
def State.takeDriver (s : State) (sender : Nat) (p : Payload) : State :=
  if sender = 1 then
    match decodeDriver p with
    | some c => (s.newDriver c).settle
    | none => s
  else s

/-- The ages at which the driver status becomes HOLDING and EXPIRED (Table 2.11). -/
def holdingAfter : Micros := 30 * Config.ms
def expiredAfter : Micros := 80 * Config.ms

/-- The 2 s of a driver status NONE after LISTEN (R42). -/
def cabLostAfter : Micros := 2 * Config.second

/-- The driver status changes. -/
def State.setStatus (s : State) (x : DriverStatus) : State := s.setDriver { s.driver with status := x }

/-- A MISSED deadline of a record that is due (R35). -/
def State.missPeer (s : State) (k : Nat) : State :=
  if s.timersRun && (s.peer k).any (fun r => r.missDue s.now) then
    (s.changePeer k (fun r => r.miss s.errorLimit s.now)).settle
  else s

/-- The age of the driver content is above a span. -/
def State.driverOlder (s : State) (span : Micros) : Bool := span < s.elapsed s.driver.since

/-- The status becomes HOLDING (R41). -/
def State.holdDriver (s : State) : State :=
  if s.timersRun && s.driver.status == .fresh && s.driverOlder holdingAfter then s.setStatus .holding else s

/-- The status becomes EXPIRED, and CAB_LOST is raised (R41, R42). -/
def State.expireDriver (s : State) : State :=
  if s.timersRun && s.driverUsable && s.driverOlder expiredAfter then
    ((s.setStatus .expired).raiseFault .cabLost).settle
  else s

/-- The status is still NONE 2 s after the engine left LISTEN (R42). -/
def State.loseCab (s : State) : State :=
  if s.timersRun && s.driver.status == .none && s.reached s.link.leftListen cabLostAfter
      && !s.hasCondition .cabLost then
    (s.raiseFault .cabLost).settle
  else s

/-! ## Commands -/

/-- STATE_FRAME_RECEIVED (R34). -/
def execStateFrameReceived (dt : Micros) (sender : BitVec 3) (payload : Payload) (s : State) : Answer :=
  s.take dt (fun t => t.received sender.toNat (fun u => (u.takeState sender.toNat payload).settle))

/-- DRIVER_FRAME_RECEIVED (R41). -/
def execDriverFrameReceived (dt : Micros) (sender : BitVec 3) (payload : Payload) (s : State) : Answer :=
  s.take dt (fun t => t.received sender.toNat (fun u => u.takeDriver sender.toNat payload))

/-- ALERT_FRAME_RECEIVED (R40). -/
def execAlertFrameReceived (dt : Micros) (sender : BitVec 3) (payload : Payload) (s : State) : Answer :=
  s.take dt (fun t => t.received sender.toNat (fun u => u.takeAlert sender.toNat payload))

/-- MISSED (R35). -/
def execMissed (dt : Micros) (peer : Nat) (s : State) : Answer := s.take dt (fun t => t.missPeer peer)

/-- DRIVER_STATUS_HOLDING (R41). -/
def execDriverStatusHolding (dt : Micros) (s : State) : Answer := s.take dt State.holdDriver

/-- DRIVER_STATUS_EXPIRED (R42). -/
def execDriverStatusExpired (dt : Micros) (s : State) : Answer := s.take dt State.expireDriver

/-- CAB_LOST (R42). -/
def execCabLost (dt : Micros) (s : State) : Answer := s.take dt State.loseCab

end Sys2Proof.Machine
end

