-- ==== Sys2Proof/Machine/Emission.lean ====
section
/-! DEFINITION. Periodic emission: the STATE frame with its token, and the cab's DRIVER frame with its pedal test (R22 to R24,
R29, R30, R99, R114, R152, R170). -/

namespace Sys2Proof.Machine

/-- The link engine may take periodic frames: ACTIVE or SILENT (R23, R24). -/
def Link.emits (l : Link) : Bool :=
  match l.state with
  | .active | .silent => true
  | .stopped | .listen => false

/-! ## STATE (R23, R29) -/

/-- The measured steer angle by role: of the axle, of the front road wheels at the cab, 0 at other stations (R29). -/
def State.reportedSteer (s : State) : Int :=
  if s.isSteered then s.steer.measured else if s.isCab && s.hasCopy then s.path.frontAngle else 0

/-- The values the blocks hold at assembly, with the current token (R29, R66, R77, R99, R104, R130, R152, R170, R183). -/
def State.assembleState (s : State) : StateContent :=
  { token := s.link.token, station := s.station, faultCount := s.sup.activeCount, worstClass := s.sup.worstClass,
    starvingSoon := s.keepsTrack && s.track.starvingSoon, axleSpeed := s.odo.axleSpeed, speedValid := s.odo.speedValid,
    markValid := s.odo.markValid, slipActive := s.brake.slipActive, backup := s.brake.backup,
    mark := if s.odo.markValid then s.odo.mark else 0, lag := s.param Params.lag, mode := s.sup.mode,
    tractionInhibit := s.doors.tractionInhibit == .asserted, speedLimit := s.doors.speedLimit == .asserted,
    commanded := s.brake.commanded, halt := s.doors.halt, air := s.air.air, jackReduction := s.brake.jackReduction,
    fillInProgress := s.air.filling, measured := s.brake.measured, level := s.air.level,
    participant := s.kneelParticipant, axleLoad := s.air.axleLoad, reservoir := s.air.reservoir,
    heightL := s.air.cornerL.height, door0 := s.doors.slot0.report, heightR := s.air.cornerR.height,
    door1 := s.doors.slot1.report, steerMode := if s.marksSteered then s.steer.mode else .locked,
    jackAlert := s.ownsJoint && s.joint.jackAlert, jointPresent := s.ownsJoint,
    deviationAvailable := s.ownsJoint && s.joint.deviation.isSome,
    appliedSteer := if s.isSteered then s.steer.applied else 0, measuredSteer := s.reportedSteer,
    articulation := if s.ownsJoint then s.joint.measured else 0,
    deviation := if s.ownsJoint then s.joint.deviation.getD 0 else 0 }

/-- The token advances to its successor (R22, R23). -/
def State.advanceToken (s : State) : State := s.setLink { s.link with token := tokenSuccessor s.link.token }

/-- An expiry of the STATE emission timer: in LISTEN it queues nothing and consumes no token (R23). -/
def State.emitState (s : State) : State :=
  if s.timersRun && s.link.emits then (s.queueState (encodeState s.assembleState)).advanceToken else s

/-! ## DRIVER (R24, R114) -/

/-- The DRIVER content of the cab's input lines and its path generator; `travel` is the sound pedal travel (R24, R30). -/
def State.readDriver (s : State) (lines : DriverLines) (travel : Nat) : DriverContent :=
  let sound := !s.hasCondition .steerInput
  { demand := demandOf travel, direction := lines.direction, level := lines.level, driveIntent := lines.driveIntent,
    haltSwitch := lines.haltSwitch, doorMask := lines.doorSwitches.toNat, docking := lines.docking, angleValid := sound,
    curvature := if sound then s.path.curvature else 0, frontAngle := if sound then s.path.frontAngle else 0 }

/-- The content is queued, and becomes the cab's own driver content, in SYNC, RUN and DEGRADED (R24, R41). -/
def State.sendDriver (s : State) (c : DriverContent) : State :=
  if s.working && s.link.emits then (s.queueDriver (encodeDriver c)).newDriver c else s

/-- The pedal is read and tested, and while it is sound a DRIVER frame is sent (R24, R114). -/
def State.driverWork (lines : DriverLines) (s : State) : State :=
  match soundNat 1000 lines.pedal with
  | some travel =>
    let t := s.follow .pedalInput false
    t.sendDriver (t.readDriver lines travel)
  | none => s.follow .pedalInput true

/-- An expiry of the DRIVER emission timer, at the cab station while the timers run: the pedal is tested in LIMP too, where
no frame is queued (R9, R24, R114). -/
def State.emitDriver (s : State) (lines : DriverLines) : State :=
  if s.timersRun && s.isCab then (s.driverWork lines).settle else s

/-! ## Commands -/

/-- STATE_EMISSION (R23). -/
def execStateEmission (dt : Micros) (s : State) : Answer := s.take dt State.emitState

/-- DRIVER_EMISSION (R24). -/
def execDriverEmission (dt : Micros) (lines : DriverLines) (s : State) : Answer := s.take dt (fun t => t.emitDriver lines)

end Sys2Proof.Machine
end

