-- ==== Sys2Proof/Machine/Engine.lean ====
section
/-! DEFINITION. The link engine: LISTEN, ACTIVE and SILENT, the choice of a frame, and the three ends of an attempt
(R12 to R20). -/

namespace Sys2Proof.Machine

/-- The time in LISTEN, and in SILENT (R18, R20). -/
def linkWait : Micros := 100 * Config.ms

/-- The transmit error count at which the engine enters SILENT (R19). -/
def silentAt : Nat := 32

/-- The engine stands in a timed state for 100 ms or more. -/
def State.linkDue (s : State) (x : LinkState) : Bool := s.link.state == x && linkWait ≤ s.elapsed s.link.since

/-- LISTEN ends and the engine enters ACTIVE (R18). -/
def State.endListen (s : State) : State :=
  if s.linkDue .listen then s.setLink { s.link with state := .active, leftListen := some s.now } else s

/-- SILENT ends: the error count is 0, the engine is ACTIVE, and LINK_SILENT ends (R20). -/
def State.endSilent (s : State) : State :=
  if s.linkDue .silent then (s.setLink { s.link with state := .active, errors := 0 }).endCondition .linkSilent else s

/-- The waiting frames in the order in which they are served: by class, and oldest first in a class (R14). -/
def Link.waiting (l : Link) : List Queued :=
  l.alerts ++ l.driver.toList ++ l.paths ++ l.stateFrame.toList ++ l.answer.toList

/-- The medium is idle: an ACTIVE engine without an attempt begins one with the first waiting frame (R12, R14). -/
def State.beginAttempt (s : State) : State :=
  if s.link.state = .active ∧ s.link.attempt = none then s.setLink { s.link with attempt := s.link.waiting.head? } else s

/-- A waiting frame that is not the one of ticket `t`. -/
def keepUnless (t : Nat) (q : Queued) : Bool := q.ticket != t

/-- The frame of a ticket leaves its slot; a newer frame that replaced it there stays (R14). -/
def Link.dequeue (l : Link) (ticket : Nat) : Link :=
  { l with
    alerts := l.alerts.filter (keepUnless ticket)
    driver := l.driver.filter (keepUnless ticket)
    paths := l.paths.filter (keepUnless ticket)
    stateFrame := l.stateFrame.filter (keepUnless ticket)
    answer := l.answer.filter (keepUnless ticket) }

/-- The station's own attempt completes: the frame leaves its slot, and the error count falls by 1 (R14, R19). -/
def State.completeAttempt (s : State) : State :=
  match s.link.attempt with
  | some q => s.setLink { s.link.dequeue q.ticket with attempt := none, errors := s.link.errors - 1 }
  | none => s

/-- An attempt loses arbitration: its frame keeps waiting, and the error count is unchanged (R12). -/
def State.loseArbitration (s : State) : State := s.setLink { s.link with attempt := none }

/-- The error count reaches 32: the engine enters SILENT, and LINK_SILENT is raised (R19, R20). -/
def State.enterSilent (s : State) : State :=
  (s.setLink { s.link with state := .silent, since := s.now }).raiseFault .linkSilent

/-- The own attempt is destroyed: the error count rises by 1, and at 32 the engine enters SILENT (R13, R19). -/
def State.destroyAttempt (s : State) : State :=
  match s.link.attempt with
  | some _ =>
    let t := s.setLink { s.link with attempt := none, errors := min silentAt (s.link.errors + 1) }
    if silentAt ≤ t.link.errors then t.enterSilent else t
  | none => s

/-! ## Commands -/

/-- LISTEN_END (R18). -/
def execListenEnd (dt : Micros) (s : State) : Answer := s.take dt State.endListen

/-- SILENT_END (R20). -/
def execSilentEnd (dt : Micros) (s : State) : Answer := s.take dt State.endSilent

/-- TRANSMIT_ATTEMPT_START (R14). -/
def execTransmitAttemptStart (dt : Micros) (s : State) : Answer := s.take dt State.beginAttempt

/-- ATTEMPT_COMPLETED (R14). -/
def execAttemptCompleted (dt : Micros) (s : State) : Answer := s.take dt State.completeAttempt

/-- ARBITRATION_LOST (R12). -/
def execArbitrationLost (dt : Micros) (s : State) : Answer := s.take dt State.loseArbitration

/-- ATTEMPT_DESTROYED (R19). -/
def execAttemptDestroyed (dt : Micros) (s : State) : Answer := s.take dt State.destroyAttempt

end Sys2Proof.Machine
end

