-- ==== Sys2Proof/Machine/Track.lean ====
section
/-! DEFINITION. The track memory: admission, overflow, watermarks, look-up points, retirement, look-ups and the track
status (R67 to R77). -/

namespace Sys2Proof.Machine

/-- Entries that carry the gap flag. -/
def gapsIn (entries : List TrackEntry) : Nat := (entries.filter (fun e => e.gap)).length

def TrackMemory.newest (t : TrackMemory) : Option TrackEntry := t.entries.getLast?
def TrackMemory.oldest (t : TrackMemory) : Option TrackEntry := t.entries.head?

/-- Overflow: the oldest entry is removed, its gap flag leaving the gap count (R69). -/
def TrackMemory.dropOldest (t : TrackMemory) : TrackMemory :=
  match t.entries with
  | [] => t
  | e :: rest => { t with entries := rest, gapCount := if e.gap then t.gapCount - 1 else t.gapCount }

/-- An entry is appended, its gap flag joining the gap count (R68). -/
def TrackMemory.append (t : TrackMemory) (e : TrackEntry) : TrackMemory :=
  { t with entries := t.entries ++ [e], gapCount := if e.gap then t.gapCount + 1 else t.gapCount }

/-- The gap flag of a sample admitted by case 4 of R68. -/
def TrackMemory.gapBefore (t : TrackMemory) (p : PathSample) : Bool :=
  p.gapBefore ||
    match t.newest with
    | some e => e.mark + 50 < p.mark
    | none => false

/-- A sample at or below the newest entry's mark is stale or a duplicate (R68 case 3). -/
def TrackMemory.isStale (t : TrackMemory) (p : PathSample) : Bool :=
  match t.newest with
  | some e => p.mark ≤ e.mark
  | none => false

def TrackMemory.countStale (t : TrackMemory) : TrackMemory := { t with staleCount := min 255 (t.staleCount + 1) }

/-- The high watermark clears, and TRACK_NEAR_FULL ends, below 96 entries (R70). -/
def State.checkLowWater (s : State) : State :=
  if s.track.entries.length < 96 then (s.setTrack { s.track with highWater := false }).endCondition .trackNearFull else s

/-- An admission that brings the entry count to 112 sets the high watermark and raises TRACK_NEAR_FULL (R70). -/
def State.checkHighWater (s : State) : State :=
  if s.track.entries.length = 112 then (s.setTrack { s.track with highWater := true }).raiseFault .trackNearFull else s

/-- Case 4 of R68: a full memory loses its oldest entry first, and TRACK_OVERFLOW is raised (R69). -/
def State.admitSample (s : State) (p : PathSample) : State :=
  let e : TrackEntry := { mark := p.mark, curvature := p.curvature, gap := s.track.gapBefore p }
  if Config.trackCapacity ≤ s.track.entries.length then
    (s.setTrack (s.track.dropOldest.append e)).raiseEvent .trackOverflow
  else (s.setTrack (s.track.append e)).checkHighWater

/-- A PATH sample that reaches the track memory: the first case of R68 that fits. -/
def State.offerSample (s : State) (p : PathSample) : State :=
  if s.odo.direction = .reverse ∨ s.inLimp then s.setTrack s.track.countStale
  else if p.firstAfterBreak then
    let t := s.clearTrack
    t.setTrack (t.track.append { mark := p.mark, curvature := p.curvature, gap := false })
  else if s.track.isStale p then s.setTrack s.track.countStale
  else s.admitSample p

/-- A PATH frame from station 1, at a station that keeps a track memory (R26, R68). -/
def State.takePath (s : State) (sender : Nat) (p : Payload) : State :=
  if sender = 1 ∧ s.keepsTrack then
    match decodePath p with
    | some sample => s.offerSample sample
    | none => s
  else s

/-! ## Look-up points (R72) -/

/-- The offsets of m_mid, m_j and m_b from the axle mark: a / 2, a, and a + b / 2, halves rounded away from zero. -/
def midOffset (p : Params) : Nat := roundNat p.steerLever 2
def jointOffset (p : Params) : Nat := p.steerLever
def farOffset (p : Params) : Nat := p.steerLever + roundNat p.jointLever 2

/-- A station's look-up points: three where it owns a joint, m_mid alone otherwise (R72). -/
def lookupOffsets (p : Params) : List Nat :=
  if p.jointOwned = 1 then [midOffset p, jointOffset p, farOffset p] else [midOffset p]

/-! ## Look-up (R74) -/

/-- An answer of the track memory: a curvature with its shortfall in cm. UNDERRUN is `none`. -/
structure LookUp where
  curvature : Int
  shortfall : Nat
  deriving DecidableEq, Repr

/-- Interpolation between two entries, one stage under R8. -/
def interpolate (e f : TrackEntry) (m : Nat) : Int :=
  roundInt (e.curvature * (f.mark - e.mark : Int) + (f.curvature - e.curvature) * (m - e.mark : Int)) (f.mark - e.mark)

/-- A look-up at `m` in a list whose first entry lies at or below `m`. -/
def lookFrom (m : Nat) : TrackEntry → List TrackEntry → LookUp
  | e, [] => { curvature := e.curvature, shortfall := m - e.mark }
  | e, f :: rest =>
    if f.mark ≤ m then lookFrom m f rest
    else if f.gap then { curvature := e.curvature, shortfall := m - e.mark }
    else { curvature := interpolate e f m, shortfall := 0 }

/-- A look-up at mark `m` (R74). -/
def lookUp (entries : List TrackEntry) (m : Nat) : Option LookUp :=
  match entries with
  | [] => none
  | e :: rest => if m < e.mark then none else some (lookFrom m e rest)

/-- A look-up at an offset ahead of the axle mark; without a valid mark there is no look-up point (R72). -/
def State.lookAhead (s : State) (offset : Nat) : Option LookUp :=
  if s.odo.markValid && !s.inLimp then lookUp s.track.entries (s.odo.mark + offset) else none

/-! ## Retirement and status (R73, R75 to R77) -/

/-- Every entry below `mid` is removed except the newest of them (R73). -/
def retire (mid : Nat) : List TrackEntry → List TrackEntry
  | [] => []
  | [e] => [e]
  | e :: f :: rest => if f.mark < mid then retire mid (f :: rest) else e :: f :: rest

/-- Retirement, with the gap count kept and the low watermark tested (R70, R73). -/
def State.retireEntries (s : State) (p : Params) : State :=
  if s.odo.markValid then
    let kept := retire (s.odo.mark + midOffset p) s.track.entries
    let gone := gapsIn s.track.entries - gapsIn kept
    let t := s.setTrack { s.track with entries := kept, gapCount := s.track.gapCount - gone }
    if kept.length < s.track.entries.length then t.checkLowWater else t
  else s

/-- The track status (R75). -/
def State.statusNow (s : State) (p : Params) : TrackStatus :=
  let looks := (lookupOffsets p).map s.lookAhead
  if looks.any Option.isNone then .empty
  else if looks.any (fun x => x.elim false (fun l => 200 < l.shortfall)) then .starved
  else .valid

/-- The starving-soon flag (R77). -/
def State.starvingNow (s : State) (p : Params) : Bool :=
  !s.odo.markValid || s.inLimp
    || (s.track.entries.filter (fun e => s.odo.mark + midOffset p < e.mark)).length < 2

/-- The starved run after an expiry that finds `status` (R76). -/
def nextStarvedRun (status : TrackStatus) (run : Nat) : Nat :=
  match status with
  | .starved => min (Config.fastRun 500) (run + 1)
  | .valid | .empty => 0

/-- The track memory's expiry: retirement, status, starved run and starving-soon flag (R73, R75, R76, R77). -/
def State.trackWork (p : Params) (s : State) : State :=
  let t := s.retireEntries p
  let status := t.statusNow p
  let run := nextStarvedRun status t.track.starvedRun
  let u := t.setTrack { t.track with status := status, starvingSoon := t.starvingNow p, starvedRun := run }
  u.follow .trackStarved (run == Config.fastRun 500)

/-- The work of one expiry, at a station that keeps a track memory, while the timers run (R9). -/
def State.trackExpiry (s : State) : State :=
  if s.timersRun && s.keepsTrack then s.withCopy State.trackWork else s

/-- The starved run reaches 500 ms at this expiry (R76). -/
def State.starvedExpiry (s : State) : State :=
  s.expiryIf s.trackExpiry
    (s.track.starvedRun != Config.fastRun 500 && s.trackExpiry.track.starvedRun == Config.fastRun 500)

/-! ## Commands -/

/-- PATH_FRAME_RECEIVED (R68). -/
def execPathFrameReceived (dt : Micros) (sender : BitVec 3) (payload : Payload) (s : State) : Answer :=
  s.take dt (fun t => t.received sender.toNat (fun u => u.takePath sender.toNat payload))

/-- TRACK_MEMORY_EXPIRY (R75). -/
def execTrackMemoryExpiry (dt : Micros) (s : State) : Answer := s.take dt State.trackExpiry

/-- TRACK_STARVED (R76). -/
def execTrackStarved (dt : Micros) (s : State) : Answer := s.take dt State.starvedExpiry

end Sys2Proof.Machine
end

