-- ==== Sys2Proof/Machine/Joint.lean ====
section
/-! DEFINITION. The joint monitor: reading, expected angle, deviation, jack alert, damper and fold (R100 to R110). -/

namespace Sys2Proof.Machine

/-- The joint sensor is read and tested; a faulty input raises JOINT_SENSOR and holds φ_meas at 0 (R102). -/
def State.readJoint (s : State) (joint : AnalogIn) : State :=
  match soundReading (-Config.maxAngle) Config.maxAngle joint with
  | some v =>
    let t := s.follow .jointSensor false
    t.setJoint { t.joint with measured := v }
  | none =>
    let t := s.follow .jointSensor true
    t.setJoint { t.joint with measured := 0 }

/-- A look-up that the expected angle can use: it succeeds with a shortfall of 200 or less (R103). -/
def usableLook (l : Option LookUp) : Option Int :=
  match l with
  | some x => if x.shortfall ≤ 200 then some x.curvature else none
  | none => none

/-- φ_exp, where it is available (R103). -/
def State.expectedNow (s : State) (p : Params) : Option Int :=
  match usableLook (s.lookAhead (midOffset p)), usableLook (s.lookAhead (jointOffset p)),
      usableLook (s.lookAhead (farOffset p)) with
  | some mid, some _, some far =>
    if s.track.starvingSoon then none else some (expectedArticulation p.steerLever p.jointLever mid far)
  | _, _, _ => none

/-- Δ, where it is available (R104). -/
def State.deviationNow (s : State) (expected : Option Int) : Option Int :=
  if s.hasCondition .jointSensor then none
  else expected.map (fun e => clampInt Config.maxAngle (s.joint.measured - e))

/-- Steps 2 and 3 of R101. -/
def State.compareJoint (s : State) (p : Params) : State :=
  let expected := s.expectedNow p
  s.setJoint { s.joint with expected := expected, deviation := s.deviationNow expected }

/-- The lengths of the set and clear runs (R105, R106). -/
def jackSetLength : Nat := 3
def jackClearLength : Nat := 20

/-- The deviation's magnitude meets a test, where there is a deviation. -/
def JointMonitor.deviates (j : JointMonitor) (test : Nat → Bool) : Bool :=
  match j.deviation with
  | some d => test d.natAbs
  | none => false

/-- The set run counts at this expiry (R105). -/
def State.alertBuilds (s : State) (p : Params) : Bool :=
  s.joint.deviates (fun d => p.jackThreshold < d) && 500 < s.odo.reference

/-- The clear run counts at this expiry (R106). -/
def State.alertEases (s : State) (p : Params) : Bool :=
  s.odo.reference ≤ 300 || s.joint.deviates (fun d => d < roundNat p.jackThreshold 2)

/-- Step 4: the runs, and the alert set with its ALERT or cleared (R105, R106). -/
def State.alertWork (s : State) (p : Params) : State :=
  if s.joint.protectionOff then s
  else if s.joint.jackAlert then
    let run := if s.alertEases p then s.joint.clearRun + 1 else 0
    if jackClearLength ≤ run then s.setJoint { s.joint with jackAlert := false, clearRun := run, setRun := 0 }
    else s.setJoint { s.joint with clearRun := run }
  else
    let run := if s.alertBuilds p then s.joint.setRun + 1 else 0
    if jackSetLength ≤ run then
      (s.setJoint { s.joint with jackAlert := true, setRun := run, clearRun := 0 }).queueAlert .jackknife 255
        (s.joint.deviation.getD 0)
    else s.setJoint { s.joint with setRun := run }

/-- The damper demand in percent (R108). -/
def damperDemand (alert : Bool) (reference : Nat) : Nat := if alert then 100 else min 100 (20 + roundNat reference 20)

/-- Step 5: the damper demand is put on the line at once (R108). -/
def State.damperWork (s : State) : State :=
  s.setJoint { s.joint with damper := some (damperDemand s.joint.jackAlert s.odo.reference) }

/-- The fold flag after a sound reading (R109). -/
def foldAfter (fold : Bool) (measured : Int) : Bool :=
  if 5200 ≤ measured.natAbs then true else if measured.natAbs < 5000 then false else fold

/-- Step 6: the fold flag, which keeps its value while JOINT_SENSOR is active (R109). -/
def State.foldWork (s : State) : State :=
  if s.hasCondition .jointSensor then s
  else s.setJoint { s.joint with fold := foldAfter s.joint.fold s.joint.measured }

/-- The six steps of R101; in LIMP step 1 alone (R110). -/
def State.jointWork (joint : AnalogIn) (p : Params) (s : State) : State :=
  let read := s.readJoint joint
  if s.inLimp then read else ((read.compareJoint p).alertWork p).damperWork.foldWork

/-- The monitor works at a joint-owning station while the timers run (R101, R110). -/
def State.jointExpiry (s : State) (joint : AnalogIn) : State :=
  if s.timersRun && s.ownsJoint then (s.withCopy (State.jointWork joint)).settle else s

/-! ## Outcomes of an expiry -/

/-- The jack alert is set at this expiry (R105). -/
def State.alertSetExpiry (s : State) (joint : AnalogIn) : State :=
  let t := s.jointExpiry joint
  s.expiryIf t (!s.joint.jackAlert && t.joint.jackAlert)

/-- The jack alert clears by its clear run at this expiry (R106). -/
def State.alertClearExpiry (s : State) (joint : AnalogIn) : State :=
  let t := s.jointExpiry joint
  s.expiryIf t (s.joint.jackAlert && !t.joint.jackAlert && !t.joint.protectionOff)

/-! ## Commands -/

/-- JOINT_MONITOR_EXPIRY (R101). -/
def execJointMonitorExpiry (dt : Micros) (joint : AnalogIn) (s : State) : Answer :=
  s.take dt (fun t => t.jointExpiry joint)

/-- JACK_ALERT_SET_RUN (R105). -/
def execJackAlertSetRun (dt : Micros) (joint : AnalogIn) (s : State) : Answer :=
  s.take dt (fun t => t.alertSetExpiry joint)

/-- JACK_ALERT_CLEAR_RUN (R106). -/
def execJackAlertClearRun (dt : Micros) (joint : AnalogIn) (s : State) : Answer :=
  s.take dt (fun t => t.alertClearExpiry joint)

end Sys2Proof.Machine
end

