-- ==== Sys2Proof/Machine/Level.lean ====
section
/-! DEFINITION. Air supply, levelling and kneeling: the six steps of one expiry, pulses, the continuous watch and the
twist gate (R131 to R151). -/

namespace Sys2Proof.Machine

/-! ## Step 1: reading (R133, R137, R149) -/

/-- The reservoir input (R133). -/
def State.readReservoir (s : State) (input : AnalogIn) : State :=
  match soundNat Config.maxPressure input with
  | some v =>
    let t := s.follow .reservoirSensor false
    t.setAir { t.air with reservoir := v }
  | none =>
    let t := s.follow .reservoirSensor true
    t.setAir { t.air with reservoir := 0 }

/-- The stuck count that sets STUCK, and the movement that is none, in mm (R137). -/
def stuckLimit : Nat := 30
def stuckMovement : Nat := 3

/-- A corner takes a sound height: the condition ends, and the stuck reference takes the height with the count 0 (R137). -/
def Corner.takeHeight (c : Corner) (h : Nat) : Corner :=
  { c with height := h, condition := none, stuckReference := h, stuckCount := 0 }

/-- A corner whose input is rejected keeps its last sound reading. -/
def Corner.reject (c : Corner) (x : HeightCondition) : Corner :=
  { c with condition := some x, stuckReference := c.height, stuckCount := 0 }

/-- A height input is tested (R137). `ran` is whether the corner's continuous run kept its valve open through the
whole period just ended. -/
def Corner.readHeight (c : Corner) (ran : Bool) (input : AnalogIn) : Corner :=
  match input with
  | .openShort => c.reject .openShort
  | .reading _ =>
    match soundNat Config.maxHeight input with
    | none => c.reject .range
    | some h =>
      if stuckMovement ≤ distance h c.stuckReference then c.takeHeight h
      else if ran then
        if stuckLimit ≤ c.stuckCount + 1 then { c with condition := some .stuck, stuckCount := stuckLimit }
        else { c with height := h, condition := none, stuckCount := c.stuckCount + 1 }
      else if c.condition = some .stuck then c.reject .stuck
      else c.takeHeight h

/-- A channel that is running: FILLING or EXHAUSTING. -/
def Channel.running (c : Channel) : Bool := c.state == .filling || c.state == .exhausting

/-- A continuous run with its valve open. -/
def Channel.flows (c : Channel) : Bool := c.running && c.kind == .continuous && c.valveOpen

/-- One height input: the corner, its channel, which a height condition ends, and its fault (R137). -/
def State.readHeight (s : State) (side : Side) (ran : Bool) (input : AnalogIn) : State :=
  let c := (s.air.corner side).readHeight ran input
  let a := s.air.setCorner side c
  let t := s.setAir (if c.condition.isSome then a.setChannel side (a.channel side).stop else a)
  t.follow (heightFault side) c.condition.isSome

/-- A bellows input is tested (R149). -/
def Corner.readBellows (c : Corner) (input : AnalogIn) : Corner :=
  match soundNat Config.maxPressure input with
  | some v => { c with bellows := v, bellowsCondition := false }
  | none => { c with bellowsCondition := true }

/-- Both bellows inputs, and BELLOWS_SENSOR while either condition is set (R149). -/
def State.readBellows (s : State) (left right : AnalogIn) : State :=
  let l := s.air.cornerL.readBellows left
  let r := s.air.cornerR.readBellows right
  (s.setAir { s.air with cornerL := l, cornerR := r }).follow .bellowsSensor (l.bellowsCondition || r.bellowsCondition)

/-- Step 1 of R132. DESIGN CHOICE: the inputs are tested in the order in which R132 names them, and the left height input
before the right one (notes/assumptions/51.md). -/
def State.readLevel (s : State) (inputs : LevelInputs) : State :=
  let ranL := s.air.channelL.flows
  let ranR := s.air.channelR.flows
  ((((s.readReservoir inputs.reservoir).readHeight .left ranL inputs.heightL).readHeight .right ranR
    inputs.heightR).readBellows inputs.bellowsL inputs.bellowsR)

/-! ## Step 2: air (R134, R135) -/

/-- The air status after a sound reading (R134). -/
def airAfter (p : Params) (before : AirStatus) (pressure : Nat) : AirStatus :=
  match before with
  | .protect => if pressure < p.releaseAt then .protect else if pressure < p.prewarnAt then .prewarn else .normal
  | .normal | .prewarn =>
    if pressure < p.protectAt then .protect else if pressure < p.prewarnAt then .prewarn else .normal

/-- A SUSPENDED channel returns to FILLING; step 6 reopens its valve (R135). -/
def Channel.resume (c : Channel) : Channel := if c.state = .suspended then { c with state := .filling } else c

/-- The air status is set, and fills are suspended under PROTECT or resumed on leaving it (R134, R135). -/
def Levelling.setAirStatus (a : Levelling) (x : AirStatus) : Levelling :=
  match x with
  | .protect => { a with air := x }.suspendFills
  | .prewarn | .normal =>
    if a.air = .protect then { a with air := x, channelL := a.channelL.resume, channelR := a.channelR.resume }
    else { a with air := x }

/-- Step 2 of R132: the reservoir latch and an active RESERVOIR_SENSOR hold the status. -/
def State.airWork (s : State) (p : Params) : State :=
  if s.air.reservoirLatch || s.hasCondition .reservoirSensor then s
  else s.setAir (s.air.setAirStatus (airAfter p s.air.air s.air.reservoir))

/-! ## Step 3: load (R149, R150) -/

/-- The pressures the load law uses (R149). -/
def Levelling.loadPressures (a : Levelling) : Option (Nat × Nat) :=
  match a.cornerL.bellowsCondition, a.cornerR.bellowsCondition with
  | false, false => some (a.cornerL.bellows, a.cornerR.bellows)
  | true, false => some (a.cornerR.bellows, a.cornerR.bellows)
  | false, true => some (a.cornerL.bellows, a.cornerL.bellows)
  | true, true => none

/-- The axle load of two bellows pressures, in kg (R150). -/
def axleLoadOf (p : Params) (left right : Nat) : Nat :=
  p.unsprung + roundNat (10 * (left + right) * p.bellowsArea) 981

/-- Step 3 of R132: the load is weighed while the demand in use is 0, and frozen above it (R150). -/
def State.loadWork (s : State) (p : Params) : State :=
  if s.brake.demand = 0 then
    s.setAir
      { s.air with
        axleLoad := match s.air.loadPressures with
          | some (left, right) => axleLoadOf p left right
          | none => p.ladenDefault }
  else s

/-! ## Step 4: level state (R143 to R147) -/

/-- At target: excluded, or within ±10 mm (R143). -/
def Corner.atTarget (c : Corner) : Bool := c.excluded || nearTarget c.height c.target

def Levelling.bothAtTarget (a : Levelling) : Bool := a.cornerL.atTarget && a.cornerR.atTarget

/-- Neither corner is excluded or has a height condition. -/
def Levelling.bothGood (a : Levelling) : Bool :=
  !a.cornerL.excluded && a.cornerL.condition.isNone && !a.cornerR.excluded && a.cornerR.condition.isNone

/-- The level request: DRIVE while the cab is lost for driver purposes (R143). -/
def State.levelRequest (s : State) : LevelRequest := s.driverField DriverContent.level .drive

/-- LEVEL to RAISING (R144). -/
def State.mayRaise (s : State) : Bool :=
  s.levelRequest == .raise && s.odo.reference < 833 && s.runOrDegraded && s.air.bothGood

/-- RAISING or RAISED to DESCENDING (R144). -/
def State.mustDescend (s : State) : Bool := s.levelRequest != .raise || 833 ≤ s.odo.reference

/-- LEVEL to KNEELING (R145). -/
def State.mayKneel (s : State) (p : Params) : Bool :=
  s.levelRequest == .kneel && s.odo.standstill && s.doors.halt == .applied && p.participant == 1
    && !s.air.kneelDisabled && s.air.bothGood && s.runOrDegraded

/-- To RETURNING (R146). -/
def State.mustReturn (s : State) : Bool := s.levelRequest != .kneel || !s.driverUsable || !s.odo.standstill

/-- A gate neighbour recorded at the previous expiry has a LOST record (R146). -/
def State.neighbourLost (s : State) : Bool :=
  let lost (k : Option Nat) : Bool := k.any (fun n => (s.peer n).any (fun r => r.presence == .lost))
  lost s.air.gateBelow || lost s.air.gateAbove

/-- The kneel timer's 8 s, and the return time's 15 s, in expiries (R146, R147). -/
def kneelLimit : Nat := Config.levellingRun 8000
def returnLimit : Nat := 150

/-- KNEELING to KNEEL_HELD (R146). -/
def State.mustHold (s : State) : Bool :=
  s.neighbourLost || s.air.kneelDisabled || kneelLimit ≤ s.air.kneelTimer

/-- The level state that step 4 leaves, by the rows of Table 8.6. -/
def State.nextLevel (s : State) (p : Params) : LevelState :=
  match s.air.level with
  | .level => if s.mayRaise then .raising else if s.mayKneel p then .kneeling else .level
  | .raising => if s.mustDescend then .descending else if s.air.bothAtTarget then .raised else .raising
  | .raised => if s.mustDescend then .descending else .raised
  | .descending => if s.air.bothAtTarget then .level else .descending
  | .kneeling =>
    if s.mustReturn then .returning
    else if s.air.bothAtTarget then .kneeled
    else if s.mustHold then .kneelHeld
    else .kneeling
  | .kneeled => if s.mustReturn then .returning else .kneeled
  | .kneelHeld => if s.mustReturn then .returning else .kneelHeld
  | .returning => if s.air.bothAtTarget then .level else .returning

/-- The kneel timer runs in KNEELING, and the return time in RETURNING while the air status is not PROTECT (R146, R147). -/
def Levelling.countTimes (a : Levelling) : Levelling :=
  { a with
    kneelTimer := if a.level = .kneeling then min kneelLimit (a.kneelTimer + 1) else a.kneelTimer
    returnTime := if a.level = .returning ∧ a.air ≠ .protect then min returnLimit (a.returnTime + 1) else a.returnTime }

/-- The times count, and a return time that reaches 150 raises RAISE_TIMEOUT (R147). -/
def State.countLevel (s : State) : State :=
  let t := s.setAir s.air.countTimes
  if t.air.returnTime = returnLimit ∧ s.air.returnTime ≠ returnLimit then t.raiseFault .raiseTimeout else t

/-- A transition of the level state: every run ends, the new targets take effect, the kneel timer is cleared, and the
return time is set to 0 on entry to RETURNING (R143, R146, R147). -/
def Levelling.toLevel (a : Levelling) (p : Params) (x : LevelState) : Levelling :=
  Levelling.setTargets
    { a.stopAll with level := x, kneelTimer := 0, returnTime := if x = .returning then 0 else a.returnTime } p

/-- Leaving RETURNING ends RAISE_TIMEOUT (R147). -/
def State.leaveReturning (s : State) (before : LevelState) : State :=
  if before = .returning ∧ s.air.level ≠ .returning then s.endCondition .raiseTimeout else s

/-- At most one transition at one expiry; one into KNEEL_HELD with the kneel timer run out raises KNEEL_TIMEOUT (R146). -/
def State.levelWork (s : State) (p : Params) : State :=
  let t := s.countLevel
  let next := t.nextLevel p
  if next = t.air.level then t
  else
    let moved := (t.setAir (t.air.toLevel p next)).leaveReturning t.air.level
    if next = .kneelHeld ∧ kneelLimit ≤ t.air.kneelTimer then moved.raiseEvent .kneelTimeout else moved

/-- In place of step 4 in LIMP: the level state that the sound heights show (R143, R151). -/
def State.levelInLimp (s : State) (p : Params) : State :=
  let sound (c : Corner) : Option Nat := if c.condition.isSome then none else some c.height
  let x := levelFromHeights p.driveHeight (sound s.air.cornerL) (sound s.air.cornerR)
  (s.setAir (Levelling.setTargets { s.air with level := x } p)).leaveReturning s.air.level

/-! ## Step 5: gate (R148) -/

/-- PRESENT peers whose last content reports kneel participant set, by station number. -/
def State.kneelers (s : State) : List (Nat × StateContent) := s.presentContents.filter (fun x => x.2.participant)

/-- The nearest such peer below, and above. -/
def State.kneelerBelow (s : State) : Option (Nat × StateContent) :=
  (s.kneelers.filter (fun x => x.1 < s.station)).getLast?

def State.kneelerAbove (s : State) : Option (Nat × StateContent) :=
  (s.kneelers.filter (fun x => s.station < x.1)).head?

/-- The height a content reports for a side. -/
def StateContent.heightAt (c : StateContent) : Side → Nat
  | .left => c.heightL
  | .right => c.heightR

/-- The lowest neighbour kerb height; `none` with no gate neighbour. -/
def State.lowestKerb (s : State) (p : Params) : Option Nat :=
  match s.kneelerBelow, s.kneelerAbove with
  | some x, some y => some (min (x.2.heightAt (kerbOf p)) (y.2.heightAt (kerbOf p)))
  | some x, none => some (x.2.heightAt (kerbOf p))
  | none, some y => some (y.2.heightAt (kerbOf p))
  | none, none => none

/-- Step 5 of R132: in KNEELING and RETURNING the gate and its neighbours, none in every other level state. -/
def State.gateWork (s : State) (p : Params) : State :=
  match s.air.level with
  | .kneeling =>
    s.setAir
      { s.air with
        gate := (s.lowestKerb p).map (fun h => (h : Int) - p.twistLimit)
        gateBelow := s.kneelerBelow.map Prod.fst, gateAbove := s.kneelerAbove.map Prod.fst }
  | .returning =>
    s.setAir
      { s.air with
        gate := (s.lowestKerb p).map (fun h => (h : Int) + p.twistLimit)
        gateBelow := s.kneelerBelow.map Prod.fst, gateAbove := s.kneelerAbove.map Prod.fst }
  | .level | .raising | .raised | .descending | .kneeled | .kneelHeld =>
    s.setAir { s.air with gate := none, gateBelow := none, gateAbove := none }

/-! ## Step 6: channels (R136, R138 to R142, R148) -/

/-- e = target − height (R136). -/
def Corner.error (c : Corner) : Int := (c.target : Int) - c.height

/-- The direction an error calls for (R136). -/
def flowOf (e : Int) : FlowDirection := if 0 < e then .fill else .exhaust

def runningState : FlowDirection → ChannelState
  | .fill => .filling
  | .exhaust => .exhausting

/-- The sign of an error is opposite to a direction. -/
def opposes (d : FlowDirection) (e : Int) : Bool :=
  match d with
  | .fill => e < 0
  | .exhaust => 0 < e

/-- A run has reached its stop at a height (R139). -/
def stopReached (d : FlowDirection) (target : Nat) (height : Int) : Bool :=
  match d with
  | .fill => (target : Int) - 5 ≤ height
  | .exhaust => height ≤ (target : Int) + 5

/-- The first pulse of a pulsed run (R138). -/
def Channel.startPulsed (c : Channel) (p : Params) (e : Int) (now : Micros) : Channel :=
  { c with
    state := runningState (flowOf e), kind := .pulsed, direction := flowOf e,
    pulses := min 8 (ceilDiv e.natAbs p.pulseStep), gated := false, valveOpen := true, pulseFrom := now }

/-- A running pulsed run at a later expiry (R138). -/
def Channel.nextPulse (c : Channel) (p : Params) (e : Int) (now : Micros) : Channel :=
  if e.natAbs ≤ p.deadband ∨ opposes c.direction e = true then c.stop else { c with valveOpen := true, pulseFrom := now }

/-- The curvature of the curvature hold, where it is known (R141). -/
def State.holdCurvature (s : State) (p : Params) : Option Int :=
  match (if s.keepsTrack then s.lookAhead (midOffset p) else none) with
  | some l => some l.curvature
  | none =>
    match s.driverContent with
    | some c => if c.angleValid then some c.curvature else none
    | none => none

/-- The curvature hold (R141). -/
def State.curvatureHold (s : State) (p : Params) : Bool :=
  300 < s.odo.reference && (s.holdCurvature p).all (fun k => 3000 < k.natAbs)

/-- A hold on pulsed corrections (R140). -/
def State.pulseHold (s : State) (p : Params) : Bool :=
  100 < s.brake.demand || s.brake.slipActive || s.curvatureHold p || !s.driverUsable

/-- The fill concurrency test (R142). -/
def State.fillAllowed (s : State) (p : Params) : Bool :=
  (s.presentContents.filter (fun x => x.2.fillInProgress)).length < p.fillLimit

/-- A pulsed run may start in the direction of `e` (R140). -/
def State.mayPulse (s : State) (p : Params) (e : Int) : Bool :=
  p.deadband < e.natAbs && (e < 0 || (s.air.air != .protect && s.fillAllowed p))

/-- One corner's pulsed work at step 6 in LEVEL and RAISED (R138, R140). A hold ends pulsed runs whatever the corner. -/
def State.pulsedChannel (s : State) (p : Params) (c : Corner) (ch : Channel) : Channel :=
  if s.pulseHold p then (if ch.kind = .pulsed ∧ ch.state ≠ .idle then ch.stop else ch)
  else if c.excluded || c.condition.isSome then ch
  else
    match ch.state with
    | .idle => if s.mayPulse p c.error then ch.startPulsed p c.error s.now else ch
    | .filling | .exhausting => ch.nextPulse p c.error s.now
    | .suspended => ch

/-- The twist gate holds the kerb corner's run at a height (R148). -/
def Levelling.gateHolds (a : Levelling) (kerb : Bool) (d : FlowDirection) (height : Int) : Bool :=
  kerb &&
    match a.gate, a.level, d with
    | some g, .kneeling, .exhaust => height ≤ g
    | some g, .returning, .fill => g ≤ height
    | _, _, _ => false

/-- A running continuous run with its gate tested: gated it is closed, ungated it is open (R148). -/
def Channel.gateBy (c : Channel) (held : Bool) : Channel := { c with gated := held, valveOpen := !held }

/-- A continuous run is started in the direction of `e`; a FILL run under PROTECT is created SUSPENDED (R135, R139). -/
def Levelling.startContinuous (a : Levelling) (kerb : Bool) (c : Corner) (ch : Channel) : Channel :=
  let d := flowOf c.error
  let run := { ch with state := runningState d, kind := .continuous, direction := d, pulses := 0 }
  if d = .fill ∧ a.air = .protect then { run with state := .suspended, gated := false, valveOpen := false }
  else run.gateBy (a.gateHolds kerb d c.height)

/-- One corner's continuous work at step 6 (R139, R148). A run whose valve is closed at its stop is complete; one whose
valve is open is closed by the watch. -/
def Levelling.continuousChannel (a : Levelling) (kerb : Bool) (c : Corner) (ch : Channel) : Channel :=
  if c.excluded || c.condition.isSome then ch
  else
    match ch.state with
    | .idle => if 10 < c.error.natAbs then a.startContinuous kerb c ch else ch
    | .filling | .exhausting =>
      if opposes ch.direction c.error then ch.stop
      else if !ch.valveOpen && stopReached ch.direction c.target c.height then ch.stop
      else ch.gateBy (a.gateHolds kerb ch.direction c.height)
    | .suspended =>
      if opposes ch.direction c.error || stopReached ch.direction c.target c.height then ch.stop else ch

/-- Step 6 of R132. -/
def State.channelWork (s : State) (p : Params) : State :=
  let a := s.air
  match a.level with
  | .level | .raised =>
    s.setAir
      { a with
        channelL := s.pulsedChannel p a.cornerL a.channelL, channelR := s.pulsedChannel p a.cornerR a.channelR }
  | .raising | .descending | .kneeling | .returning =>
    s.setAir
      { a with
        channelL := a.continuousChannel (kerbOf p == .left) a.cornerL a.channelL
        channelR := a.continuousChannel (kerbOf p == .right) a.cornerR a.channelR }
  | .kneeled | .kneelHeld => s

/-! ## The expiry -/

/-- The six steps of R132; in LIMP steps 1 to 3 and the level state that the heights show (R151). -/
def State.levellingWork (inputs : LevelInputs) (p : Params) (s : State) : State :=
  let t := ((s.readLevel inputs).airWork p).loadWork p
  if s.inLimp then t.levelInLimp p else ((t.levelWork p).gateWork p).channelWork p

/-- The block works while the timers run and the station has a working copy (R132, R151). -/
def State.levelExpiry (s : State) (inputs : LevelInputs) : State :=
  if s.timersRun then (s.withCopy (State.levellingWork inputs)).settle else s

/-! ## Between expiries (R136, R138, R139, R148) -/

/-- A pulse is open and its width has passed (R138). -/
def State.pulseDue (s : State) (side : Side) : Bool :=
  let c := s.air.channel side
  c.running && c.kind == .pulsed && c.valveOpen && s.hasCopy
    && s.param Params.pulseWidth * Config.ms ≤ s.elapsed c.pulseFrom

/-- At a pulse end the valve closes and the pulses remaining fall by 1; at 0 the run is complete (R138). -/
def Channel.endPulse (c : Channel) : Channel :=
  if c.pulses ≤ 1 then c.stop else { c with pulses := c.pulses - 1, valveOpen := false }

def State.pulseEnd (s : State) (side : Side) : State :=
  if s.pulseDue side then s.setAir (s.air.setChannel side (s.air.channel side).endPulse) else s

/-- The continuous watch sees a corner's height at its stop with the valve open: the run is complete (R139). -/
def State.stopRun (s : State) (side : Side) (height : Int) : State :=
  let c := s.air.channel side
  if c.flows && stopReached c.direction (s.air.corner side).target height then s.setAir (s.air.setChannel side c.stop)
  else s

/-- The continuous watch sees the kerb corner's height at the twist gate: the valve closes and the run is gated (R148). -/
def State.reachGate (s : State) (height : Int) : State :=
  s.withCopy (fun p t =>
    let c := t.air.channel (kerbOf p)
    if c.flows && t.air.gateHolds true c.direction height then t.setAir (t.air.setChannel (kerbOf p) (c.gateBy true))
    else t)

/-! ## Outcomes of an expiry -/

/-- A corner's stuck count reaches 30 at this expiry (R137). -/
def State.stuckExpiry (s : State) (side : Side) (inputs : LevelInputs) : State :=
  let t := s.levelExpiry inputs
  s.expiryIf t ((s.air.corner side).condition != some .stuck && (t.air.corner side).condition == some .stuck)

/-- The kneel timer reaches 8 s at this expiry, and the station enters KNEEL_HELD (R146). -/
def State.kneelExpiry (s : State) (inputs : LevelInputs) : State :=
  let t := s.levelExpiry inputs
  s.expiryIf t (s.air.level == .kneeling && kneelLimit ≤ s.air.kneelTimer + 1 && t.air.level == .kneelHeld)

/-- The return time reaches 150 at this expiry (R147). -/
def State.returnExpiry (s : State) (inputs : LevelInputs) : State :=
  let t := s.levelExpiry inputs
  s.expiryIf t (s.air.returnTime != returnLimit && t.air.returnTime == returnLimit)

/-! ## Commands -/

/-- LEVELLING_EXPIRY (R132). -/
def execLevellingExpiry (dt : Micros) (inputs : LevelInputs) (s : State) : Answer :=
  s.take dt (fun t => t.levelExpiry inputs)

/-- HEIGHT_STUCK (R137). -/
def execHeightStuck (dt : Micros) (side : Side) (inputs : LevelInputs) (s : State) : Answer :=
  s.take dt (fun t => t.stuckExpiry side inputs)

/-- PULSE_END (R138). -/
def execPulseEnd (dt : Micros) (side : Side) (s : State) : Answer := s.take dt (fun t => t.pulseEnd side)

/-- CONTINUOUS_STOP_REACHED (R139). -/
def execContinuousStopReached (dt : Micros) (side : Side) (height : Int) (s : State) : Answer :=
  s.take dt (fun t => t.stopRun side height)

/-- TWIST_GATE_REACHED (R148). -/
def execTwistGateReached (dt : Micros) (height : Int) (s : State) : Answer := s.take dt (fun t => t.reachGate height)

/-- KNEEL_TIMEOUT (R146). -/
def execKneelTimeout (dt : Micros) (inputs : LevelInputs) (s : State) : Answer := s.take dt (fun t => t.kneelExpiry inputs)

/-- RAISE_TIMEOUT (R147). -/
def execRaiseTimeout (dt : Micros) (inputs : LevelInputs) (s : State) : Answer := s.take dt (fun t => t.returnExpiry inputs)

end Sys2Proof.Machine
end

