-- ==== Sys2Proof/Machine/Path.lean ====
section
/-! DEFINITION. The path generator of the cab station: the front-angle sample, the curvature and PATH samples (R60 to R66). -/

namespace Sys2Proof.Machine

/-- The distance between two samples of the grid, in cm (R62). -/
def samplePitch : Nat := 25

/-- The front road-wheel angle is read and tested, and κ computed from it (R60, R61). DESIGN CHOICE: the expiry that first
finds the input sound again ends the condition, and is the one that computes κ again (notes/assumptions/42.md). -/
def State.readFront (p : Params) (front : AnalogIn) (s : State) : State :=
  match soundReading (-Config.maxAngle) Config.maxAngle front with
  | some angle =>
    (s.follow .steerInput false).setPath { s.path with frontAngle := angle, curvature := curvatureOf angle p.wheelbase }
  | none => (s.follow .steerInput true).setPath { s.path with curvature := 0 }

/-- Sample emission is enabled (R62). -/
def State.emitsSamples (s : State) : Bool :=
  s.working && s.odo.markValid && s.odo.direction != .reverse && !s.hasCondition .steerInput

/-- One PATH frame is queued; a refusal sets the gap-pending flag (R65), and a frame that is taken clears the flags that
`clearBreak` and `clearGap` name (R63, R64). -/
def State.emitSample (s : State) (sample : PathSample) (clearBreak clearGap : Bool) : State :=
  let taken := s.link.takesPath
  let t := s.queuePath sample
  if taken then
    t.setPath
      { t.path with
        breakPending := !clearBreak && t.path.breakPending, gapPending := !clearGap && t.path.gapPending }
  else t.setPath { t.path with gapPending := true }

/-- The first sample after a break, at the cab's axle mark (R63). -/
def State.firstSample (s : State) : State :=
  let mark := s.odo.mark
  let sample : PathSample :=
    { mark := mark, curvature := s.path.curvature, firstAfterBreak := true, gapBefore := false }
  let t := s.emitSample sample true true
  t.setPath { t.path with nextMark := some (mark + samplePitch) }

/-- The sample at the next sample mark, with the flags that are pending (R64). -/
def State.gridSample (s : State) (next : Nat) : State :=
  let first := s.path.breakPending
  let gap := s.path.gapPending && !s.path.breakPending
  let sample : PathSample := { mark := next, curvature := s.path.curvature, firstAfterBreak := first, gapBefore := gap }
  let t := s.emitSample sample first gap
  t.setPath { t.path with nextMark := some (next + samplePitch) }

/-- Samples until the next sample mark lies beyond the axle mark; `fuel` is how many grid points lie that far (R64). -/
def State.gridSamples (s : State) : Nat → State
  | 0 => s
  | fuel + 1 =>
    match s.path.nextMark with
    | some next => if next ≤ s.odo.mark then (s.gridSample next).gridSamples fuel else s
    | none => s

/-- Sample emission at one expiry (R62 to R65). Once an increment has saturated the mark no further sample is queued (R54,
R64). DESIGN CHOICE: a mark that was clamped when it was adopted (R55) has not saturated in this sense, so its first sample
is queued (notes/assumptions/49.md). -/
def State.emitSamples (s : State) : State :=
  if s.emitsSamples then
    if s.odo.saturated then s else
    match s.path.nextMark with
    | none => s.firstSample
    | some next => s.gridSamples ((s.odo.mark - next) / samplePitch + 1)
  else s.setPath { s.path with breakPending := true, nextMark := none }

/-- The work of one expiry of the path generator (R60 to R66). -/
def State.pathWork (front : AnalogIn) (p : Params) (s : State) : State := (s.readFront p front).emitSamples

/-- The generator works at the cab station while the timers run and it has a working copy (R66). -/
def State.pathExpiry (s : State) (front : AnalogIn) : State :=
  if s.timersRun && s.isCab then (s.withCopy (State.pathWork front)).settle else s

/-! ## Commands -/

/-- PATH_GENERATOR_EXPIRY (R62). -/
def execPathGeneratorExpiry (dt : Micros) (front : AnalogIn) (s : State) : Answer :=
  s.take dt (fun t => t.pathExpiry front)

end Sys2Proof.Machine
end

