-- ==== Sys2Proof/Machine/Parameters.lean ====
section
/-! DEFINITION. The parameter loader: the block image, its sum and unused words, refusals, clamps and dependent clamps, the
station checks (R1, R3, R184, R185), and the value in use of a word (R189). -/

namespace Sys2Proof.Machine

/-- Word `i` of an image, where it was received. -/
def imageWord (image : List (Option ParamWord)) (i : Nat) : Option Nat := ((image.getD i none).map BitVec.toNat)

/-- The numbers of the 64 words. -/
def wordNumbers : List Nat := List.range 64

/-- The 64 words of an image, where all were received (R184). -/
def receivedWords (image : List (Option ParamWord)) : Option (List Nat) := wordNumbers.mapM (imageWord image)

/-- The sum of the 64 words modulo 65,536 is 0, and the unused words 40..62 are 0 (R184). -/
def blockSound (ws : List Nat) : Bool :=
  ws.sum % 65536 == 0 && ((ws.drop 40).take 23).all (fun w => w == 0)

/-- Words 0..39 as parameters, as read. -/
def Params.ofWords (ws : List Nat) : Params :=
  let w (i : Nat) : Nat := ws.getD i 0
  { axles := w 0, lag := w 1, steered := w 2, steerLever := w 3, jointOwned := w 4, jointLever := w 5, wheelbase := w 6,
    steerLimit := w 7, rateLimit := w 8, dockingOffset := w 9, guidedGain := w 10, teeth := w 11, circumference := w 12,
    bellowsArea := w 13, unsprung := w 14, ladenDefault := w 15, gain := w 16, threshold := w 17, maxPressure := w 18,
    haltPressure := w 19, slipEntry := w 20, slipExit := w 21, driveHeight := w 22, raiseHeight := w 23,
    kneelDepth := w 24, roadDepth := w 25, participant := w 26, twistLimit := w 27, deadband := w 28, pulseWidth := w 29,
    pulseStep := w 30, protectAt := w 31, releaseAt := w 32, prewarnAt := w 33, fillLimit := w 34, doorCount := w 35,
    errorLimit := w 36, jackThreshold := w 37, holdTime := w 38, kerbSide := w 39 }

/-- The 40 values of a working copy in the order of Table 11.1. -/
def Params.values (p : Params) : List Nat :=
  [p.axles, p.lag, p.steered, p.steerLever, p.jointOwned, p.jointLever, p.wheelbase, p.steerLimit, p.rateLimit,
   p.dockingOffset, p.guidedGain, p.teeth, p.circumference, p.bellowsArea, p.unsprung, p.ladenDefault, p.gain,
   p.threshold, p.maxPressure, p.haltPressure, p.slipEntry, p.slipExit, p.driveHeight, p.raiseHeight, p.kneelDepth,
   p.roadDepth, p.participant, p.twistLimit, p.deadband, p.pulseWidth, p.pulseStep, p.protectAt, p.releaseAt,
   p.prewarnAt, p.fillLimit, p.doorCount, p.errorLimit, p.jackThreshold, p.holdTime, p.kerbSide]

def within (lo hi x : Nat) : Bool := lo ≤ x && x ≤ hi

/-- Step 1 of R185: every refuse parameter that is tested lies within its range. -/
def Params.refuseRanges (p : Params) (strap : Nat) : Bool :=
  within 3 6 p.axles && within 0 4000 p.lag && within 0 1 p.steered
  && (within 200 900 p.steerLever || (p.steered != 1 && p.jointOwned != 1))
  && within 0 1 p.jointOwned
  && (within 200 900 p.jointLever || p.jointOwned != 1)
  && (within 400 700 p.wheelbase || strap != 1)
  && within 40 120 p.teeth && within 2500 3600 p.circumference && within 500 3000 p.bellowsArea
  && within 500 2500 p.unsprung && within 5000 13000 p.ladenDefault && within 20 250 p.gain
  && within 150 350 p.driveHeight && within 0 1 p.participant && within 0 2 p.doorCount && within 0 1 p.kerbSide

/-- Step 2 of R185: each clamp parameter brought to the nearer end of its range. -/
def Params.clamped (p : Params) : Params :=
  { p with
    steerLimit := clampNat 500 2500 p.steerLimit
    rateLimit := clampNat 20 150 p.rateLimit
    dockingOffset := clampNat 0 500 p.dockingOffset
    guidedGain := clampNat 0 1000 p.guidedGain
    threshold := clampNat 0 80 p.threshold
    maxPressure := clampNat 500 1000 p.maxPressure
    haltPressure := clampNat 250 450 p.haltPressure
    slipEntry := clampNat 80 300 p.slipEntry
    slipExit := clampNat 40 200 p.slipExit
    raiseHeight := clampNat 0 100 p.raiseHeight
    kneelDepth := clampNat 0 120 p.kneelDepth
    roadDepth := clampNat 0 40 p.roadDepth
    twistLimit := clampNat 20 80 p.twistLimit
    deadband := clampNat 3 15 p.deadband
    pulseWidth := clampNat 20 90 p.pulseWidth
    pulseStep := clampNat 1 10 p.pulseStep
    protectAt := clampNat 500 900 p.protectAt
    releaseAt := clampNat 500 900 p.releaseAt
    prewarnAt := clampNat 500 900 p.prewarnAt
    fillLimit := clampNat 1 5 p.fillLimit
    errorLimit := clampNat 2 15 p.errorLimit
    jackThreshold := clampNat 400 1500 p.jackThreshold
    holdTime := clampNat 10 100 p.holdTime }

/-- Step 3 of R185: the dependent clamps, in the order of the table, each on the values left before it. -/
def Params.dependent (p : Params) : Params :=
  let release := max p.releaseAt (p.protectAt + 10)
  { p with
    slipExit := min p.slipExit (p.slipEntry - 20)
    raiseHeight := min p.raiseHeight (400 - p.driveHeight)
    releaseAt := release
    prewarnAt := max p.prewarnAt (release + 10) }

/-- Step 2 or step 3 changes at least one value, be it back to what was read (R185). -/
def Params.changedBySteps (p : Params) : Bool := p.clamped != p || p.clamped.dependent != p.clamped

/-- A strap value of 1..N is accepted (R1). -/
def strapAccepted (p : Params) (strap : Nat) : Bool := 1 ≤ strap && strap ≤ p.axles

/-- The role conditions of Table 1.2 (R3). -/
def roleFits (p : Params) (strap : Nat) : Bool :=
  if strap ≤ 2 then p.steered == 0 && p.jointOwned == 0 && p.lag == 0
  else
    1 ≤ p.lag && (p.steered != 1 || p.steerLever ≤ p.lag)
    && (p.jointOwned != 1 || p.steerLever + p.jointLever ≤ p.lag)

/-- What the loader finds in a START. -/
structure LoadResult where
  /-- The working copy; `none` for a block that could not be read. -/
  copy : Option Params
  /-- CONFIG is raised. -/
  config : Bool
  /-- PARAM_CLAMPED is raised. -/
  clampedAny : Bool
  deriving DecidableEq, Repr

/-- The loader's checks of an image and a strap value (R184, R185). -/
def loadParameters (image : List (Option ParamWord)) (strap : Nat) : LoadResult :=
  match receivedWords image with
  | none => { copy := none, config := true, clampedAny := false }
  | some ws =>
    let read := Params.ofWords ws
    if !blockSound ws || !read.refuseRanges strap then { copy := none, config := true, clampedAny := false }
    else
      let p := read.clamped.dependent
      { copy := some p, config := !(strapAccepted p strap && roleFits p strap), clampedAny := read.changedBySteps }

/-- The value in use of word `i`: given for 0..39 where the station has a working copy (R189). -/
def State.valueInUse (s : State) (i : Nat) : Option Nat :=
  match s.loader.copy with
  | some p => if i < 40 then some (p.values.getD i 0) else none
  | none => none

/-- START's reading and checks end (R172): the working copy and the block image are formed, each block takes its initial
values, PARAM_CLAMPED and CONFIG are raised, and the station enters SYNC, or LIMP on CONFIG. -/
def State.completeStart (s : State) (r : StartReading) : State :=
  let strap := r.strap.toNat
  let found := loadParameters r.words strap
  let t := (s.setLoader { strap := strap, image := r.words, copy := found.copy }).blocksInitial
  let u := match found.copy with
    | some p => t.blocksFromCopy p r
    | none => t
  let v := if found.clampedAny then u.raiseEvent .paramClamped else u
  if found.config then (v.raiseFault .config).enterLimp 1 else v.enterSync

end Sys2Proof.Machine
end

