-- ==== Sys2Proof/Machine/Service.lean ====
section
/-! DEFINITION. The service handler: requests from the service tool, and the answers by kind (R187 to R190). -/

namespace Sys2Proof.Machine

/-! ## Codings (Table 11.3, Table 11.4) -/

/-- The kinds of request (Table 11.3). -/
inductive RequestKind where
  | readStatus
  | readFaults
  | clearFaults
  | readParameter
  | readTrack
  deriving DecidableEq, Repr

def RequestKind.code : RequestKind → Nat
  | .readStatus => 1
  | .readFaults => 2
  | .clearFaults => 3
  | .readParameter => 4
  | .readTrack => 5

def RequestKind.ofCode? : Nat → Option RequestKind
  | 1 => some .readStatus
  | 2 => some .readFaults
  | 3 => some .clearFaults
  | 4 => some .readParameter
  | 5 => some .readTrack
  | _ => none

/-- The status of an answer (Table 11.3). -/
inductive AnswerStatus where
  | ok
  | notAtStandstill
  | outOfRange
  | notSupported
  | badLength
  deriving DecidableEq, Repr

def AnswerStatus.code : AnswerStatus → Nat
  | .ok => 0
  | .notAtStandstill => 1
  | .outOfRange => 2
  | .notSupported => 3
  | .badLength => 4

/-- LISTEN 0, ACTIVE 1, SILENT 2; an engine that is stopped answers nothing (R188). -/
def LinkState.code : LinkState → Nat
  | .listen => 0
  | .active => 1
  | .silent => 2
  | .stopped => 0

/-! ## Answers (R187, R189, R190) -/

/-- The four bytes that begin every answer, with `request` the payload as received. -/
def State.answerHead (s : State) (request : Payload) (status : AnswerStatus) : Payload :=
  [request.getD 0 0, toByte s.station, request.getD 2 0, toByte status.code]

/-- The contents of READ_STATUS, bytes 4..19: bytes 17..19 are unassigned. -/
def State.statusContents (s : State) : Payload :=
  [toByte s.sup.mode.code, toByte s.sup.restartCounter, toByte s.link.state.code,
   toByte (if s.keepsTrack then s.track.entries.length else 0), toByte s.link.overflow, toByte s.link.drops,
   toByte s.link.errors, toByte s.sup.faults.length, toByte s.sup.overflow,
   toByte (flagBit s.sup.listFull + 2 * flagBit s.hasCopy)]
  ++ le24 s.stationTime ++ [0, 0, 0]

/-- The records of one READ_FAULTS answer: up to four from a start index. -/
def Supervisor.recordsFrom (u : Supervisor) (start : Nat) : List FaultRecord := (u.faults.drop start).take 4

/-- The contents of READ_FAULTS, bytes 4..47: record slots beyond those sent are 0. -/
def Supervisor.faultContents (u : Supervisor) (start : Nat) : Payload :=
  let records := u.recordsFrom start
  [toByte u.faults.length, toByte records.length, toByte u.overflow, toByte (flagBit u.listFull)]
  ++ records.flatMap encodeRecord
  ++ List.replicate (40 - 9 * records.length) 0

/-- The list after CLEAR_FAULTS: every PASSIVE record removed, FAULT_LIST_FULL cleared, the overflow counter kept. -/
def Supervisor.clearPassive (u : Supervisor) : Supervisor := { u with faults := u.activeRecords, listFull := false }

/-- The contents of CLEAR_FAULTS, bytes 4..7, from the list before the clear. -/
def Supervisor.clearContents (u : Supervisor) : Payload :=
  [toByte (u.faults.length - u.activeCount), toByte u.activeCount, 0, 0]

/-- The contents of READ_PARAMETER for word `i`, bytes 4..11. -/
def State.parameterContents (s : State) (i : Nat) : Payload :=
  let read := imageWord s.loader.image i
  let used := s.valueInUse i
  [toByte i, toByte (flagBit read.isSome + 2 * flagBit used.isSome)] ++ le16 (read.getD 0) ++ le16 (used.getD 0) ++ [0, 0]

/-- The contents of READ_TRACK, bytes 4..15. -/
def TrackMemory.contents (t : TrackMemory) : Payload :=
  let mark (e : Option TrackEntry) : Nat := (e.map TrackEntry.mark).getD 0
  [toByte t.entries.length, toByte t.gapCount, toByte t.staleCount, 0] ++ le32 (mark t.oldest) ++ le32 (mark t.newest)

/-- The track memory as READ_TRACK shows it: at a station that keeps none the count and both marks are 0 (R189). DESIGN
CHOICE: so are the gap count and the stale-sample count (notes/assumptions/55.md). -/
def State.shownTrack (s : State) : TrackMemory := if s.keepsTrack then s.track else TrackMemory.initial

/-- An answer with status OK. -/
def State.answerOk (s : State) (request contents : Payload) : State :=
  s.queueAnswer (s.answerHead request .ok ++ contents)

/-- An answer with any other status is 4 bytes long. -/
def State.answerRefused (s : State) (request : Payload) (status : AnswerStatus) : State :=
  s.queueAnswer (s.answerHead request status)

/-- A listed kind is answered, with its argument (R189, R190). -/
def State.serveKind (s : State) (k : RequestKind) (request : Payload) (argument : Nat) : State :=
  match k with
  | .readStatus => s.answerOk request s.statusContents
  | .readFaults =>
    if 15 < argument then s.answerRefused request .outOfRange
    else s.answerOk request (s.sup.faultContents argument)
  | .clearFaults =>
    if s.odo.standstill then (s.setSup s.sup.clearPassive).answerOk request s.sup.clearContents
    else s.answerRefused request .notAtStandstill
  | .readParameter =>
    if 64 ≤ argument then s.answerRefused request .outOfRange else s.answerOk request (s.parameterContents argument)
  | .readTrack => s.answerOk request s.shownTrack.contents

/-- The service handler (R188). DESIGN CHOICE: a station strapped 0 answers target 0, under identifier 48
(notes/assumptions/17.md). -/
def State.serve (s : State) (request : Payload) : State :=
  if request.length < 3 ∨ byteAt request 1 ≠ s.station then s
  else if request.length ≠ 4 then s.answerRefused request .badLength
  else
    match RequestKind.ofCode? (byteAt request 0) with
    | some k => s.serveKind k request (byteAt request 3)
    | none => s.answerRefused request .notSupported

/-- A completed SERVICE frame, by its sender: a peer's is ignored (R25, R26, R188). -/
def State.takeService (s : State) (sender : Nat) (request : Payload) : State :=
  match s.arrival sender with
  | .tool => s.serve request
  | .unexpected => s.meetUnexpected
  | .peer | .ignored => s

/-- The four bytes of a request of a listed kind (Table 11.3). -/
def requestBytes (k : RequestKind) (target tag argument : Byte) : Payload := [toByte k.code, target, tag, argument]

/-! ## Commands -/

/-- READ_STATUS (R189). -/
def execReadStatus (dt : Micros) (sender : BitVec 3) (target tag argument : Byte) (s : State) : Answer :=
  s.take dt (fun t => t.takeService sender.toNat (requestBytes .readStatus target tag argument))

/-- READ_FAULTS (R190). -/
def execReadFaults (dt : Micros) (sender : BitVec 3) (target tag argument : Byte) (s : State) : Answer :=
  s.take dt (fun t => t.takeService sender.toNat (requestBytes .readFaults target tag argument))

/-- CLEAR_FAULTS (R190). -/
def execClearFaults (dt : Micros) (sender : BitVec 3) (target tag argument : Byte) (s : State) : Answer :=
  s.take dt (fun t => t.takeService sender.toNat (requestBytes .clearFaults target tag argument))

/-- READ_PARAMETER (R189). -/
def execReadParameter (dt : Micros) (sender : BitVec 3) (target tag argument : Byte) (s : State) : Answer :=
  s.take dt (fun t => t.takeService sender.toNat (requestBytes .readParameter target tag argument))

/-- READ_TRACK (R189). -/
def execReadTrack (dt : Micros) (sender : BitVec 3) (target tag argument : Byte) (s : State) : Answer :=
  s.take dt (fun t => t.takeService sender.toNat (requestBytes .readTrack target tag argument))

/-- SERVICE_REQUEST_REJECTED (R188). -/
def execServiceRequestRejected (dt : Micros) (sender : BitVec 3) (payload : Payload) (s : State) : Answer :=
  s.take dt (fun t => t.takeService sender.toNat payload)

end Sys2Proof.Machine
end

