-- ==== Sys2Proof/Machine/Speed.lean ====
section
/-! DEFINITION. The speed and odometry block: tooth edges, wheel speed, plausibility, axle and reference speed, odometer
source, direction, distance into the mark, adoption and the standstill flag (R43 to R58). -/

namespace Sys2Proof.Machine

/-! ## Tooth edges (R43, R50) -/

/-- The elapsed time since a wheel's last edge at which its speed is 0 (R44). -/
def zeroSpeedAfter : Micros := 250 * Config.ms

/-- An edge captures the time since the previous one, where there was one, and starts the timing anew (R43). -/
def Wheel.capturePeriod (w : Wheel) (now : Micros) : Wheel :=
  { w with
    lastEdge := some now
    capture := match w.lastEdge with
      | some t => some (clampNat 1 1048575 (now - t))
      | none => w.capture }

/-- An edge adds one tooth of distance to a wheel that is not excluded (R50). -/
def Wheel.addTooth (w : Wheel) (p : Params) : Wheel :=
  { w with accumulator := if w.excluded then w.accumulator else w.accumulator + p.circumference * 1000 }

/-- An edge captures its period, and adds one tooth of distance. DESIGN CHOICE: without a working copy, which holds the
tooth's length, no distance is added (notes/assumptions/44.md). -/
def Wheel.edge (w : Wheel) (copy : Option Params) (now : Micros) : Wheel :=
  match copy with
  | some p => (w.capturePeriod now).addTooth p
  | none => w.capturePeriod now

/-! ## Wheel speed and plausibility (R44, R46) -/

/-- 250 ms or more have elapsed since the wheel's last edge. -/
def Wheel.timedOut (w : Wheel) (now : Micros) : Bool :=
  match w.lastEdge with
  | some t => zeroSpeedAfter ≤ now - t
  | none => false

/-- The wheel's speed from its held capture, or 0 with the capture cleared after the timeout (R44). -/
def Wheel.measure (w : Wheel) (p : Params) (now : Micros) : Wheel :=
  if w.timedOut now then { w with speed := 0, capture := none, lastEdge := none }
  else
    { w with
      speed := match w.capture with
        | some period => min Config.maxSpeed (roundNat (p.circumference * 100000) (p.teeth * period))
        | none => 0 }

/-- The expiries of a plausibility failure that raise the fault, 2 s (R46). -/
def implausibleRun : Nat := Config.fastRun 2000

/-- The plausibility test of a wheel against the other (R46). -/
def Wheel.judge (w other : Wheel) : Wheel :=
  { w with implausible := if w.speed = 0 ∧ 500 < other.speed then min implausibleRun (w.implausible + 1) else 0 }

/-- The condition of a wheel sensor fault: open, short or implausible (R45, R46). -/
def Wheel.faulty (w : Wheel) : Bool := w.openShort || w.implausible == implausibleRun

/-- WHEEL_SENSORS_BOTH is raised when both wheel faults are active, and lasts while they are (R47). -/
def State.followBoth (s : State) : State :=
  s.follow .wheelSensorsBoth (s.hasCondition .wheelSensorL && s.hasCondition .wheelSensorR)

/-- The fault of one wheel follows its condition; a cause that arises now, an open or short detected or a plausibility run
that reaches 2 s, raises a fault already active again (R45, R46). -/
def State.followWheel (s : State) (side : Side) (arises : Bool) : State :=
  let c := wheelFault side
  if arises then s.raiseFault c else s.follow c (s.odo.wheel side).faulty

/-- A plausibility run that reaches 2 s at this expiry. -/
def Wheel.reachesRun (before after : Wheel) : Bool :=
  after.implausible == implausibleRun && before.implausible != implausibleRun

/-- Both wheels measured and judged, and their faults (R44 to R47). DESIGN CHOICE: where both faults are raised at one
expiry, the left one is raised first (notes/assumptions/52.md). -/
def State.wheelWork (p : Params) (s : State) : State :=
  let l := s.odo.left.measure p s.now
  let r := s.odo.right.measure p s.now
  let left := l.judge r
  let right := r.judge l
  let t := s.setOdo { s.odo with left := left, right := right }
  ((t.followWheel .left (s.odo.left.reachesRun left)).followWheel .right (s.odo.right.reachesRun right)).followBoth

/-! ## Axle speed and reference speed (R48, R49) -/

/-- The speeds of the wheels that are not excluded. -/
def Odometry.usedSpeeds (o : Odometry) : List Nat :=
  (if o.left.excluded then [] else [o.left.speed]) ++ (if o.right.excluded then [] else [o.right.speed])

/-- The mean of the wheels in use, and speed-valid (R48). -/
def Odometry.setAxleSpeed (o : Odometry) : Odometry :=
  match o.usedSpeeds with
  | [] => { o with axleSpeed := 0, speedValid := false }
  | speeds => { o with axleSpeed := roundNat speeds.sum speeds.length, speedValid := true }

/-- The axle speeds that PRESENT peers report with speed-valid set. -/
def State.peerSpeeds (s : State) : List Nat :=
  s.presentContents.filterMap (fun p => if p.2.speedValid then some p.2.axleSpeed else none)

/-- The largest of a list, 0 for none. -/
def largest (xs : List Nat) : Nat := xs.foldr max 0

/-- The new reference speed: the candidate, or the previous value less 12 (R49). -/
def State.newReference (s : State) : Nat :=
  max (largest (s.odo.usedSpeeds ++ s.peerSpeeds)) (s.odo.reference - 12)

def State.speedWork (s : State) : State :=
  let t := s.setOdo s.odo.setAxleSpeed
  t.setOdo { t.odo with reference := t.newReference }

/-! ## Source and direction (R52, R53) -/

/-- The odometer source is BORROWED (R52). -/
def State.borrows (s : State) : Bool :=
  s.brake.slipActive || s.hasCondition .wheelSensorsBoth || (s.odo.left.excluded && s.odo.right.excluded)

/-- The source, and the borrow time: 0 at an expiry that finds OWN and at the first that finds BORROWED (R52, Table 12.4;
notes/assumptions/9.md). -/
def State.sourceWork (s : State) : State :=
  if s.borrows then
    s.setOdo
      { s.odo with
        source := .borrowed
        borrowTime := if s.odo.source = .borrowed then s.odo.borrowTime + Config.fastPeriodMs else 0 }
  else s.setOdo { s.odo with source := .own, borrowTime := 0 }

/-- The direction in use; a change into REVERSE clears the track memory at once (R53, R71). -/
def State.directionWork (s : State) : State :=
  let d := s.driverField DriverContent.direction s.odo.direction
  let t := s.setOdo { s.odo with direction := d }
  if d = .reverse ∧ s.odo.direction ≠ .reverse then t.clearTrack else t

/-! ## Distance into the mark (R50, R51, R54) -/

/-- The axle increment of one period in µm, and the half µm carried (R51, R52). -/
def Odometry.axleIncrement (o : Odometry) (p : Params) : Nat × Nat :=
  let l := o.left.accumulator / p.teeth
  let r := o.right.accumulator / p.teeth
  match o.source with
  | .borrowed => (o.reference * 100, o.halfCarry)
  | .own =>
    if o.left.excluded then (r, o.halfCarry)
    else if o.right.excluded then (l, o.halfCarry)
    else ((l + r + o.halfCarry) / 2, (l + r + o.halfCarry) % 2)

/-- The whole µm are taken from a wheel's accumulator, and the fraction kept (R50). -/
def Wheel.takeWhole (w : Wheel) (p : Params) : Wheel := { w with accumulator := w.accumulator % p.teeth }

/-- The path increment: at the cab, the axle increment × cos(δ1), with cos 1 while STEER_INPUT is active (R51). -/
def State.pathIncrement (s : State) (axle : Nat) : Nat :=
  if s.isCab && !s.hasCondition .steerInput then timesCos axle s.path.frontAngle else axle

/-- An increment reaches the mark: a mark is adopted, the direction is not REVERSE, and no increment has saturated the mark
(R51, R54). DESIGN CHOICE: a mark that was clamped when it was adopted (R55) goes on by R51 until one has
(notes/assumptions/49.md). -/
def State.countsDistance (s : State) : Bool :=
  s.odo.markValid && s.odo.direction != .reverse && !s.odo.saturated

/-- The path increment is added, whole cm move into the mark, and a mark that would pass its end saturates (R51, R54). -/
def State.addDistance (s : State) (increment : Nat) : State :=
  let total := s.odo.markAccumulator + increment
  let mark := s.odo.mark + total / 10000
  if Config.maxMark < mark then
    (s.setOdo { s.odo with mark := Config.maxMark, markAccumulator := 0, saturated := true }).raiseFault .odometerSaturated
  else s.setOdo { s.odo with mark := mark, markAccumulator := total % 10000 }

def State.distanceWork (p : Params) (s : State) : State :=
  let axle := s.odo.axleIncrement p
  let t := s.setOdo
    { s.odo with left := s.odo.left.takeWhole p, right := s.odo.right.takeWhole p, halfCarry := axle.2 }
  if t.countsDistance then t.addDistance (t.pathIncrement axle.1) else t

/-! ## Adoption (R55, R56) -/

def cabAdoptsAfter : Micros := 200 * Config.ms
def rearAdoptsAfter : Micros := 2 * Config.second

/-- A record's content that adoption may use: mark-valid set, mode SYNC, RUN or DEGRADED, not stale, whatever the presence. -/
def PeerRecord.adoptable (r : PeerRecord) : Option StateContent :=
  match r.content with
  | some c => if c.markValid && c.mode != .limp && !r.stale then some c else none
  | none => none

/-- What the cab adopts: the largest mark + lag plus 100, or 5,000 (R5, R55). -/
def State.cabMark (s : State) : Nat :=
  match s.peers.filterMap (fun p => p.2.adoptable.map (fun c => c.mark + c.lag)) with
  | [] => 5000
  | sums => largest sums + 100

/-- The cab content a rear station adopts from (R56). -/
def State.cabContent (s : State) : Option StateContent := (s.peer 1).bind PeerRecord.adoptable

/-- A mark is adopted: it is set, mark-valid with it, and the mark accumulator holds 0. -/
def State.adopt (s : State) (mark : Nat) : State :=
  s.setOdo { s.odo with mark := mark, markValid := true, markAccumulator := 0 }

/-- The cab adopts at this expiry (R55). -/
def State.cabAdopts (s : State) : Bool :=
  s.isCab && s.working && !s.odo.markValid && s.reached s.sup.syncFrom cabAdoptsAfter

/-- A rear station adopts at this expiry: from the cab's content, or after 2 s without one (R56). -/
def State.rearAdopts (s : State) : Bool :=
  !s.isCab && s.working && !s.odo.markValid && (s.cabContent.isSome || s.reached s.sup.syncFrom rearAdoptsAfter)

def State.adoptionWork (p : Params) (s : State) : State :=
  if s.cabAdopts then
    if Config.maxMark < s.cabMark then (s.adopt Config.maxMark).raiseFault .odometerSaturated else s.adopt s.cabMark
  else if s.rearAdopts then
    s.adopt (match s.cabContent with
      | some c => c.mark - p.lag
      | none => 5000 - p.lag)
  else s

/-! ## Standstill (R57, R58) -/

/-- The speed terms of R57. -/
def State.speedTerms (s : State) : List Nat :=
  (if s.odo.speedValid then s.odo.axleSpeed else s.odo.reference) :: s.peerSpeeds

/-- Every term is below 10 and some speed-valid flag is set (R57). -/
def State.restsNow (s : State) : Bool :=
  s.speedTerms.all (fun v => v < 10) && (s.odo.speedValid || !s.peerSpeeds.isEmpty)

/-- The expiries of the set run, 200 ms (R57). -/
def standstillRun : Nat := Config.fastRun 200

/-- The standstill flag and its set run; a clearing while a grant is held queues ALERT STANDSTILL_LOST (R57, R58). -/
def State.standstillWork (s : State) : State :=
  let run := if s.restsNow then min standstillRun (s.odo.setRun + 1) else 0
  let moves := s.speedTerms.any (fun v => 30 < v)
  let t := s.setOdo
    { s.odo with setRun := run, standstill := !moves && (s.odo.standstill || run == standstillRun) }
  if s.odo.standstill && moves && s.doors.anyGrant then t.queueAlert .standstillLost 255 s.odo.reference else t

/-! ## The expiry -/

/-- The work of one expiry of the speed block's fast period. DESIGN CHOICE: the wheels are judged, and a wheel whose fault
takes effect is excluded, before the axle speed, v_ref, the source and the distance of the same expiry are formed
(notes/assumptions/53.md); and distance comes before adoption, so the increment of the expiry that adopts is discarded
(notes/assumptions/48.md). -/
def State.odometryWork (p : Params) (s : State) : State :=
  (State.adoptionWork p (State.distanceWork p
    (State.wheelWork p s).speedWork.sourceWork.directionWork)).standstillWork

/-- The speed block works while the timers run and the station has a working copy (R9, R56). -/
def State.speedExpiry (s : State) : State :=
  if s.timersRun then (s.withCopy State.odometryWork).settle else s

/-! ## Between expiries, and outcomes of an expiry -/

/-- A tooth edge arrives (R43, R50). -/
def State.toothEdge (s : State) (side : Side) : State :=
  if s.timersRun then s.setOdo (s.odo.setWheel side ((s.odo.wheel side).edge s.loader.copy s.now)) else s

/-- The input circuit detects an open or a short, which raises the side's fault, or its end, which the fault follows (R45,
R47). DESIGN CHOICE: where the block's timers do not run only the line's state is kept (notes/assumptions/45.md). -/
def State.openShort (s : State) (side : Side) (present : Bool) : State :=
  let t := s.setOdo (s.odo.setWheel side { s.odo.wheel side with openShort := present })
  match s.sup.power with
  | .off => s
  | .waiting | .on => if s.timersRun then
      ((t.followWheel side (present && !(s.odo.wheel side).openShort)).followBoth).settle
    else t

/-- A wheel's edges have failed to come for 250 ms at this expiry (R44). -/
def State.zeroSpeedTimeout (s : State) (side : Side) : State :=
  s.expiryIf s.speedExpiry (s.timersRun && s.hasCopy && (s.odo.wheel side).timedOut s.now)

/-- A wheel's plausibility failure reaches 2 s at this expiry (R46). -/
def State.plausibilityFail (s : State) (side : Side) : State :=
  s.expiryIf s.speedExpiry ((s.odo.wheel side).reachesRun (s.speedExpiry.odo.wheel side))

/-- The standstill flag is set at this expiry (R57). -/
def State.standstillSet (s : State) : State :=
  s.expiryIf s.speedExpiry (!s.odo.standstill && s.speedExpiry.odo.standstill)

/-- The cab adopts its mark at this expiry (R55). -/
def State.cabAdoption (s : State) : State := s.expiryIf s.speedExpiry (s.hasCopy && s.cabAdopts)

/-- A rear station adopts without a cab mark at this expiry (R56). -/
def State.rearTimeout (s : State) : State :=
  s.expiryIf s.speedExpiry (s.hasCopy && s.rearAdopts && s.cabContent.isNone)

/-! ## Commands -/

/-- TOOTH_EDGE (R43). -/
def execToothEdge (dt : Micros) (side : Side) (s : State) : Answer := s.take dt (fun t => t.toothEdge side)

/-- WHEEL_SENSOR_OPEN_SHORT (R45). -/
def execWheelSensorOpenShort (dt : Micros) (side : Side) (present : Bool) (s : State) : Answer :=
  s.take dt (fun t => t.openShort side present)

/-- SPEED_ODOMETRY_EXPIRY (R51). -/
def execSpeedOdometryExpiry (dt : Micros) (s : State) : Answer := s.take dt State.speedExpiry

/-- WHEEL_ZERO_SPEED_TIMEOUT (R44). -/
def execWheelZeroSpeedTimeout (dt : Micros) (side : Side) (s : State) : Answer :=
  s.take dt (fun t => t.zeroSpeedTimeout side)

/-- WHEEL_PLAUSIBILITY_FAIL (R46). -/
def execWheelPlausibilityFail (dt : Micros) (side : Side) (s : State) : Answer :=
  s.take dt (fun t => t.plausibilityFail side)

/-- STANDSTILL_SET (R57). -/
def execStandstillSet (dt : Micros) (s : State) : Answer := s.take dt State.standstillSet

/-- CAB_MARK_ADOPTION (R55). -/
def execCabMarkAdoption (dt : Micros) (s : State) : Answer := s.take dt State.cabAdoption

/-- REAR_ADOPTION_TIMEOUT (R56). -/
def execRearAdoptionTimeout (dt : Micros) (s : State) : Answer := s.take dt State.rearTimeout

end Sys2Proof.Machine
end

