-- ==== Sys2Proof/Machine/Steer.lean ====
section
/-! DEFINITION. Rear-axle steering: the six steps of one expiry, the mode transitions, the target laws, limits, rate limit,
staging and supervision (R79 to R98). -/

namespace Sys2Proof.Machine

/-! ## Runs (R10, Table 5.1) -/

def lockLossLength : Nat := Config.fastRun 100
def notValidLength : Nat := Config.fastRun 500
def guidedExitLength : Nat := Config.fastRun 1000
def centredLength : Nat := Config.fastRun 100
def mismatchLength : Nat := Config.fastRun 200
def travelLength : Nat := Config.fastRun 2000

/-- A run counts while its condition holds, up to its length, and is cleared at any expiry at which it fails (R10). -/
def countRun (length run : Nat) (condition : Bool) : Nat := if condition then min length (run + 1) else 0

/-- The longest borrow time with which the block goes on tracking, in ms (R83, R85). -/
def borrowLimit : Nat := 3000

/-- The measured angle is within 50 cd (R80). -/
def Steering.atCentre (t : Steering) : Bool := t.measured.natAbs ≤ 50

/-! ## Steps 1 and 2: output, reading and supervision (R81, R97, R98) -/

/-- The staged demand is put on the actuator demand line (R81, R96). -/
def Steering.output (t : Steering) : Steering := { t with line := t.staged }

/-- The mismatch run and the centring travel time after this expiry's reading (R97). -/
def Steering.supervise (t : Steering) : Steering :=
  let follows := t.mode == .tracking || t.mode == .guided || (t.mode == .centring && t.line != 0)
  { t with
    mismatch := countRun mismatchLength t.mismatch (follows && 300 < (t.line - t.measured).natAbs)
    travel :=
      if t.mode = .centring then
        (if t.line = 0 ∨ 0 < t.travel then min travelLength (t.travel + 1) else 0)
      else 0 }

/-- A STEER_MISMATCH test fails at this expiry (R97). -/
def Steering.mismatched (t : Steering) : Bool := t.mismatch == mismatchLength || t.travel == travelLength

/-- The measured angle is read and tested; a faulty input raises STEER_SENSOR, holds 0 and enters FAILED (R98). -/
def State.readSteer (s : State) (angle : AnalogIn) : State :=
  match soundReading (-Config.maxAngle) Config.maxAngle angle with
  | some v => (s.follow .steerSensor false).setSteer { s.steer with measured := v }
  | none =>
    let t := s.follow .steerSensor true
    let u := t.setSteer { t.steer with measured := 0 }
    if s.hasCondition .steerSensor then u else u.setSteer u.steer.toFailed

/-- The supervision of step 2; a mismatch enters FAILED, which ends its condition (R97). -/
def State.superviseSteer (s : State) : State :=
  let t := s.setSteer s.steer.supervise
  if t.steer.mismatched then (t.raiseEvent .steerMismatch).setSteer t.steer.toFailed else t

/-! ## Step 3: mode (R82 to R87) -/

/-- A centring condition (R84). -/
def State.mustCentre (s : State) : Bool :=
  s.odo.direction == .reverse || !s.driverUsable || s.inEffect .odometerSaturated

/-- The station's own joint has a jack alert. -/
def State.ownAlert (s : State) : Bool := s.ownsJoint && s.joint.jackAlert

/-- The station owns a joint and it is usable: JOINT_SENSOR is neither active nor its consequence in effect (R85). -/
def State.jointUsable (s : State) : Bool :=
  s.ownsJoint && !s.hasCondition .jointSensor && !s.inEffect .jointSensor

/-- The station may enter TRACKING from LOCKED (R83). -/
def State.mayTrack (s : State) : Bool :=
  s.runOrDegraded && s.driverUsable && s.odo.direction == .forward && s.track.status == .valid && s.steer.atCentre
    && s.odo.borrowTime ≤ borrowLimit && !s.ownAlert && !s.mustCentre

/-- Entry to CENTRING: the solenoid is energised, the demand goes on from where it stands (R82, R84, R85). -/
def Steering.toCentring (t : Steering) : Steering :=
  { t with
    mode := .centring, solenoid := true, docking := 0, lockLoss := 0, notValid := 0, guidedExit := 0, centred := 0,
    travel := 0 }

/-- Entry to TRACKING (R83, R86). -/
def Steering.toTracking (t : Steering) : Steering :=
  { t with mode := .tracking, solenoid := true, lockLoss := 0, notValid := 0, guidedExit := 0 }

/-- Entry to GUIDED (R85). -/
def Steering.toGuided (t : Steering) : Steering := { t with mode := .guided, docking := 0, notValid := 0, guidedExit := 0 }

/-- Entry to LOCKED from CENTRING: the solenoid is de-energised at once (R87, R82). -/
def Steering.toLocked (t : Steering) : Steering :=
  { t with mode := .locked, solenoid := false, unlimited := 0, target := 0, applied := 0, staged := 0, centred := 0, travel := 0, mismatch := 0 }

/-- In LOCKED (R82, R83). -/
def State.modeFromLocked (s : State) : Steering :=
  let run := countRun lockLossLength s.steer.lockLoss (!s.steer.atCentre)
  if run = lockLossLength then s.steer.toCentring
  else if s.mayTrack then s.steer.toTracking
  else { s.steer with lockLoss := run }

/-- In TRACKING (R84, R85). -/
def State.modeFromTracking (s : State) : Steering :=
  let run := countRun notValidLength s.steer.notValid (s.track.status != .valid)
  if s.mustCentre then s.steer.toCentring
  else if run = notValidLength ∨ borrowLimit < s.odo.borrowTime ∨ s.ownAlert = true then
    (if s.jointUsable then s.steer.toGuided else s.steer.toCentring)
  else { s.steer with notValid := run }

/-- In GUIDED (R84, R86). -/
def State.modeFromGuided (s : State) : Steering :=
  let run := countRun guidedExitLength s.steer.guidedExit
    (s.track.status == .valid && s.odo.borrowTime == 0 && !s.ownAlert)
  if s.mustCentre || !s.jointUsable then s.steer.toCentring
  else if run = guidedExitLength then s.steer.toTracking
  else { s.steer with guidedExit := run }

/-- In CENTRING (R87). -/
def State.modeFromCentring (s : State) : Steering :=
  let run := countRun centredLength s.steer.centred (s.steer.applied == 0 && s.steer.atCentre)
  if run = centredLength then s.steer.toLocked else { s.steer with centred := run }

/-- At most one transition at one expiry; FAILED is left at START only (R81, R88). -/
def State.steerMode (s : State) : State :=
  match s.steer.mode with
  | .locked => s.setSteer s.modeFromLocked
  | .tracking => s.setSteer s.modeFromTracking
  | .guided => s.setSteer s.modeFromGuided
  | .centring => s.setSteer s.modeFromCentring
  | .failed => s

/-! ## Step 4: target (R90 to R94) -/

/-- The docking contribution in TRACKING (R93). -/
def State.dockingNow (s : State) (p : Params) : Int :=
  if s.driverField DriverContent.docking false ∧ s.odo.reference < 278 then
    (if p.kerbSide = 1 then (p.dockingOffset : Int) else -(p.dockingOffset : Int))
  else 0

/-- The guided law: `−round(K × φ / 1,000)` (R92). -/
def guidedTarget (gain : Nat) (articulation : Int) : Int := -roundInt (gain * articulation) 1000

/-- δmax for a reference speed (R94). -/
def steerBound (p : Params) (reference : Nat) : Int :=
  if reference ≤ 417 then p.steerLimit
  else if reference < 1389 then (p.steerLimit : Int) - roundNat (p.steerLimit * 75 * (reference - 417)) (100 * 972)
  else roundNat (p.steerLimit * 25) 100

/-- The target before the speed limit (R90). -/
def State.rawTarget (s : State) (p : Params) : Int :=
  match s.steer.mode with
  | .locked | .failed | .centring => 0
  | .guided => guidedTarget p.guidedGain s.joint.measured
  | .tracking =>
    match s.lookAhead (midOffset p) with
    | some l => halfChord p.steerLever l.curvature + s.dockingNow p
    | none => s.steer.unlimited

/-- The target for the mode step 3 left, before and after the clamp to the speed limit (R90, R93, R94). -/
def State.steerTarget (p : Params) (s : State) : State :=
  s.setSteer
    { s.steer with
      unlimited := s.rawTarget p
      target := clampInt (steerBound p s.odo.reference) (s.rawTarget p)
      docking := if s.steer.mode = .tracking then s.dockingNow p else 0 }

/-! ## Steps 5 and 6: applied demand and staging (R95, R96) -/

/-- One expiry's move toward the target, by at most the rate limit (R95). -/
def rateLimited (rate : Nat) (previous target : Int) : Int :=
  if (target - previous).natAbs ≤ rate then target
  else if previous < target then previous + rate
  else previous - rate

/-- The new applied demand is staged; in LOCKED and FAILED it is 0 (R82, R88, R95, R96). -/
def State.applySteer (p : Params) (s : State) : State :=
  let demand : Int :=
    match s.steer.mode with
    | .locked | .failed => 0
    | .tracking | .guided | .centring => rateLimited p.rateLimit s.steer.applied s.steer.target
  s.setSteer { s.steer with applied := demand, staged := demand }

/-- The six steps of R81. -/
def State.steerWork (angle : AnalogIn) (p : Params) (s : State) : State :=
  let read := (s.setSteer s.steer.output).readSteer angle
  let supervised := if read.steer.mode = .failed then read else read.superviseSteer
  let moded := if supervised.steer.failedLatch then supervised else supervised.steerMode
  State.applySteer p (State.steerTarget p moded)

/-- The block works at a steered station in SYNC, RUN and DEGRADED (R79, R81). -/
def State.steerExpiry (s : State) (angle : AnalogIn) : State :=
  if s.working && s.isSteered then (s.withCopy (State.steerWork angle)).settle else s

/-! ## Outcomes of an expiry -/

/-- The steer mode moves from one to another at this expiry. -/
def State.steerMoves (s t : State) (before after : SteerMode) : Bool := s.steer.mode == before && t.steer.mode == after

/-- The lock-loss run is complete (R82). -/
def State.lockLossExpiry (s : State) (angle : AnalogIn) : State :=
  let t := s.steerExpiry angle
  s.expiryIf t (s.steerMoves t .locked .centring)

/-- The not-valid run is complete (R85). -/
def State.notValidExpiry (s : State) (angle : AnalogIn) : State :=
  let t := s.steerExpiry angle
  s.expiryIf t
    (s.track.status != .valid && s.steer.notValid + 1 == notValidLength
      && (s.steerMoves t .tracking .guided || s.steerMoves t .tracking .centring))

/-- The guided-exit run is complete (R86). -/
def State.guidedExitExpiry (s : State) (angle : AnalogIn) : State :=
  let t := s.steerExpiry angle
  s.expiryIf t (s.steerMoves t .guided .tracking)

/-- The centred run is complete (R87). -/
def State.centredExpiry (s : State) (angle : AnalogIn) : State :=
  let t := s.steerExpiry angle
  s.expiryIf t (s.steerMoves t .centring .locked)

/-- The steering block as step 2 supervises it at this expiry, where it does so (R97). -/
def State.supervisedSteer (s : State) (angle : AnalogIn) : Option Steering :=
  let read := (s.setSteer s.steer.output).readSteer angle
  if s.working && s.isSteered && read.steer.mode != .failed then some read.steer.supervise else none

/-- The mismatch run is complete (R97). -/
def State.mismatchExpiry (s : State) (angle : AnalogIn) : State :=
  s.expiryIf (s.steerExpiry angle) ((s.supervisedSteer angle).any (fun t => t.mismatch == mismatchLength))

/-- The centring travel time is complete (R97). -/
def State.travelExpiry (s : State) (angle : AnalogIn) : State :=
  s.expiryIf (s.steerExpiry angle) ((s.supervisedSteer angle).any (fun t => t.travel == travelLength))

/-! ## Commands -/

/-- STEERING_EXPIRY (R81). -/
def execSteeringExpiry (dt : Micros) (angle : AnalogIn) (s : State) : Answer := s.take dt (fun t => t.steerExpiry angle)

/-- LOCK_LOSS_RUN (R82). -/
def execLockLossRun (dt : Micros) (angle : AnalogIn) (s : State) : Answer := s.take dt (fun t => t.lockLossExpiry angle)

/-- NOT_VALID_RUN (R85). -/
def execNotValidRun (dt : Micros) (angle : AnalogIn) (s : State) : Answer := s.take dt (fun t => t.notValidExpiry angle)

/-- GUIDED_EXIT_RUN (R86). -/
def execGuidedExitRun (dt : Micros) (angle : AnalogIn) (s : State) : Answer :=
  s.take dt (fun t => t.guidedExitExpiry angle)

/-- CENTRED_RUN (R87). -/
def execCentredRun (dt : Micros) (angle : AnalogIn) (s : State) : Answer := s.take dt (fun t => t.centredExpiry angle)

/-- STEER_MISMATCH (R97). -/
def execSteerMismatch (dt : Micros) (angle : AnalogIn) (s : State) : Answer := s.take dt (fun t => t.mismatchExpiry angle)

/-- CENTRING_TRAVEL_TIMEOUT (R97). -/
def execCentringTravelTimeout (dt : Micros) (angle : AnalogIn) (s : State) : Answer :=
  s.take dt (fun t => t.travelExpiry angle)

end Sys2Proof.Machine
end

