-- ==== Sys2Proof/WellFormed.lean ====
section
/-! DEFINITION. Which commands are well formed: operands the part can meet. `exec` gives every command a meaning, well
formed or not. -/

namespace Sys2Proof

/-- The memory has 64 words (R184). -/
def StartReading.wf (r : StartReading) : Bool := r.words.length == 64

/-- An abandoned reading holds at most the 64 words (R184). -/
def AbandonedReading.wf (r : AbandonedReading) : Bool := r.words.length ≤ 64

/-- A CAN FD payload holds at most 64 bytes (R11). -/
def payloadFits (p : Payload) : Bool := p.length ≤ 64

/-- A request that the handler rejects: of another length than 4, or of a kind that Table 11.3 does not list (R188). -/
def rejectedRequest (p : Payload) : Bool := p.length != 4 || !(1 ≤ (p.getD 0 0).toNat && (p.getD 0 0).toNat ≤ 5)

/-- A station number of the table (R33). -/
def stationNumber (k : Nat) : Bool := 1 ≤ k && k ≤ 6

/-- Well-formed commands, constructor by constructor. -/
def Instr.wf : Instr → Bool
  | .startComplete _ reading => reading.wf
  | .supply _ _ start => start.wf
  | .stateFrameReceived _ _ payload => payloadFits payload
  | .driverFrameReceived _ _ payload => payloadFits payload
  | .pathFrameReceived _ _ payload => payloadFits payload
  | .alertFrameReceived _ _ payload => payloadFits payload
  | .serviceRequestRejected _ _ payload => payloadFits payload && rejectedRequest payload
  | .missed _ peer => stationNumber peer
  | .powerUp _ | .powerUpWaitEnd _ | .supplyGoodRun _ | .syncTimeout _ | .runTimeElapsed _
  | .deferralWindowTimeout _ | .listenEnd _ | .silentEnd _ | .transmitAttemptStart _ | .attemptCompleted _
  | .arbitrationLost _ | .attemptDestroyed _ | .readStatus _ _ _ _ _ | .readFaults _ _ _ _ _
  | .clearFaults _ _ _ _ _ | .readParameter _ _ _ _ _ | .readTrack _ _ _ _ _ | .driverStatusHolding _
  | .driverStatusExpired _ | .cabLost _ | .toothEdge _ _ | .wheelSensorOpenShort _ _ _ | .speedOdometryExpiry _
  | .wheelZeroSpeedTimeout _ _ | .wheelPlausibilityFail _ _ | .standstillSet _ | .cabMarkAdoption _
  | .rearAdoptionTimeout _ | .pathGeneratorExpiry _ _ | .trackMemoryExpiry _ | .trackStarved _
  | .steeringExpiry _ _ | .lockLossRun _ _ | .notValidRun _ _ | .guidedExitRun _ _ | .centredRun _ _
  | .steerMismatch _ _ | .centringTravelTimeout _ _ | .jointMonitorExpiry _ _ | .jackAlertSetRun _ _
  | .jackAlertClearRun _ _ | .brakingExpiry _ _ | .slipReapplyDone _ _ _ | .brakePressureMismatch _ _
  | .backupExitRun _ _ | .stateEmission _ | .driverEmission _ _ | .doorInterlockExpiry _ _
  | .levellingExpiry _ _ | .heightStuck _ _ _ | .pulseEnd _ _ | .continuousStopReached _ _ _
  | .twistGateReached _ _ | .kneelTimeout _ _ | .raiseTimeout _ _ | .powerOff _ => true

end Sys2Proof
end

