-- ==== Sys2Proof/Machine/Supply.lean ====
section
/-! DEFINITION. The station supervisor's own events: power-up and power-off, the supply monitor, and the times it runs
(R171 to R173, R176 to R178, R181). -/

namespace Sys2Proof.Machine

/-- The good run that ends the power-up wait and RESTART, and the run that raises SUPPLY (R172, R176, R177). -/
def goodRunLength : Micros := 50 * Config.ms
def badRunLength : Micros := 5 * Config.ms

/-- The SYNC time, the RUN time and the window's open time at their ends (R173, R178, R181). -/
def syncLimit : Micros := 2 * Config.second
def runLimit : Micros := 60 * Config.second
def windowLimit : Micros := 4 * Config.second

/-- Supply is applied to a part that had none: every block at its initial values, safe outputs, the power-up wait begun
(R171, R172). DESIGN CHOICE: the supply is taken to lie within 18.0..32.0 V until it is read (notes/assumptions/20.md). -/
def State.powerUp (s : State) : State :=
  if s.sup.power = .off then
    { State.reset with
      pending := s.pending, now := s.now,
      sup := { Supervisor.initial with power := .waiting, poweredAt := s.now, goodFrom := some s.now } }
  else s

/-- The power-up wait ends, and the station enters START (R172). -/
def State.endWait (s : State) : State :=
  if s.sup.power = .waiting ∧ s.reached s.sup.goodFrom goodRunLength = true then
    (s.setSup { s.sup with power := .on }).enterStart
  else s

/-- Supply is removed: the part is unpowered, and only the count of time and the queue of commands go on (R179). -/
def State.powerOff (s : State) : State := { State.reset with pending := s.pending, now := s.now }

/-- START's reading ends (R172). -/
def State.endStart (s : State) (r : StartReading) : State :=
  if s.sup.power = .on ∧ s.sup.mode = .start then s.completeStart r else s

/-! ## The supply monitor (R172, R176, R177) -/

/-- A run that has counted for 5 ms at this moment, and was not known to. -/
def SupplyRun.due (r : SupplyRun) (now : Micros) : Bool :=
  match r with
  | .counting f => badRunLength ≤ now - f
  | .clear | .reached => false

/-- A run after the supply is read in its band or outside it: it is cleared at any moment the supply leaves the band (R176). -/
def SupplyRun.read (r : SupplyRun) (inBand : Bool) (now : Micros) : SupplyRun :=
  if inBand then
    match r with
    | .clear => .counting now
    | .counting f => if r.due now then .reached else .counting f
    | .reached => .reached
  else .clear

/-- The low or the high run reaches 5 ms (R176). -/
def Supervisor.runDue (u : Supervisor) (now : Micros) : Bool := u.lowRun.due now || u.highRun.due now

/-- The low and the high run after a reading of the supply (R176). -/
def Supervisor.readRuns (u : Supervisor) (millivolts : Nat) (now : Micros) : Supervisor :=
  { u with
    lowRun := u.lowRun.read (millivolts < Config.supplyLow) now
    highRun := u.highRun.read (Config.supplyHigh < millivolts) now }

/-- The supply lies within 18.0..32.0 V (R172, R177). -/
def goodSupply (millivolts : Nat) : Bool := Config.goodLow ≤ millivolts && millivolts ≤ Config.goodHigh

/-- The good run is kept in the power-up wait, in RESTART and in LIMP (R172, R176, R177). -/
def State.keepsGoodRun (s : State) : Bool :=
  s.sup.power == .waiting || s.sup.mode == .restart || s.sup.mode == .limp

/-- The good run counts while the supply is good, and is cleared at any moment it is not (R177). -/
def State.readGood (s : State) (millivolts : Nat) : State :=
  if s.keepsGoodRun then
    s.setSup
      { s.sup with goodFrom := if goodSupply millivolts then some (s.sup.goodFrom.getD s.now) else none }
  else s

/-- A START that is abandoned: the strap pins and the words read by then, and no working copy (R172, R184). DESIGN CHOICE:
where the strap pins had not been read, the strap value of the START before is kept (notes/assumptions/46.md). -/
def State.abandonStart (s : State) (r : AbandonedReading) : State :=
  (s.setLoader
    { strap := match r.strap with
        | some x => x.toNat
        | none => s.loader.strap
      image := r.words, copy := none }).blocksInitial

/-- SUPPLY is raised, and its consequence follows the mode (R176). -/
def State.raiseSupply (s : State) (r : AbandonedReading) : State :=
  match s.sup.mode with
  | .start => ((s.abandonStart r).raiseFault .supply).callRestart
  | .sync | .run | .degraded => (s.raiseFault .supply).callRestart
  | .restart | .limp => s.raiseFault .supply

/-- The supply is read. A run that has reached 5 ms raises SUPPLY, but in the power-up wait, which raises no fault (R172,
R176); the good run then takes the reading (R177). -/
def State.readSupply (s : State) (millivolts : Nat) (r : AbandonedReading) : State :=
  let t := s.setSup (s.sup.readRuns millivolts s.now)
  match s.sup.power with
  | .off => s
  | .waiting => t.readGood millivolts
  | .on => (if s.sup.runDue s.now then t.raiseSupply r else t).readGood millivolts

/-- The good run reaches 50 ms: the condition of SUPPLY ends, and a station in RESTART enters START (R176, R177). -/
def State.goodRun (s : State) : State :=
  if s.reached s.sup.goodFrom goodRunLength then
    let t := (s.setSup { s.sup with goodFrom := none }).endCondition .supply
    match s.sup.mode with
    | .restart => t.enterStart
    | .limp => t
    | .start | .sync | .run | .degraded => s
  else s

/-- The SYNC time reaches 2 s: DEGRADED, and from there RUN at once where no degraded cause remains (R173, R174). -/
def State.syncTimeout (s : State) : State :=
  if s.sup.mode = .sync ∧ s.reached s.sup.syncFrom syncLimit = true then s.enterDegraded.settle else s

/-- The RUN time reaches 60 s: the restart counter falls by 1, not below 0, and the RUN time starts again (R178). -/
def State.runTimeElapsed (s : State) : State :=
  if s.reached s.sup.runFrom runLimit then
    s.setSup { s.sup with restartCounter := s.sup.restartCounter - 1, runFrom := some s.now }
  else s

/-- The window's open time reaches 4 s: every pending consequence takes effect (R181). -/
def State.windowTimeout (s : State) : State :=
  if s.reached s.sup.windowFrom windowLimit then s.closeWindow.settle else s

/-! ## Commands -/

/-- POWER_UP (R172). -/
def execPowerUp (dt : Micros) (s : State) : Answer := s.take dt State.powerUp

/-- POWER_UP_WAIT_END (R172). -/
def execPowerUpWaitEnd (dt : Micros) (s : State) : Answer := s.take dt State.endWait

/-- START_COMPLETE (R172). -/
def execStartComplete (dt : Micros) (reading : StartReading) (s : State) : Answer :=
  s.take dt (fun t => t.endStart reading)

/-- SUPPLY (R176). -/
def execSupply (dt : Micros) (millivolts : Nat) (start : AbandonedReading) (s : State) : Answer :=
  s.take dt (fun t => t.readSupply millivolts start)

/-- SUPPLY_GOOD_RUN (R177). -/
def execSupplyGoodRun (dt : Micros) (s : State) : Answer := s.take dt State.goodRun

/-- SYNC_TIMEOUT (R173). -/
def execSyncTimeout (dt : Micros) (s : State) : Answer := s.take dt State.syncTimeout

/-- RUN_TIME_ELAPSED (R178). -/
def execRunTimeElapsed (dt : Micros) (s : State) : Answer := s.take dt State.runTimeElapsed

/-- DEFERRAL_WINDOW_TIMEOUT (R181). -/
def execDeferralWindowTimeout (dt : Micros) (s : State) : Answer := s.take dt State.windowTimeout

/-- POWER_OFF (R179). -/
def execPowerOff (dt : Micros) (s : State) : Answer := s.take dt State.powerOff

end Sys2Proof.Machine
end

