-- ==== Sys2Proof/Machine/Dispatch.lean ====
section
/-! DEFINITION. The meaning of every command, one arm per constructor. -/

namespace Sys2Proof.Machine

def exec (i : Instr) (s : State) : Host.Outcome State Fault Refusal :=
  match i with
  | .powerUp dt => Sys2Proof.Machine.execPowerUp dt s
  | .powerUpWaitEnd dt => Sys2Proof.Machine.execPowerUpWaitEnd dt s
  | .startComplete dt reading => Sys2Proof.Machine.execStartComplete dt reading s
  | .supply dt millivolts start => Sys2Proof.Machine.execSupply dt millivolts start s
  | .supplyGoodRun dt => Sys2Proof.Machine.execSupplyGoodRun dt s
  | .syncTimeout dt => Sys2Proof.Machine.execSyncTimeout dt s
  | .runTimeElapsed dt => Sys2Proof.Machine.execRunTimeElapsed dt s
  | .deferralWindowTimeout dt => Sys2Proof.Machine.execDeferralWindowTimeout dt s
  | .listenEnd dt => Sys2Proof.Machine.execListenEnd dt s
  | .silentEnd dt => Sys2Proof.Machine.execSilentEnd dt s
  | .transmitAttemptStart dt => Sys2Proof.Machine.execTransmitAttemptStart dt s
  | .attemptCompleted dt => Sys2Proof.Machine.execAttemptCompleted dt s
  | .arbitrationLost dt => Sys2Proof.Machine.execArbitrationLost dt s
  | .attemptDestroyed dt => Sys2Proof.Machine.execAttemptDestroyed dt s
  | .stateFrameReceived dt sender payload => Sys2Proof.Machine.execStateFrameReceived dt sender payload s
  | .driverFrameReceived dt sender payload => Sys2Proof.Machine.execDriverFrameReceived dt sender payload s
  | .pathFrameReceived dt sender payload => Sys2Proof.Machine.execPathFrameReceived dt sender payload s
  | .alertFrameReceived dt sender payload => Sys2Proof.Machine.execAlertFrameReceived dt sender payload s
  | .readStatus dt sender target tag argument => Sys2Proof.Machine.execReadStatus dt sender target tag argument s
  | .readFaults dt sender target tag argument => Sys2Proof.Machine.execReadFaults dt sender target tag argument s
  | .clearFaults dt sender target tag argument => Sys2Proof.Machine.execClearFaults dt sender target tag argument s
  | .readParameter dt sender target tag argument => Sys2Proof.Machine.execReadParameter dt sender target tag argument s
  | .readTrack dt sender target tag argument => Sys2Proof.Machine.execReadTrack dt sender target tag argument s
  | .serviceRequestRejected dt sender payload => Sys2Proof.Machine.execServiceRequestRejected dt sender payload s
  | .missed dt peer => Sys2Proof.Machine.execMissed dt peer s
  | .driverStatusHolding dt => Sys2Proof.Machine.execDriverStatusHolding dt s
  | .driverStatusExpired dt => Sys2Proof.Machine.execDriverStatusExpired dt s
  | .cabLost dt => Sys2Proof.Machine.execCabLost dt s
  | .toothEdge dt side => Sys2Proof.Machine.execToothEdge dt side s
  | .wheelSensorOpenShort dt side present => Sys2Proof.Machine.execWheelSensorOpenShort dt side present s
  | .speedOdometryExpiry dt => Sys2Proof.Machine.execSpeedOdometryExpiry dt s
  | .wheelZeroSpeedTimeout dt side => Sys2Proof.Machine.execWheelZeroSpeedTimeout dt side s
  | .wheelPlausibilityFail dt side => Sys2Proof.Machine.execWheelPlausibilityFail dt side s
  | .standstillSet dt => Sys2Proof.Machine.execStandstillSet dt s
  | .cabMarkAdoption dt => Sys2Proof.Machine.execCabMarkAdoption dt s
  | .rearAdoptionTimeout dt => Sys2Proof.Machine.execRearAdoptionTimeout dt s
  | .pathGeneratorExpiry dt front => Sys2Proof.Machine.execPathGeneratorExpiry dt front s
  | .trackMemoryExpiry dt => Sys2Proof.Machine.execTrackMemoryExpiry dt s
  | .trackStarved dt => Sys2Proof.Machine.execTrackStarved dt s
  | .steeringExpiry dt angle => Sys2Proof.Machine.execSteeringExpiry dt angle s
  | .lockLossRun dt angle => Sys2Proof.Machine.execLockLossRun dt angle s
  | .notValidRun dt angle => Sys2Proof.Machine.execNotValidRun dt angle s
  | .guidedExitRun dt angle => Sys2Proof.Machine.execGuidedExitRun dt angle s
  | .centredRun dt angle => Sys2Proof.Machine.execCentredRun dt angle s
  | .steerMismatch dt angle => Sys2Proof.Machine.execSteerMismatch dt angle s
  | .centringTravelTimeout dt angle => Sys2Proof.Machine.execCentringTravelTimeout dt angle s
  | .jointMonitorExpiry dt joint => Sys2Proof.Machine.execJointMonitorExpiry dt joint s
  | .jackAlertSetRun dt joint => Sys2Proof.Machine.execJackAlertSetRun dt joint s
  | .jackAlertClearRun dt joint => Sys2Proof.Machine.execJackAlertClearRun dt joint s
  | .brakingExpiry dt pressure => Sys2Proof.Machine.execBrakingExpiry dt pressure s
  | .slipReapplyDone dt side pressure => Sys2Proof.Machine.execSlipReapplyDone dt side pressure s
  | .brakePressureMismatch dt pressure => Sys2Proof.Machine.execBrakePressureMismatch dt pressure s
  | .backupExitRun dt pressure => Sys2Proof.Machine.execBackupExitRun dt pressure s
  | .stateEmission dt => Sys2Proof.Machine.execStateEmission dt s
  | .driverEmission dt lines => Sys2Proof.Machine.execDriverEmission dt lines s
  | .doorInterlockExpiry dt inputs => Sys2Proof.Machine.execDoorInterlockExpiry dt inputs s
  | .levellingExpiry dt inputs => Sys2Proof.Machine.execLevellingExpiry dt inputs s
  | .heightStuck dt side inputs => Sys2Proof.Machine.execHeightStuck dt side inputs s
  | .pulseEnd dt side => Sys2Proof.Machine.execPulseEnd dt side s
  | .continuousStopReached dt side height => Sys2Proof.Machine.execContinuousStopReached dt side height s
  | .twistGateReached dt height => Sys2Proof.Machine.execTwistGateReached dt height s
  | .kneelTimeout dt inputs => Sys2Proof.Machine.execKneelTimeout dt inputs s
  | .raiseTimeout dt inputs => Sys2Proof.Machine.execRaiseTimeout dt inputs s
  | .powerOff dt => Sys2Proof.Machine.execPowerOff dt s

end Sys2Proof.Machine
end

