-- ==== Sys2Proof/Safety.lean ====
section
/-! DEFINITION. What counts as a safe station, in the terms the claims use: a command that completes, the blocks it leaves
alone, and the properties that every step keeps. -/

namespace Sys2Proof.Machine

/-! ## Completion and frames -/

/-- A command answers a next state of which `holds` is true. -/
def completes (i : Instr) (s : State) (holds : State → Prop) : Prop := ∃ t, exec i s = .next t ∧ holds t

/-- The blocks of Table 0.1, and the driver content apart from the peer records. -/
inductive Block where
  | loader
  | link
  | peers
  | driver
  | odo
  | path
  | track
  | steer
  | joint
  | brake
  | air
  | doors
  | sup
  deriving DecidableEq, Repr

/-- A block holds the same in two states. -/
def State.same (s t : State) : Block → Prop
  | .loader => t.loader = s.loader
  | .link => t.link = s.link
  | .peers => t.peers = s.peers
  | .driver => t.driver = s.driver
  | .odo => t.odo = s.odo
  | .path => t.path = s.path
  | .track => t.track = s.track
  | .steer => t.steer = s.steer
  | .joint => t.joint = s.joint
  | .brake => t.brake = s.brake
  | .air => t.air = s.air
  | .doors => t.doors = s.doors
  | .sup => t.sup = s.sup

/-- `t` is `s` in everything but the listed blocks: the queue and the count of time are as in `s` too. -/
def State.onlyChanges (s : State) (blocks : List Block) (t : State) : Prop :=
  t.pending = s.pending ∧ t.now = s.now ∧ ∀ b, b ∈ blocks ∨ s.same t b

/-- A frame that reception passes on: the engine runs, and the sender is another station 1..N (R25). -/
def State.hearsPeer (s : State) (sender : BitVec 3) : Prop :=
  s.link.state ≠ .stopped ∧ sender.toNat ≠ s.station ∧ 1 ≤ sender.toNat ∧ sender.toNat ≤ s.axles ∧ sender.toNat ≠ 7

/-- The service tool is heard: the engine runs, and the station is not itself strapped to 7 (R25, R188). -/
def State.hearsTool (s : State) : Prop := s.link.state ≠ .stopped ∧ s.station ≠ 7

/-- The SERVICE answer slot holds an answer of a station with a payload (R11, R187). -/
def Link.answers (l : Link) (station : Nat) (payload : Payload) : Prop :=
  l.answer.map (fun q => q.frame) = some { identifier := 48 + station, payload := payload }

/-- A latch after one more STATE content is stored (R40). -/
def latchAfter (l : Option Nat) : Option Nat := if l = some 0 then some 1 else none

/-- A record after one error, as R36 and R39 count it against `limit`. -/
def PeerRecord.afterError (r : PeerRecord) (limit : Nat) (now : Micros) : PeerRecord :=
  { r with
    errors := if r.errors < limit then r.errors + 1 else min 15 (limit + 1)
    goodRun := if r.presence = .joining then 0 else r.goodRun
    presence := if r.errors < limit then r.presence else .lost
    stale := if r.errors < limit then r.stale else true
    deadline := if r.errors < limit then r.deadline else none
    lostAt := if r.errors < limit then r.lostAt else some now }

/-- A reading that shows an open or a short, or lies outside `lo..hi`. -/
def faultyReading (lo hi : Int) : AnalogIn → Prop
  | .openShort => True
  | .reading x => x < lo ∨ hi < x

/-- A door slot by its number, and the closed-locked input of its door. -/
def DoorInterlock.slot (d : DoorInterlock) (k : Fin 2) : DoorSlot := if k = 0 then d.slot0 else d.slot1
def doorInput (d : DoorInputs) (k : Fin 2) : SwitchIn := if k = 0 then d.closed0 else d.closed1
def edgeInput (d : DoorInputs) (k : Fin 2) : SwitchIn := if k = 0 then d.edge0 else d.edge1

/-! ## The halt brake (R159, R161) -/

/-- The door request mask in use holds the bit of a station's slot, and the vehicle has such a door (R159). -/
abbrev State.asksFor (s : State) (p : Params) (station slot : Nat) : Prop :=
  s.driverContent.any (fun c => c.doorMask.testBit (2 * (station - 1) + slot)) = true ∧ 2 * (station - 1) + slot < 2 * p.axles

/-- A known door that holds the brake: not LOCKED, edge active, or asked for (R158, R159). -/
abbrev DoorReport.holds (d : DoorReport) (doorLatch edgeLatch : Option Nat) (asked : Prop) : Prop :=
  d.state ≠ .none ∧ (d.state ≠ .locked ∨ doorLatch ≠ none ∨ d.edge = true ∨ edgeLatch ≠ none ∨ asked)

/-- The last content of a peer holds the brake: by a door, or by a level other than LEVEL and RAISED (R158, R159). -/
abbrev State.peerHolds (s : State) (p : Params) (k : Nat) (r : PeerRecord) (c : StateContent) : Prop :=
  c.door0.holds r.doorLatch0 r.edgeLatch0 (s.asksFor p k 0) ∨ c.door1.holds r.doorLatch1 r.edgeLatch1 (s.asksFor p k 1)
    ∨ (c.level ≠ .level ∧ c.level ≠ .raised)

/-- More than the interlock hold time has passed since a moment that is running. -/
abbrev State.beyondHold (s : State) (p : Params) (since : Option Micros) : Prop :=
  since.any (fun f => p.holdTime * 100000 < s.now - f) = true

/-- A peer is a known station: PRESENT, JOINING, or LOST within the hold time (R158). -/
abbrev State.knows (s : State) (p : Params) (r : PeerRecord) : Prop :=
  r.presence ≠ .absent ∧ ¬(r.presence = .lost ∧ s.beyondHold p r.lostAt)

/-- Some hold reason of R159 is present, over the known stations of R158. -/
abbrev State.heldStill (s : State) (p : Params) : Prop :=
  s.driverContent.any (fun c => c.haltSwitch) = true
  ∨ s.doors.slot0.report.holds none none (s.asksFor p s.station 0)
  ∨ s.doors.slot1.report.holds none none (s.asksFor p s.station 1)
  ∨ s.doors.anyGrant = true
  ∨ (s.air.level ≠ .level ∧ s.air.level ≠ .raised)
  ∨ ∃ x ∈ s.peers, s.knows p x.2 ∧ ∃ c ∈ x.2.content, s.peerHolds p x.1 x.2 c

/-- The conditions of R161, under which the halt brake is let go. -/
abbrev State.freeToGo (s : State) (p : Params) : Prop :=
  ¬s.heldStill p ∧ s.driverContent.any (fun c => c.driveIntent) = true ∧ s.cabPresent = true
  ∧ ∀ x ∈ s.peers, x.2.presence = .present ∨ (x.2.presence = .lost ∧ s.beyondHold p x.2.lostAt)
      ∨ (x.2.presence = .absent ∧ s.beyondHold p s.link.leftListen)

/-! ## Door records, traction inhibit (Table 9.2, R158, R167) -/

/-- A door slot's release line at step 1 of an expiry: the grant is held, and the gate neither forbids it nor has
de-energised it since the grant (R166). -/
abbrev State.energises (s : State) (k : Fin 2) : Prop :=
  (s.doors.slot k).grant = true ∧ (s.doors.slot k).gatedOff = false ∧ s.releaseGate = true

/-- A door record after step 1, where its line may have changed (Table 9.2). -/
def DoorSlot.afterLine (d : DoorSlot) (energised : Bool) : DoorState :=
  match d.state, d.release, energised, d.closed with
  | .locked, _, true, _ => .released
  | .released, true, false, true => .locked
  | .released, true, false, false => .closingWait
  | .opened, true, false, false => .closingWait
  | x, _, _, _ => x

/-- A door record after step 2, by its line and its closed-locked input (Table 9.2). -/
def DoorState.afterInput (x : DoorState) (energised closed : Bool) : DoorState :=
  match x, energised, closed with
  | .locked, false, false => .unreleasedOpen
  | .released, true, false => .opened
  | .opened, true, true => .released
  | .released, false, true => .locked
  | .released, false, false => .closingWait
  | .opened, false, false => .closingWait
  | .closingWait, _, true => .locked
  | .unreleasedOpen, _, true => .locked
  | y, _, _ => y

/-- The ALERTs of one slot at step 2 of a door expiry (R157). -/
def slotAlerts (station slot : Nat) (before after : DoorState) (edgeBefore edgeAfter : Bool) : List Frame :=
  let alert (kind : AlertKind) : Frame :=
    { identifier := station, payload := encodeAlert { kind := kind, station := station, slot := slot, value := 0 } }
  (if before = .locked ∧ after = .unreleasedOpen then [alert .doorUnreleased] else [])
    ++ (if edgeBefore = false ∧ edgeAfter = true then [alert .edge] else [])

/-- The link engine after ALERTs queued in turn: the last two of those waiting stay, each one replaced raises the overflow
counter, and nothing else of the engine changes (R15). -/
abbrev Link.tookAlerts (l after : Link) (frames : List Frame) : Prop :=
  let excess := l.alerts.length + frames.length - 2
  after.alerts.map (fun q => q.frame) = (l.alerts.map (fun q => q.frame) ++ frames).drop excess
  ∧ after =
    { l with
      alerts := after.alerts, nextTicket := after.nextTicket,
      overflow := if excess = 0 then l.overflow else min 255 (l.overflow + excess) }

/-- A slot after step 2 of a door expiry whose line and earlier record are given (R155 to R157). -/
def DoorSlot.afterReading (d : DoorSlot) (record : DoorState) (energised : Bool) (closed edge : SwitchIn) : DoorSlot :=
  if d.state = .none then d
  else
    { d with
      state := record.afterInput energised (decide (closed = .on)), edge := decide (edge ≠ .off),
      closed := decide (closed = .on) }

/-- A reported door that is known not to be LOCKED, by its state or by the peer's latch for it (R158). -/
abbrev DoorReport.unlocked (d : DoorReport) (doorLatch : Option Nat) : Prop :=
  d.state ≠ .none ∧ (d.state ≠ .locked ∨ doorLatch ≠ none)

/-- What asserts the traction inhibit line (R167). -/
abbrev State.tractionHeld (s : State) (p : Params) : Prop :=
  s.doors.halt ≠ .off ∨ s.doors.slot0.report.unlocked none ∨ s.doors.slot1.report.unlocked none
  ∨ (∃ x ∈ s.peers, s.knows p x.2 ∧ ∃ c ∈ x.2.content,
      c.door0.unlocked x.2.doorLatch0 ∨ c.door1.unlocked x.2.doorLatch1)
  ∨ (s.air.level ≠ .level ∧ s.air.level ≠ .raised)
  ∨ (s.ownsJoint = true ∧ s.joint.fold = true)

/-! ## Distance and standstill (R50, R51, R57) -/

/-- The increment that a wheel's accumulator gives: its whole µm, held in units of 1/teeth µm (R50). -/
def Wheel.wholeMicrometres (w : Wheel) (p : Params) : Nat := w.accumulator / p.teeth

/-- The speed terms of R57, from the own speeds and those that PRESENT peers report as valid. -/
def Odometry.terms (o : Odometry) (peers : List Nat) : List Nat :=
  (if o.speedValid then o.axleSpeed else o.reference) :: peers

/-! ## Track memory (R72, R74) -/

/-- The offsets of a station's look-up points from its axle mark (R72). -/
def pointsAhead (p : Params) : List Nat :=
  let a := p.steerLever
  if p.jointOwned = 1 then [roundNat a 2, a, a + roundNat p.jointLever 2] else [roundNat a 2]

/-- A look-up at mark `m` is UNDERRUN: the memory is empty, or `m` lies below its oldest entry (R74). -/
abbrev underrunsAt (entries : List TrackEntry) (m : Nat) : Prop := ∀ e ∈ entries, m < e.mark

/-- A look-up at mark `m` succeeds with a shortfall above 200: the last entry up to `m` lies that far behind it, and `m` is
beyond the newest entry, or the next one carries the gap flag (R74). -/
abbrev fallsShortAt (entries : List TrackEntry) (m : Nat) : Prop :=
  ∃ e ∈ entries, e.mark + 200 < m ∧ (∀ f ∈ entries, f.mark ≤ m → f.mark ≤ e.mark)
    ∧ ∀ f ∈ entries, m < f.mark → (∀ g ∈ entries, m < g.mark → f.mark ≤ g.mark) → f.gap = true

/-! ## Steering (R84, R85) -/

/-- A centring condition of R84 holds. -/
abbrev State.calledToCentre (s : State) : Prop :=
  s.odo.direction = .reverse ∨ s.driverUsable = false ∨ s.inEffect .odometerSaturated = true

/-- The station owns a joint that is usable (R85). -/
abbrev State.jointServes (s : State) : Prop :=
  s.ownsJoint = true ∧ s.hasCondition .jointSensor = false ∧ s.inEffect .jointSensor = false

/-- The station owns a joint that has a jack alert (R83, R85, R86). -/
abbrev State.jointAlerts (s : State) : Prop := s.ownsJoint = true ∧ s.joint.jackAlert = true

/-! ## Levelling (Table 8.4, R143) -/

/-- A corner is at its target at a height just read, or excluded (R143). -/
def Corner.reached (c : Corner) (height : Nat) : Bool :=
  c.excluded || (decide (height ≤ c.target + 10) && decide (c.target ≤ height + 10))

/-- A gate neighbour of R148, below or above: the nearest PRESENT peer that reports kneel participant. -/
abbrev State.nearestBelow (s : State) (x : Nat × StateContent) : Prop :=
  x.2.participant = true ∧ x.1 < s.station
    ∧ ∀ y ∈ s.presentContents, y.2.participant = true → y.1 < s.station → y.1 ≤ x.1
abbrev State.nearestAbove (s : State) (x : Nat × StateContent) : Prop :=
  x.2.participant = true ∧ s.station < x.1
    ∧ ∀ y ∈ s.presentContents, y.2.participant = true → s.station < y.1 → x.1 ≤ y.1

/-- The kerb side of a working copy, and the kerb height that a content reports (R148). -/
def Params.kerb (p : Params) : Side := if p.kerbSide = 1 then .left else .right
def StateContent.kerbHeight (c : StateContent) (p : Params) : Nat := if p.kerbSide = 1 then c.heightL else c.heightR

/-- An error of the sign opposite to a direction (R139). -/
abbrev FlowDirection.against (d : FlowDirection) (e : Int) : Prop := (d = .fill ∧ e < 0) ∨ (d = .exhaust ∧ 0 < e)

/-- A height at the stop of a run in a direction (R139). -/
abbrev FlowDirection.atStop (d : FlowDirection) (target h : Int) : Prop :=
  (d = .fill ∧ target - 5 ≤ h) ∨ (d = .exhaust ∧ h ≤ target + 5)

/-- The twist gate holds a run in a direction at a height (R148). -/
abbrev Levelling.holdsAtGate (a : Levelling) (d : FlowDirection) (h : Int) : Prop :=
  ∃ g ∈ a.gate, (a.level = .kneeling ∧ d = .exhaust ∧ h ≤ g) ∨ (a.level = .returning ∧ d = .fill ∧ g ≤ h)

/-- The bellows pressure input of a side. -/
def bellowsInput (i : LevelInputs) : Side → AnalogIn
  | .left => i.bellowsL
  | .right => i.bellowsR

/-- The height input of a side. -/
def heightInput (i : LevelInputs) : Side → AnalogIn
  | .left => i.heightL
  | .right => i.heightR

/-! ## Contents in range (Tables 1.6, 2.5, 2.6) -/

/-- A signed angle in centidegrees. -/
def angleInRange (x : Int) : Prop := -9000 ≤ x ∧ x ≤ 9000

/-- A STATE content with every field in its coding, and 0 in each field whose flag is clear. -/
structure StateContent.inRange (c : StateContent) : Prop where
  token : 1 ≤ c.token ∧ c.token ≤ 15
  station : c.station ≤ 7
  faultCount : c.faultCount ≤ 16
  worstClass : c.worstClass ≤ 2
  axleSpeed : c.axleSpeed ≤ 3000
  mark : c.mark ≤ 4000000000 ∧ (c.markValid = false → c.mark = 0)
  lag : c.lag ≤ 4000
  mode : c.mode ≠ .start ∧ c.mode ≠ .restart
  commanded : c.commanded ≤ 1000
  measured : c.measured ≤ 1000
  axleLoad : c.axleLoad ≤ 65535
  reservoir : c.reservoir ≤ 1000
  heightL : c.heightL ≤ 400
  heightR : c.heightR ≤ 400
  alert : c.jointPresent = false → c.jackAlert = false ∧ c.deviationAvailable = false
  applied : angleInRange c.appliedSteer
  angle : angleInRange c.measuredSteer
  articulation : angleInRange c.articulation ∧ (c.jointPresent = false → c.articulation = 0)
  deviation : angleInRange c.deviation ∧ (c.deviationAvailable = false → c.deviation = 0)

/-- A DRIVER content with every field in its coding, and 0 in the fields that a clear angle-valid flag empties. -/
structure DriverContent.inRange (c : DriverContent) : Prop where
  demand : c.demand ≤ 650
  doorMask : c.doorMask < 4096
  curvature : -20000 ≤ c.curvature ∧ c.curvature ≤ 20000 ∧ (c.angleValid = false → c.curvature = 0)
  frontAngle : angleInRange c.frontAngle ∧ (c.angleValid = false → c.frontAngle = 0)

/-! ## Outputs (Table 10.3) -/

def SlipRecord.quiet (r : SlipRecord) : Prop := r.holdLine = false ∧ r.dumpLine = false

/-- The lines of Table 10.3 that have one value in all three columns. -/
structure State.actuatorsSafe (s : State) : Prop where
  solenoid : s.steer.solenoid = false
  steerLine : s.steer.line = 0
  select : s.brake.select = false
  relay : s.brake.line = 0
  left : s.brake.slipL.quiet
  right : s.brake.slipR.quiet
  valveL : s.air.channelL.valveOpen = false
  valveR : s.air.channelR.valveOpen = false
  door0 : s.doors.slot0.release = false
  door1 : s.doors.slot1.release = false
  damper : s.joint.damper = none
  traction : s.doors.tractionInhibit = .notDriven

/-- The safe output set: `limp` chooses its column for LIMP. -/
def State.outputsSafe (s : State) (limp : Bool) : Prop :=
  s.actuatorsSafe ∧ s.doors.speedLimit = (if limp then DrivenLine.asserted else DrivenLine.notDriven)
    ∧ s.sup.limpLine = (if limp then DrivenLine.asserted else DrivenLine.notDriven)

/-- In START, RESTART and LIMP the lines stand as Table 10.3 gives (R175). -/
def State.linesSafe (s : State) : Prop :=
  (s.sup.mode = .start ∨ s.sup.mode = .restart → s.outputsSafe false) ∧ (s.sup.mode = .limp → s.outputsSafe true)

/-! ## Supervisor (R178, R181, R183) -/

/-- The restart counter never exceeds 3 (R178). -/
def State.counterSound (s : State) : Prop := s.sup.restartCounter ≤ 3

/-- At most 16 records, no two of one code (R183). -/
def State.faultsSound (s : State) : Prop :=
  s.sup.faults.length ≤ Config.faultCapacity ∧ (s.sup.faults.map FaultRecord.code).Nodup

/-- The window is open only while a protected manoeuvre is in progress, in a mode in which the blocks work, and holds
consequences only while it is open (R180, R181). -/
def State.windowSound (s : State) : Prop :=
  (s.sup.windowFrom.isSome = true → s.protectedManoeuvre = true ∧ s.timersRun = true)
    ∧ (s.sup.deferred ≠ [] → s.sup.windowFrom.isSome = true)

/-- A record is DEFERRED exactly while its consequence is pending; a consequence that can be deferred is in effect while
its record is ACTIVE, and not while it is pending; and where the blocks do not work no such record is ACTIVE (R177, R180 to
R182). -/
structure State.deferralSound (s : State) : Prop where
  pending : ∀ f ∈ s.sup.faults, f.state = .deferred ↔ f.code ∈ s.sup.deferred
  effective : ∀ f ∈ s.sup.faults, f.code.deferrable = true → f.state = .active → s.inEffect f.code = true
  waiting : ∀ c ∈ s.sup.deferred, c.deferrable = true ∧ s.inEffect c = false
  resting : s.timersRun = false → ∀ f ∈ s.sup.faults, f.code.deferrable = true → f.state ≠ .active

/-- Some degraded cause of Table 10.4 is present (R174). -/
abbrev State.runsDegraded (s : State) : Prop :=
  (∃ x ∈ s.peers, x.2.presence ≠ .present)
  ∨ (s.driver.status ≠ .fresh ∧ s.driver.status ≠ .holding)
  ∨ s.odo.markValid = false
  ∨ s.steer.failedLatch = true
  ∨ s.brake.latched ≠ none
  ∨ (∃ c ∈ [FaultCode.wheelSensorsBoth, .wheelSensorL, .wheelSensorR, .jointSensor, .heightSensorL, .heightSensorR,
      .reservoirSensor, .odometerSaturated], s.inEffect c = true)
  ∨ (s.isCab = true ∧ (s.hasCondition .steerInput = true ∨ s.hasCondition .pedalInput = true))

/-- RUN without a degraded cause; DEGRADED with one, and with the speed limit line asserted (R168, R174). -/
def State.modeSound (s : State) : Prop :=
  (s.sup.mode = .run → ¬s.runsDegraded) ∧ (s.sup.mode = .degraded → s.runsDegraded ∧ s.doors.speedLimit = .asserted)

/-- How a step moves the mode of a station whose blocks do all their work (R174, R179). -/
def State.movesMode (s t : State) : Prop :=
  (s.working = true → s.sup.power = .on → t.sup.mode = .start → t.sup.power = .off)
  ∧ (s.runOrDegraded = true → t.sup.mode ≠ .sync)
  ∧ (s.sup.mode = .degraded → t.sup.mode = .run → t.doors.speedLimit = .released)

/-! ## Link engine and peer table (Table 2.2, R19, R36) -/

/-- Every frame of a slot has the slot's class (R11, R14). -/
def ofClass (frameClass : Nat) (qs : List Queued) : Prop := ∀ q ∈ qs, q.frame.identifier / 8 = frameClass

/-- The slots hold what Table 2.2 allots, and the error count is at most 32 (R15, R17, R19). -/
structure Link.sound (l : Link) : Prop where
  alerts : l.alerts.length ≤ 2
  paths : l.paths.length ≤ 4
  errors : l.errors ≤ 32
  classAlerts : ofClass 0 l.alerts
  classDriver : ofClass 1 l.driver.toList
  classPaths : ofClass 2 l.paths
  classState : ofClass 3 l.stateFrame.toList
  classAnswer : ofClass 6 l.answer.toList

/-- The station number is a strap value of three pins (R1), which keeps a frame's class readable from its identifier. -/
def State.linkSound (s : State) : Prop := s.station < 8 ∧ s.link.sound

/-- A working copy's values after R185: the clamp parameters in range, and the order of the dependent ones. -/
structure Params.sound (p : Params) : Prop where
  axles : 3 ≤ p.axles ∧ p.axles ≤ 6
  lag : p.lag ≤ 4000
  errorLimit : 2 ≤ p.errorLimit ∧ p.errorLimit ≤ 15
  rateLimit : 20 ≤ p.rateLimit ∧ p.rateLimit ≤ 150
  steerLimit : 500 ≤ p.steerLimit ∧ p.steerLimit ≤ 2500
  maxPressure : 500 ≤ p.maxPressure ∧ p.maxPressure ≤ 1000
  haltPressure : 250 ≤ p.haltPressure ∧ p.haltPressure ≤ 450
  pulseWidth : 20 ≤ p.pulseWidth ∧ p.pulseWidth ≤ 90
  slip : p.slipExit ≤ p.slipEntry - 20
  raiseHeight : p.raiseHeight ≤ 400 - p.driveHeight
  thresholds : 500 ≤ p.protectAt ∧ p.protectAt < p.releaseAt ∧ p.releaseAt < p.prewarnAt ∧ p.prewarnAt ≤ 920
  teeth : 40 ≤ p.teeth ∧ p.teeth ≤ 120

def State.copySound (s : State) : Prop := ∀ p, s.loader.copy = some p → p.sound

/-- A peer record's counters (R36, R38). -/
def PeerRecord.sound (r : PeerRecord) : Prop := r.errors ≤ 15 ∧ r.goodRun ≤ 8

/-- The records stand by station number, one for each (R33). -/
def State.peersOrdered (s : State) : Prop := s.peers.Pairwise (fun x y => x.1 < y.1)

def State.peersSound (s : State) : Prop := s.copySound ∧ s.peersOrdered ∧ ∀ x ∈ s.peers, x.2.sound

/-! ## Marks and track memory (R4, R67, R68) -/

/-- No mark of the station, and none that a peer's content carries, lies beyond the end of its range (R4, R7, R54). -/
def State.marksSound (s : State) : Prop :=
  s.odo.mark ≤ Config.maxMark ∧ ∀ x ∈ s.peers, ∀ c, x.2.content = some c → c.mark ≤ Config.maxMark

/-- At most 128 entries, marks rising, and the gap count that of the entries (R67). -/
structure TrackMemory.sound (t : TrackMemory) : Prop where
  room : t.entries.length ≤ Config.trackCapacity
  rising : t.entries.Pairwise (fun e f => e.mark < f.mark)
  gaps : t.gapCount = gapsIn t.entries

def State.trackSound (s : State) : Prop := s.track.sound

/-! ## Actuating blocks (R82, R88, R127, R128, R135, R136, R166) -/

/-- In LOCKED and FAILED the solenoid is off and every demand 0, and in FAILED the line is 0 too (R82, R88). -/
def State.steerSound (s : State) : Prop :=
  (s.steer.mode = .locked ∨ s.steer.mode = .failed →
    s.steer.solenoid = false ∧ s.steer.applied = 0 ∧ s.steer.staged = 0)
  ∧ (s.steer.mode = .failed → s.steer.line = 0)

/-- The station is in backup while the driver-lost cause is set or a latched cause is held. In backup the demand, the relay
line and every pressure are 0, the foot-valve circuit is selected, and the halt state is OFF (R115, R127, R128, R163). -/
def State.backupSound (s : State) : Prop :=
  s.brake.backup = (s.brake.driverLost || s.brake.latched.isSome)
  ∧ (s.brake.backup = true →
      s.brake.demand = 0 ∧ s.brake.line = 0 ∧ s.brake.select = false ∧ s.brake.commanded = 0 ∧ s.brake.staged = 0
        ∧ s.brake.halt = 0 ∧ s.doors.halt = .off)

/-- A valve is open only in a run that goes on, and no run fills under PROTECT (R135, R136). -/
def Channel.sound (c : Channel) (air : AirStatus) : Prop :=
  (c.valveOpen = true → c.state = .filling ∨ c.state = .exhausting) ∧ (air = .protect → c.state ≠ .filling)

def State.airSound (s : State) : Prop := s.air.channelL.sound s.air.air ∧ s.air.channelR.sound s.air.air

/-- While any condition of R166 fails, no release line is energised. -/
def State.releaseSound (s : State) : Prop :=
  s.doors.slot0.release = true ∨ s.doors.slot1.release = true →
    s.odo.standstill = true ∧ s.doors.halt = .applied ∧ s.cabPresent = true
      ∧ (s.driver.status = .fresh ∨ s.driver.status = .holding)
      ∧ (s.sup.mode = .run ∨ s.sup.mode = .degraded) ∧ s.brake.backup = false

end Sys2Proof.Machine
end

