-- ==== Sys2Proof/Certificates/Slice0/Obligations.lean ====
section
/-! DEFINITION. The statements for the provers. In each, `u` is the state after the command's time has passed. -/

open Sys2Proof Sys2Proof.Machine

/-! ## The queue -/

/-- The command at the front of the queue runs on the state with the queue's rest. That an empty queue idles is the
model's choice (notes/assumptions/2.md). -/
def Obligations.step_runs_front_command : Prop :=
  (∀ (c : Instr) (rest : List Instr) (s : State),
    step { s with pending := c :: rest } = exec c { s with pending := rest })
  ∧ ∀ s : State, s.pending = [] → step s = .next s

/-- Time passes by what the command brings, and no command touches the queue (notes/assumptions/1.md). -/
def Obligations.commands_pass_their_time : Prop :=
  ∀ (i : Instr) (s t : State), exec i s = .next t → t.pending = s.pending ∧ t.now = s.now + i.elapsed

/-- A block does nothing at an expiry outside its modes and roles (R2, R9, R24, R66, R79, R101, R113), and an event
whose time has not come, or that meets no state it applies to, does nothing but pass time: the second is the model's
choice (notes/assumptions/1.md, 30.md). So is that MISSED, DRIVER_STATUS_HOLDING, DRIVER_STATUS_EXPIRED and CAB_LOST
do nothing where the block timers do not run: R10 times the peer table by elapsed time (notes/assumptions/29.md). -/
def Obligations.commands_out_of_turn_do_nothing : Prop :=
  ∀ (dt mv k : Nat) (side : Side) (a : AnalogIn) (levels : LevelInputs) (doors : DoorInputs) (lines : DriverLines)
    (h : Int) (r : StartReading) (b : AbandonedReading) (s : State) (i : Instr),
    let speed := [Instr.toothEdge dt side, .speedOdometryExpiry dt, .wheelZeroSpeedTimeout dt side,
      .wheelPlausibilityFail dt side, .standstillSet dt, .cabMarkAdoption dt, .rearAdoptionTimeout dt]
    let track := [Instr.trackMemoryExpiry dt, .trackStarved dt]
    let steer := [Instr.steeringExpiry dt a, .lockLossRun dt a, .notValidRun dt a, .guidedExitRun dt a, .centredRun dt a,
      .steerMismatch dt a, .centringTravelTimeout dt a]
    let joint := [Instr.jointMonitorExpiry dt a, .jackAlertSetRun dt a, .jackAlertClearRun dt a]
    let brake := [Instr.brakingExpiry dt a, .slipReapplyDone dt side a, .brakePressureMismatch dt a, .backupExitRun dt a]
    let level := [Instr.levellingExpiry dt levels, .heightStuck dt side levels, .kneelTimeout dt levels, .raiseTimeout dt levels]
    let peers := [Instr.missed dt k, .driverStatusHolding dt, .driverStatusExpired dt, .cabLost dt]
    (s.timersRun = false ∧ i ∈ speed ++ track ++ joint ++ level ++ peers
        ++ [.pathGeneratorExpiry dt a, .stateEmission dt, .driverEmission dt lines, .doorInterlockExpiry dt doors]
      ∨ s.working = false ∧ i ∈ steer ++ brake
      ∨ s.isSteered = false ∧ i ∈ steer
      ∨ s.ownsJoint = false ∧ i ∈ joint
      ∨ s.keepsTrack = false ∧ i ∈ track
      ∨ s.isCab = false ∧ i ∈ [.pathGeneratorExpiry dt a, .driverEmission dt lines, .cabMarkAdoption dt]
      ∨ s.sup.power ≠ .off ∧ i = .powerUp dt
      ∨ s.sup.power ≠ .waiting ∧ i = .powerUpWaitEnd dt
      ∨ (s.sup.power ≠ .on ∨ s.sup.mode ≠ .start) ∧ i = .startComplete dt r
      ∨ s.sup.power = .off ∧ i = .supply dt mv b
      ∨ (s.sup.goodFrom = none ∨ s.sup.mode ≠ .restart ∧ s.sup.mode ≠ .limp) ∧ i = .supplyGoodRun dt
      ∨ s.sup.mode ≠ .sync ∧ i = .syncTimeout dt
      ∨ s.sup.runFrom = none ∧ i = .runTimeElapsed dt
      ∨ s.sup.windowFrom = none ∧ i = .deferralWindowTimeout dt
      ∨ s.link.state ≠ .listen ∧ i = .listenEnd dt
      ∨ s.link.state ≠ .silent ∧ i = .silentEnd dt
      ∨ (s.link.state ≠ .active ∨ s.link.attempt ≠ none) ∧ i = .transmitAttemptStart dt
      ∨ s.link.attempt = none ∧ i ∈ [.attemptCompleted dt, .arbitrationLost dt, .attemptDestroyed dt]
      ∨ s.peer k = none ∧ i = .missed dt k
      ∨ (s.air.channel side).valveOpen = false ∧ i ∈ [.pulseEnd dt side, .continuousStopReached dt side h]
      ∨ s.air.gate = none ∧ i = .twistGateReached dt h) →
    exec i s = .next (s.advance dt)

/-! ## Power, START, RESTART, LIMP -/

/-- Power-up, the 50 ms wait, and power-off (R171, R172, R175, R179). That the good run begins with POWER_UP, a wait that
is not over, and every value of a part without supply are the model's choice (notes/assumptions/1.md, 8.md, 20.md,
30.md). -/
def Obligations.power_up_wait_and_power_off : Prop :=
  (∀ (dt : Micros) (s : State), s.sup.power = .off →
    completes (.powerUp dt) s (fun t =>
      t.outputsSafe false ∧ t.sup.power = .waiting ∧ t.sup.mode = .start ∧ t.sup.restartCounter = 0
      ∧ t.sup.runFrom = none ∧ t.stationTime = 0 ∧ t.sup.windowFrom = none ∧ t.sup.deferred = [] ∧ t.sup.faults = []
      ∧ t.sup.overflow = 0 ∧ t.sup.listFull = false ∧ t.sup.goodFrom = some (s.now + dt) ∧ t.link.state = .stopped))
  ∧ (∀ (dt : Micros) (s : State) (g : Micros), s.sup.power = .waiting → s.sup.goodFrom = some g →
      (50000 ≤ s.now + dt - g →
        completes (.powerUpWaitEnd dt) s (fun t =>
          t.sup.power = .on ∧ t.sup.mode = .start ∧ t.outputsSafe false ∧ t.link.state = .stopped
          ∧ t.loader.copy = none ∧ t.sup.faults = s.sup.faults ∧ t.sup.restartCounter = s.sup.restartCounter
          ∧ t.sup.poweredAt = s.sup.poweredAt))
      ∧ (s.now + dt - g < 50000 → exec (.powerUpWaitEnd dt) s = .next (s.advance dt)))
  ∧ ∀ (dt : Micros) (s : State),
      exec (.powerOff dt) s = .next { State.reset with pending := s.pending, now := s.now + dt }

/-- START that passes every check enters SYNC, the link engine in LISTEN, and the blocks' values after START that are
listed here (R18, R22, R33, R172, R173). -/
def Obligations.start_enters_sync : Prop :=
  ∀ (dt : Micros) (r : StartReading) (s : State) (p : Params) (clamped : Bool),
    s.sup.power = .on → s.sup.mode = .start →
    loadParameters r.words r.strap.toNat = { copy := some p, config := false, clampedAny := clamped } →
    completes (.startComplete dt r) s (fun t =>
      t.sup.mode = .sync ∧ t.sup.syncFrom = some (s.now + dt)
      ∧ t.loader = { strap := r.strap.toNat, image := r.words, copy := some p }
      ∧ t.link.state = .listen ∧ t.link.since = s.now + dt ∧ t.link.waiting = [] ∧ t.link.attempt = none
      ∧ t.link.errors = 0 ∧ t.link.overflow = 0 ∧ t.link.drops = 0
      ∧ t.link.token = (if r.strap.toNat = 0 then 1 else r.strap.toNat)
      ∧ (∀ k, t.peer k =
          if 1 ≤ k ∧ k ≤ 6 ∧ k ≤ p.axles ∧ k ≠ r.strap.toNat then some PeerRecord.initial else none)
      ∧ t.driver.status = .none ∧ t.odo.markValid = false ∧ t.track.entries = [] ∧ t.steer.mode = .locked
      ∧ t.brake.backup = true ∧ t.brake.driverLost = true ∧ t.brake.latched = none ∧ t.brake.load = p.ladenDefault
      ∧ t.air.air = .protect ∧ t.doors.halt = .off
      ∧ (clamped = false → t.sup.faults = s.sup.faults))

/-- START that raises CONFIG enters LIMP with its safe outputs, its steer mode and its ALERT waiting (R89, R172, R175,
R179). At stations 1 and 2 R89 is followed against Table 1.1, by the model's choice (notes/assumptions/21.md). -/
def Obligations.start_config_enters_limp : Prop :=
  ∀ (dt : Micros) (r : StartReading) (s : State),
    s.sup.power = .on → s.sup.mode = .start → (loadParameters r.words r.strap.toNat).config = true →
    completes (.startComplete dt r) s (fun t =>
      t.sup.mode = .limp ∧ t.outputsSafe true ∧ t.hasCondition .config = true
      ∧ t.loader.copy = (loadParameters r.words r.strap.toNat).copy
      ∧ t.steer.mode =
        (if (loadParameters r.words r.strap.toNat).copy.any (fun p => p.steered == 1) then SteerMode.failed
         else SteerMode.locked)
      ∧ t.link.state = .listen ∧ t.link.since = s.now + dt
      ∧ t.link.waiting.map (fun q => q.frame) =
          [{ identifier := r.strap.toNat, payload := [5, toByte r.strap.toNat, 255, 0, 1, 0, 0, 0] }]
      ∧ t.brake.latched = some .limp ∧ t.brake.backup = true ∧ t.doors.halt = .off ∧ t.odo.markValid = false
      ∧ t.track.entries = [] ∧ t.sup.windowFrom = none ∧ t.sup.deferred = [])

/-- A low or a high run that has reached 5 ms raises SUPPLY: with the restart counter at 0..2 it enters RESTART (R21,
R176, R177, R178), at 3 LIMP instead (R176, R178, R179); in RESTART and LIMP it changes nothing further, and in the
power-up wait it raises nothing (R172, R176). The good run begins with a supply inside its band (R177). That each
reading stands until the next, the strap value and the stopped engine's values are the model's choice
(notes/assumptions/8.md, 19.md, 20.md, 28.md, 46.md). -/
def Obligations.supply_fault_enters_restart_or_limp : Prop :=
  ∀ (dt : Micros) (mv : Nat) (r : AbandonedReading) (s : State) (f : Micros),
    s.sup.lowRun = .counting f ∨ s.sup.highRun = .counting f → 5000 ≤ s.now + dt - f →
    (s.sup.power = .on → s.sup.mode = .start ∨ s.sup.mode = .sync ∨ s.sup.mode = .run ∨ s.sup.mode = .degraded →
      s.sup.restartCounter < 3 →
      completes (.supply dt mv r) s (fun t =>
        t.sup.mode = .restart ∧ t.sup.restartCounter = s.sup.restartCounter + 1 ∧ t.outputsSafe false
        ∧ t.hasCondition .supply = true ∧ t.link = Link.initial ∧ t.sup.windowFrom = none ∧ t.sup.deferred = []
        ∧ t.sup.runFrom = none ∧ t.sup.goodFrom = (if 18000 ≤ mv ∧ mv ≤ 32000 then some (s.now + dt) else none)
        ∧ (∀ x ∈ t.sup.faults, x.code ≠ .supply → x.state = .passive)
        ∧ t.doors.halt = .off ∧ t.doors.anyGrant = false ∧ t.sup.poweredAt = s.sup.poweredAt
        ∧ (s.sup.mode ≠ .start →
            (s.advance dt).onlyChanges [.link, .steer, .joint, .brake, .air, .doors, .sup] t)))
    ∧ (s.sup.power = .on → s.sup.mode = .start ∨ s.sup.mode = .sync ∨ s.sup.mode = .run ∨ s.sup.mode = .degraded →
      s.sup.restartCounter = 3 →
      completes (.supply dt mv r) s (fun t =>
        t.sup.mode = .limp ∧ t.sup.restartCounter = 3 ∧ t.outputsSafe true ∧ t.hasCondition .supply = true
        ∧ t.hasCondition .restartLimit = true ∧ t.brake.backup = true ∧ t.odo.markValid = false
        ∧ (t.link.alerts.getLast?).map (fun q => q.frame.payload) =
            some [5, toByte t.station, 255, 0, 2, 0, 0, 0]
        ∧ t.link.state = (if s.sup.mode = .start then LinkState.listen else s.link.state)
        ∧ (s.sup.mode = .start → t.loader.copy = none)
        ∧ (s.sup.mode ≠ .start →
            (s.advance dt).onlyChanges [.link, .odo, .track, .steer, .joint, .brake, .air, .doors, .sup] t)))
    ∧ (s.sup.power = .on → s.sup.mode = .restart ∨ s.sup.mode = .limp →
      completes (.supply dt mv r) s (fun t =>
        t.sup.mode = s.sup.mode ∧ t.hasCondition .supply = true ∧ t.sup.restartCounter = s.sup.restartCounter
        ∧ (s.advance dt).onlyChanges [.sup] t))
    ∧ (s.sup.power = .waiting →
      completes (.supply dt mv r) s (fun t =>
        t.sup.power = .waiting ∧ t.sup.faults = s.sup.faults ∧ t.hasCondition .supply = s.hasCondition .supply
        ∧ (s.advance dt).onlyChanges [.sup] t))

/-- The good run ends SUPPLY: RESTART goes to START, LIMP stays (R176, R177). A reading at which no run reaches 5 ms
starts, keeps and clears the low and the high run, and the good run in the power-up wait, RESTART and LIMP (R172, R176,
R177). That each reading stands until the next is the model's choice (notes/assumptions/19.md). -/
def Obligations.supply_good_run_ends_supply : Prop :=
  (∀ (dt : Micros) (s : State) (g : Micros), s.sup.goodFrom = some g → 50000 ≤ s.now + dt - g →
    (s.sup.mode = .restart →
      completes (.supplyGoodRun dt) s (fun t =>
        t.sup.mode = .start ∧ t.hasCondition .supply = false ∧ t.outputsSafe false ∧ t.link.state = .stopped
        ∧ (∀ x ∈ t.sup.faults, x.code = .supply → x.state ≠ .active)
        ∧ t.sup.restartCounter = s.sup.restartCounter ∧ t.loader.copy = none))
    ∧ (s.sup.mode = .limp →
      completes (.supplyGoodRun dt) s (fun t =>
        t.sup.mode = .limp ∧ t.hasCondition .supply = false
        ∧ (∀ x ∈ t.sup.faults, x.code = .supply → x.state ≠ .active)
        ∧ (s.advance dt).onlyChanges [.sup] t)))
  ∧ ∀ (dt : Micros) (mv : Nat) (r : AbandonedReading) (s : State), s.sup.power ≠ .off →
      (∀ f, s.sup.lowRun = .counting f ∨ s.sup.highRun = .counting f → s.now + dt - f < 5000) →
      exec (.supply dt mv r) s =
        .next ((s.advance dt).setSup
          { s.sup with
            lowRun :=
              if mv < 16000 then (if s.sup.lowRun = .clear then .counting (s.now + dt) else s.sup.lowRun) else .clear
            highRun :=
              if 34000 < mv then (if s.sup.highRun = .clear then .counting (s.now + dt) else s.sup.highRun) else .clear
            goodFrom :=
              if s.sup.power = .waiting ∨ s.sup.mode = .restart ∨ s.sup.mode = .limp then
                (if 18000 ≤ mv ∧ mv ≤ 32000 then some (s.sup.goodFrom.getD (s.now + dt)) else none)
              else s.sup.goodFrom })

/-- The SYNC time's 2 s and the RUN time's 60 s (R173, R174, R178). -/
def Obligations.sync_time_and_run_time : Prop :=
  (∀ (dt : Micros) (s : State) (f : Micros),
    s.sup.mode = .sync → s.sup.syncFrom = some f → 2000000 ≤ s.now + dt - f →
    (s.degradedCause = true →
      completes (.syncTimeout dt) s (fun t =>
        t.sup.mode = .degraded ∧ t.doors.speedLimit = .asserted
        ∧ (s.advance dt).onlyChanges [.sup, .odo, .joint, .air, .doors] t))
    ∧ (s.degradedCause = false → s.sup.windowFrom = none →
      completes (.syncTimeout dt) s (fun t =>
        t.sup.mode = .run ∧ t.doors.speedLimit = .released ∧ (s.advance dt).onlyChanges [.sup, .doors] t)))
  ∧ ∀ (dt : Micros) (s : State) (f : Micros), s.sup.runFrom = some f → 60000000 ≤ s.now + dt - f →
      exec (.runTimeElapsed dt) s =
        .next ((s.advance dt).setSup
          { s.sup with restartCounter := s.sup.restartCounter - 1, runFrom := some (s.now + dt) })

/-- The window's 4 s: every pending consequence takes effect, and no record of it stays DEFERRED (R181). -/
def Obligations.window_timeout_applies_consequences : Prop :=
  ∀ (dt : Micros) (s : State) (w : Micros), s.sup.windowFrom = some w → 4000000 ≤ s.now + dt - w →
    completes (.deferralWindowTimeout dt) s (fun t =>
      t.sup.windowFrom = none ∧ t.sup.deferred = []
      ∧ (∀ c ∈ s.sup.deferred, c.deferrable = true → t.inEffect c = true)
      ∧ (∀ x ∈ t.sup.faults, x.code ∈ s.sup.deferred → x.state ≠ .deferred)
      ∧ (FaultCode.wheelSensorL ∈ s.sup.deferred → t.odo.left.excluded = true)
      ∧ (FaultCode.wheelSensorR ∈ s.sup.deferred → t.odo.right.excluded = true)
      ∧ (FaultCode.jointSensor ∈ s.sup.deferred → t.joint.protectionOff = true)
      ∧ (FaultCode.heightSensorL ∈ s.sup.deferred → t.air.cornerL.excluded = true ∧ t.air.kneelDisabled = true)
      ∧ (FaultCode.heightSensorR ∈ s.sup.deferred → t.air.cornerR.excluded = true ∧ t.air.kneelDisabled = true)
      ∧ (FaultCode.reservoirSensor ∈ s.sup.deferred → t.air.reservoirLatch = true ∧ t.air.air = .protect)
      ∧ (s.advance dt).onlyChanges [.sup, .odo, .joint, .air, .doors] t)

/-- No command but POWER_OFF leaves LIMP (R178, R179). -/
def Obligations.limp_is_left_by_power_off_only : Prop :=
  ∀ (i : Instr) (s t : State), s.sup.power = .on → s.sup.mode = .limp → (∀ dt, i ≠ .powerOff dt) →
    exec i s = .next t → t.sup.power = .on ∧ t.sup.mode = .limp

/-! ## Link engine -/

/-- An attempt begins with the waiting frame of the lowest class, the oldest of its class (R14). -/
def Obligations.attempt_takes_lowest_class : Prop :=
  ∀ (dt : Micros) (s : State), s.link.sound → s.link.state = .active → s.link.attempt = none → s.link.waiting ≠ [] →
    ∃ q ∈ s.link.waiting,
      exec (.transmitAttemptStart dt) s = .next ((s.advance dt).setLink { s.link with attempt := some q })
      ∧ (∀ x ∈ s.link.waiting, q.frame.identifier / 8 ≤ x.frame.identifier / 8)
      ∧ (q.frame.identifier / 8 = 0 → s.link.alerts.head? = some q)
      ∧ (q.frame.identifier / 8 = 2 → s.link.paths.head? = some q)

/-- The three ends of an attempt (R12, R14, R19, R20), and the ends of LISTEN and SILENT after 100 ms (R18, R20). -/
def Obligations.attempts_listen_and_silent_end : Prop :=
  (∀ (dt : Micros) (s : State) (q : Queued), s.link.attempt = some q →
    completes (.attemptCompleted dt) s (fun t =>
      t.link.attempt = none ∧ t.link.errors = s.link.errors - 1 ∧ t.link.state = s.link.state
      ∧ (∀ x, x ∈ t.link.waiting ↔ x ∈ s.link.waiting ∧ x.ticket ≠ q.ticket)
      ∧ (s.advance dt).onlyChanges [.link] t)
    ∧ exec (.arbitrationLost dt) s = .next ((s.advance dt).setLink { s.link with attempt := none })
    ∧ (s.link.errors < 31 →
        exec (.attemptDestroyed dt) s =
          .next ((s.advance dt).setLink { s.link with attempt := none, errors := s.link.errors + 1 }))
    ∧ (s.link.errors = 31 →
        completes (.attemptDestroyed dt) s (fun t =>
          t.link = { s.link with attempt := none, errors := 32, state := .silent, since := s.now + dt }
          ∧ t.hasCondition .linkSilent = true ∧ (s.advance dt).onlyChanges [.link, .sup] t)))
  ∧ (∀ (dt : Micros) (s : State), s.link.state = .listen → 100000 ≤ s.now + dt - s.link.since →
      exec (.listenEnd dt) s =
        .next ((s.advance dt).setLink { s.link with state := .active, leftListen := some (s.now + dt) }))
  ∧ ∀ (dt : Micros) (s : State), s.link.state = .silent → 100000 ≤ s.now + dt - s.link.since →
      completes (.silentEnd dt) s (fun t =>
        t.link = { s.link with state := .active, errors := 0 } ∧ t.hasCondition .linkSilent = false
        ∧ (s.advance dt).onlyChanges [.link, .sup] t)

/-! ## Reception -/

/-- A STATE frame for a JOINING or PRESENT record is EARLY, good or of a wrong token (R34, R36, R38, R39, R40). -/
def Obligations.state_frame_is_classified : Prop :=
  ∀ (dt : Micros) (k : BitVec 3) (payload : Payload) (s : State) (r : PeerRecord) (c : StateContent) (now : Micros),
    s.hearsPeer k → s.peer k.toNat = some r → r.presence = .joining ∨ r.presence = .present →
    decodeState k.toNat payload = some c → now = s.now + dt →
    completes (.stateFrameReceived dt k payload) s (fun t =>
      (s.advance dt).onlyChanges [.peers, .sup, .odo, .joint, .air, .doors] t
      ∧ (∀ j, j ≠ k.toNat → t.peer j = s.peer j)
      ∧ ∃ r', t.peer k.toNat = some r'
        ∧ (r'.presence = .lost → t.hasCondition .peerLost = true)
        ∧ ((∀ x ∈ t.peers, x.2.presence ≠ .lost) → t.hasCondition .peerLost = false)
        ∧ if r.acceptedAt.any (fun a => now - a < 5000) then r' = r.afterError s.errorLimit now
          else
            r'.reference = some c.token ∧ r'.content = some c ∧ r'.acceptedAt = some now
            ∧ r'.doorLatch0 = latchAfter r.doorLatch0 ∧ r'.doorLatch1 = latchAfter r.doorLatch1
            ∧ r'.edgeLatch0 = latchAfter r.edgeLatch0 ∧ r'.edgeLatch1 = latchAfter r.edgeLatch1
            ∧ r'.jackLatch = latchAfter r.jackLatch
            ∧ if r.reference.map tokenSuccessor = some c.token then
                r'.stale = false ∧ r'.deadline = some (now + 25000)
                ∧ if r.presence = .joining then
                    if r.goodRun < 7 then
                      r'.presence = .joining ∧ r'.errors = r.errors - 1 ∧ r'.goodRun = r.goodRun + 1
                    else r'.presence = .present ∧ r'.errors = 0 ∧ r'.goodRun = 8
                  else r'.presence = .present ∧ r'.errors = r.errors - 1 ∧ r'.goodRun = r.goodRun
              else if r.errors < s.errorLimit then
                r'.stale = false ∧ r'.deadline = some (now + 25000) ∧ r'.presence = r.presence
                ∧ r'.errors = r.errors + 1 ∧ r'.goodRun = (if r.presence = .joining then 0 else r.goodRun)
              else
                r'.stale = true ∧ r'.deadline = none ∧ r'.presence = .lost ∧ r'.lostAt = some now
                ∧ r'.errors = min 15 (s.errorLimit + 1))

/-- A sound STATE frame brings an ABSENT or LOST record to JOINING, and PEER_LOST ends where no other record is LOST (R37,
R39). A malformed one counts an error in a JOINING or PRESENT record, which raises PEER_LOST where it makes the record LOST,
and is not otherwise taken; it changes nothing in an ABSENT or LOST one (R27, R36, R39). -/
def Obligations.state_frame_joins_or_is_malformed : Prop :=
  ∀ (dt : Micros) (k : BitVec 3) (payload : Payload) (s : State) (r : PeerRecord),
    s.hearsPeer k → s.peer k.toNat = some r →
    (∀ c, decodeState k.toNat payload = some c → r.presence = .absent ∨ r.presence = .lost →
      completes (.stateFrameReceived dt k payload) s (fun t =>
        (s.advance dt).onlyChanges [.peers, .sup, .odo, .joint, .air, .doors] t
        ∧ (∀ j, j ≠ k.toNat → t.peer j = s.peer j)
        ∧ ∃ r', t.peer k.toNat = some r' ∧ r'.presence = .joining ∧ r'.reference = some c.token ∧ r'.content = some c
          ∧ r'.stale = false ∧ r'.errors = 0 ∧ r'.goodRun = 0 ∧ r'.acceptedAt = some (s.now + dt)
          ∧ r'.deadline = some (s.now + dt + 25000) ∧ r'.lostAt = none
        ∧ ((∃ x ∈ s.peers, x.1 ≠ k.toNat ∧ x.2.presence = .lost) →
            t.hasCondition .peerLost = s.hasCondition .peerLost)
        ∧ ((∀ x ∈ s.peers, x.1 ≠ k.toNat → x.2.presence ≠ .lost) →
            t.hasCondition .peerLost = false ∧ ∀ f ∈ t.sup.faults, f.code = .peerLost → f.state ≠ .active)))
    ∧ (decodeState k.toNat payload = none →
      completes (.stateFrameReceived dt k payload) s (fun t =>
        (s.advance dt).onlyChanges [.peers, .sup, .odo, .joint, .air, .doors] t
        ∧ (∀ j, j ≠ k.toNat → t.peer j = s.peer j)
        ∧ t.peer k.toNat =
          some (if r.presence = .joining ∨ r.presence = .present then r.afterError s.errorLimit (s.now + dt) else r)
        ∧ (r.presence = .joining ∨ r.presence = .present → s.errorLimit ≤ r.errors →
            t.hasCondition .peerLost = true)))

/-- A MISSED deadline counts one error, and the next deadline falls 10 ms later (R35, R36, R39). That nothing but time
passes before the deadline is the model's choice (notes/assumptions/1.md). -/
def Obligations.missed_deadline_counts_an_error : Prop :=
  ∀ (dt : Micros) (k : Nat) (s : State) (r : PeerRecord) (d : Micros),
    s.timersRun = true → s.peer k = some r → r.presence = .joining ∨ r.presence = .present → r.deadline = some d →
    (d ≤ s.now + dt →
      completes (.missed dt k) s (fun t =>
        (s.advance dt).onlyChanges [.peers, .sup, .odo, .joint, .air, .doors] t
        ∧ (∀ j, j ≠ k → t.peer j = s.peer j)
        ∧ t.peer k =
          some { r.afterError s.errorLimit (s.now + dt) with
                  deadline := if r.errors < s.errorLimit then some (d + 10000) else none }
        ∧ (s.errorLimit ≤ r.errors → t.hasCondition .peerLost = true)))
    ∧ (s.now + dt < d → exec (.missed dt k) s = .next (s.advance dt))

/-- A DRIVER frame from station 1 becomes the driver content, FRESH at once, and ends CAB_LOST; from another peer it
is ignored (R26, R41, R42). -/
def Obligations.driver_frame_is_taken_from_station_1 : Prop :=
  ∀ (dt : Micros) (k : BitVec 3) (payload : Payload) (s : State), s.hearsPeer k →
    (∀ c, k.toNat = 1 → decodeDriver payload = some c →
      completes (.driverFrameReceived dt k payload) s (fun t =>
        t.driver = { content := some c, since := s.now + dt, status := .fresh } ∧ t.hasCondition .cabLost = false
        ∧ (s.advance dt).onlyChanges [.driver, .sup, .odo, .joint, .air, .doors] t))
    ∧ (k.toNat ≠ 1 ∨ decodeDriver payload = none →
        exec (.driverFrameReceived dt k payload) s = .next (s.advance dt))

/-- The driver status follows from the age, and CAB_LOST from the status (R41, R42). That nothing but time passes
before an age is reached is the model's choice (notes/assumptions/1.md). -/
def Obligations.driver_status_follows_age : Prop :=
  ∀ (dt : Micros) (s : State), s.timersRun = true →
    (s.driver.status = .fresh → 30000 < s.now + dt - s.driver.since → s.now + dt - s.driver.since ≤ 80000 →
      exec (.driverStatusHolding dt) s = .next ((s.advance dt).setDriver { s.driver with status := .holding }))
    ∧ (s.now + dt - s.driver.since ≤ 30000 → exec (.driverStatusHolding dt) s = .next (s.advance dt))
    ∧ (s.driver.status = .fresh ∨ s.driver.status = .holding → 80000 < s.now + dt - s.driver.since →
        completes (.driverStatusExpired dt) s (fun t =>
          t.driver = { s.driver with status := .expired } ∧ t.hasCondition .cabLost = true
          ∧ (s.advance dt).onlyChanges [.driver, .sup, .odo, .joint, .air, .doors] t))
    ∧ (s.now + dt - s.driver.since ≤ 80000 → exec (.driverStatusExpired dt) s = .next (s.advance dt))
    ∧ ∀ l, s.driver.status = .none → s.link.leftListen = some l → 2000000 ≤ s.now + dt - l →
        s.hasCondition .cabLost = false →
        completes (.cabLost dt) s (fun t =>
          t.hasCondition .cabLost = true ∧ (s.advance dt).onlyChanges [.sup, .odo, .joint, .air, .doors] t)

/-- An ALERT from a peer sets the latch it names, and no other (R26, R40). -/
def Obligations.alert_sets_its_latch : Prop :=
  ∀ (dt : Micros) (k : BitVec 3) (payload : Payload) (s : State) (r : PeerRecord) (a : Alert),
    s.hearsPeer k → s.peer k.toNat = some r → decodeAlert k.toNat payload = some a →
    completes (.alertFrameReceived dt k payload) s (fun t =>
      t.peer k.toNat =
        some { r with
          doorLatch0 := if a.kind = .doorUnreleased ∧ a.slot = 0 then some 0 else r.doorLatch0
          doorLatch1 := if a.kind = .doorUnreleased ∧ a.slot = 1 then some 0 else r.doorLatch1
          edgeLatch0 := if a.kind = .edge ∧ a.slot = 0 then some 0 else r.edgeLatch0
          edgeLatch1 := if a.kind = .edge ∧ a.slot = 1 then some 0 else r.edgeLatch1
          jackLatch := if a.kind = .jackknife then some 0 else r.jackLatch }
      ∧ (∀ j, j ≠ k.toNat → t.peer j = s.peer j) ∧ (s.advance dt).onlyChanges [.peers] t)

/-- What reception ignores, and the first frame after START from an unexpected sender (R21, R25, R26). That a station
strapped 7 ignores the tool's requests as its own frames is the model's choice (notes/assumptions/47.md). -/
def Obligations.frames_of_other_senders : Prop :=
  ∀ (dt : Micros) (k : BitVec 3) (p : Payload) (target tag argument : Byte) (s : State) (i : Instr),
    let frames := [Instr.stateFrameReceived dt k p, .driverFrameReceived dt k p, .pathFrameReceived dt k p,
      .alertFrameReceived dt k p]
    let requests := [Instr.serviceRequestRejected dt k p, .readStatus dt k target tag argument,
      .readFaults dt k target tag argument, .clearFaults dt k target tag argument, .readParameter dt k target tag argument,
      .readTrack dt k target tag argument]
    (i ∈ frames → s.link.state = .stopped ∨ k.toNat = s.station ∨ k.toNat = 7 → exec i s = .next (s.advance dt))
    ∧ (i ∈ requests → s.link.state = .stopped ∨ k.toNat = s.station ∨ s.hearsPeer k → exec i s = .next (s.advance dt))
    ∧ (i ∈ frames ++ requests →
        s.link.state ≠ .stopped → k.toNat ≠ s.station → k.toNat ≠ 7 → k.toNat = 0 ∨ s.axles < k.toNat →
        (s.link.unexpectedSeen = true → exec i s = .next (s.advance dt))
        ∧ (s.link.unexpectedSeen = false →
          completes i s (fun t =>
            t.link = { s.link with unexpectedSeen := true } ∧ t.hasCondition .stationUnexpected = false
            ∧ (s.sup.faults.length < 16 → ∃ x ∈ t.sup.faults, x.code = .stationUnexpected)
            ∧ (s.advance dt).onlyChanges [.link, .sup] t)))

/-- A PATH sample from station 1 at a station that keeps a track memory: the first case of R68 that fits, an
overflow raised each time it happens, and the high watermark set at 112 entries (R68, R69, R70, R71). That the station
time counts complete tenths is the model's choice (notes/assumptions/54.md). -/
def Obligations.path_sample_is_admitted_or_discarded : Prop :=
  ∀ (dt : Micros) (k : BitVec 3) (payload : Payload) (s : State) (x : PathSample),
    s.hearsPeer k → k.toNat = 1 → s.keepsTrack = true → decodePath payload = some x →
    completes (.pathFrameReceived dt k payload) s (fun t =>
      (s.advance dt).onlyChanges [.track, .sup] t
      ∧ if s.odo.direction = .reverse ∨ s.sup.mode = .limp then
          t.track = { s.track with staleCount := min 255 (s.track.staleCount + 1) }
        else if x.firstAfterBreak = true then
          t.track.entries = [{ mark := x.mark, curvature := x.curvature, gap := false }] ∧ t.track.gapCount = 0
          ∧ t.track.highWater = false ∧ t.hasCondition .trackNearFull = false
        else if s.track.entries.getLast?.any (fun e => x.mark ≤ e.mark) then
          t.track = { s.track with staleCount := min 255 (s.track.staleCount + 1) }
        else
          t.track.entries =
            (if 128 ≤ s.track.entries.length then s.track.entries.tail else s.track.entries)
            ++ [{ mark := x.mark, curvature := x.curvature,
                  gap := x.gapBefore || s.track.entries.getLast?.any (fun e => e.mark + 50 < x.mark) }]
          ∧ t.track.staleCount = s.track.staleCount
          ∧ (128 ≤ s.track.entries.length →
              t.hasCondition .trackOverflow = false
              ∧ (s.sup.faults.length < 16 →
                  ∃ f ∈ t.sup.faults, f.code = .trackOverflow ∧ f.last = (s.advance dt).stationTime))
          ∧ (s.track.entries.length = 111 → t.track.highWater = true ∧ t.hasCondition .trackNearFull = true)
          ∧ (s.track.entries.length ≠ 111 → t.track.highWater = s.track.highWater))

/-! ## Service requests -/

/-- READ_STATUS, READ_PARAMETER and READ_TRACK are answered with the state at arrival, and change nothing else (R187,
R188, R189). That a station numbered 0 answers too, that the station time counts complete tenths, and that a station
without a track memory sends gap count and stale-sample count 0, are the model's choices (notes/assumptions/17.md, 54.md,
55.md). -/
def Obligations.reading_requests_are_answered : Prop :=
  ∀ (dt : Micros) (target tag argument : Byte) (s : State), s.hearsTool → target.toNat = s.station →
    completes (.readStatus dt 7 target tag argument) s (fun t =>
      (s.advance dt).onlyChanges [.link] t
      ∧ t.link.answers s.station ([1, target, tag, 0, toByte s.sup.mode.code, toByte s.sup.restartCounter, toByte s.link.state.code,
           toByte (if s.keepsTrack then s.track.entries.length else 0), toByte s.link.overflow, toByte s.link.drops,
           toByte s.link.errors, toByte s.sup.faults.length, toByte s.sup.overflow,
           toByte (flagBit s.sup.listFull + 2 * flagBit s.hasCopy)]
          ++ le24 (s.advance dt).stationTime ++ [0, 0, 0]))
    ∧ completes (.readParameter dt 7 target tag argument) s (fun t =>
        (s.advance dt).onlyChanges [.link] t
        ∧ t.link.answers s.station (if 64 ≤ argument.toNat then [4, target, tag, 2]
            else
              [4, target, tag, 0, argument,
               toByte (flagBit (s.loader.image.getD argument.toNat none).isSome
                + 2 * flagBit (decide (argument.toNat < 40) && s.hasCopy))]
              ++ le16 (((s.loader.image.getD argument.toNat none).map BitVec.toNat).getD 0)
              ++ le16 (if argument.toNat < 40 then s.param (fun p => p.values.getD argument.toNat 0) else 0)
              ++ [0, 0]))
    ∧ completes (.readTrack dt 7 target tag argument) s (fun t =>
        (s.advance dt).onlyChanges [.link] t
        ∧ t.link.answers s.station ([5, target, tag, 0]
            ++ (if s.keepsTrack then
                  [toByte s.track.entries.length, toByte s.track.gapCount, toByte s.track.staleCount, 0]
                  ++ le32 ((s.track.entries.head?.map TrackEntry.mark).getD 0)
                  ++ le32 ((s.track.entries.getLast?.map TrackEntry.mark).getD 0)
                else List.replicate 12 0)))

/-- READ_FAULTS and CLEAR_FAULTS (R183, R187, R190). That a station numbered 0 answers too is the model's choice
(notes/assumptions/17.md). -/
def Obligations.fault_requests_are_answered : Prop :=
  ∀ (dt : Micros) (target tag argument : Byte) (s : State), s.hearsTool → target.toNat = s.station →
    completes (.readFaults dt 7 target tag argument) s (fun t =>
      (s.advance dt).onlyChanges [.link] t
      ∧ ∃ answer, t.link.answers s.station answer
        ∧ (15 < argument.toNat → answer = [2, target, tag, 2])
        ∧ (argument.toNat ≤ 15 →
            answer.length = 48
            ∧ answer.take 8 =
              [2, target, tag, 0, toByte s.sup.faults.length,
               toByte ((s.sup.faults.drop argument.toNat).take 4).length, toByte s.sup.overflow,
               toByte (flagBit s.sup.listFull)]
            ∧ ∀ (n : Nat) (x : FaultRecord), n < 4 → s.sup.faults[argument.toNat + n]? = some x →
                (answer.drop (8 + 9 * n)).take 9 =
                  [toByte x.code.number, toByte (x.code.classCode + 4 * x.state.code), toByte x.count]
                  ++ le24 x.first ++ le24 x.last))
    ∧ (s.odo.standstill = false →
        completes (.clearFaults dt 7 target tag argument) s (fun t =>
          (s.advance dt).onlyChanges [.link] t
          ∧ t.link.answers s.station ([3, target, tag, 1])))
    ∧ (s.odo.standstill = true →
        completes (.clearFaults dt 7 target tag argument) s (fun t =>
          (s.advance dt).onlyChanges [.link, .sup] t
          ∧ t.sup = { s.sup with faults := s.sup.faults.filter (fun r => r.state != .passive), listFull := false }
          ∧ t.link.answers s.station ([3, target, tag, 0, toByte (s.sup.faults.length - t.sup.faults.length),
               toByte t.sup.faults.length, 0, 0])))

/-- A request that is too short or for another station is ignored; one of a bad length or an unlisted kind is answered
with BAD_LENGTH or NOT_SUPPORTED (R188). That a station numbered 0 answers too is the model's choice
(notes/assumptions/17.md). -/
def Obligations.rejected_requests : Prop :=
  ∀ (dt : Micros) (p : Payload) (target tag argument : Byte) (s : State), s.hearsTool →
    (target.toNat ≠ s.station →
      ∀ i ∈ [Instr.readStatus dt 7 target tag argument, .readFaults dt 7 target tag argument,
          .clearFaults dt 7 target tag argument, .readParameter dt 7 target tag argument, .readTrack dt 7 target tag argument],
        exec i s = .next (s.advance dt))
    ∧ (p.length < 3 ∨ (p.getD 1 0).toNat ≠ s.station → exec (.serviceRequestRejected dt 7 p) s = .next (s.advance dt))
    ∧ (3 ≤ p.length → (p.getD 1 0).toNat = s.station → p.length ≠ 4 →
        completes (.serviceRequestRejected dt 7 p) s (fun t =>
          (s.advance dt).onlyChanges [.link] t
          ∧ t.link.answers s.station ([p.getD 0 0, p.getD 1 0, p.getD 2 0, 4])))
    ∧ (p.length = 4 → (p.getD 1 0).toNat = s.station → (p.getD 0 0).toNat = 0 ∨ 5 < (p.getD 0 0).toNat →
        completes (.serviceRequestRejected dt 7 p) s (fun t =>
          (s.advance dt).onlyChanges [.link] t
          ∧ t.link.answers s.station ([p.getD 0 0, p.getD 1 0, p.getD 2 0, 3])))

/-! ## Speed and odometry -/

/-- A tooth edge captures the time since the edge before it, and adds one tooth of distance to a wheel that is not
excluded (R43, R50). That no distance is added without a working copy is the model's choice (notes/assumptions/44.md).
-/
def Obligations.tooth_edge_captures_and_adds : Prop :=
  ∀ (dt : Micros) (side : Side) (s : State), s.timersRun = true →
    exec (.toothEdge dt side) s =
      .next ((s.advance dt).setOdo (s.odo.setWheel side
        { s.odo.wheel side with
          lastEdge := some (s.now + dt)
          capture := match (s.odo.wheel side).lastEdge with
            | some e => some (max 1 (min 1048575 (s.now + dt - e)))
            | none => (s.odo.wheel side).capture
          accumulator := match s.loader.copy with
            | some p =>
              if (s.odo.wheel side).excluded then (s.odo.wheel side).accumulator
              else (s.odo.wheel side).accumulator + p.circumference * 1000
            | none => (s.odo.wheel side).accumulator }))

/-- An open or a short excludes its wheel at once, or at the end of the window while a protected manoeuvre is in
progress; its end ends the condition and not the exclusion; a detection raises its fault again where
it stands (R45, R180, R182). Where the other wheel's fault is present, WHEEL_SENSORS_BOTH is raised and both wheels are
excluded at once, also during a protected manoeuvre, and neither consequence is pending any longer (R47, R180); that the
records of pending consequences are DEFERRED, which the last clause takes, every step keeps. The line's own state, that
the conditions of both faults are what R47 looks at, and that the station time counts complete tenths, are the model's
(notes/assumptions/4.md, 23.md, 54.md). -/
def Obligations.wheel_open_short_excludes : Prop :=
  ∀ (dt : Micros) (side : Side) (s : State), s.timersRun = true → s.sup.power ≠ .off →
    (s.hasCondition (wheelFault side) = false → s.hasCondition (wheelFault (otherSide side)) = false →
      s.inEffect (wheelFault side) = false → s.sup.windowFrom = none →
      (s.protectedManoeuvre = false →
        completes (.wheelSensorOpenShort dt side true) s (fun t =>
          (t.odo.wheel side).excluded = true ∧ t.hasCondition (wheelFault side) = true
          ∧ t.inEffect (wheelFault side) = true ∧ t.odo.wheel (otherSide side) = s.odo.wheel (otherSide side)
          ∧ (s.advance dt).onlyChanges [.odo, .sup, .doors] t))
      ∧ (s.protectedManoeuvre = true →
        completes (.wheelSensorOpenShort dt side true) s (fun t =>
          (t.odo.wheel side).excluded = (s.odo.wheel side).excluded ∧ t.hasCondition (wheelFault side) = true
          ∧ wheelFault side ∈ t.sup.deferred ∧ t.sup.windowFrom = some (s.now + dt)
          ∧ (s.advance dt).onlyChanges [.odo, .sup, .doors] t)))
    ∧ ((s.odo.wheel side).openShort = false →
      completes (.wheelSensorOpenShort dt side true) s (fun t =>
        (t.odo.wheel side).openShort = true ∧ t.hasCondition (wheelFault side) = true
        ∧ ∀ f ∈ t.sup.faults, f.code = wheelFault side → f.last = (s.advance dt).stationTime))
    ∧ ((s.odo.wheel side).implausible ≠ 200 → s.sup.windowFrom = none →
      completes (.wheelSensorOpenShort dt side false) s (fun t =>
        (t.odo.wheel side).excluded = (s.odo.wheel side).excluded ∧ t.hasCondition (wheelFault side) = false
        ∧ (s.advance dt).onlyChanges [.odo, .sup, .doors] t))
    ∧ (s.hasCondition (wheelFault side) = false → s.hasCondition (wheelFault (otherSide side)) = true →
        s.hasCondition .wheelSensorsBoth = false →
      completes (.wheelSensorOpenShort dt side true) s (fun t =>
        t.hasCondition .wheelSensorsBoth = true ∧ t.hasCondition (wheelFault side) = true
        ∧ t.inEffect .wheelSensorsBoth = true ∧ t.odo.left.excluded = true ∧ t.odo.right.excluded = true
        ∧ .wheelSensorL ∉ t.sup.deferred ∧ .wheelSensorR ∉ t.sup.deferred
        ∧ (s.inEffect (wheelFault side) = false → t.inEffect (wheelFault side) = true)
        ∧ (s.protectedManoeuvre = true →
            t.sup.deferred = s.sup.deferred.filter (fun c => c != .wheelSensorL && c != .wheelSensorR)
            ∧ (s.inEffect (wheelFault side) = false →
                ∀ f ∈ t.sup.faults, f.code = wheelFault side → f.state ≠ .deferred)
            ∧ (wheelFault (otherSide side) ∈ s.sup.deferred →
                t.inEffect (wheelFault (otherSide side)) = true
                ∧ ((∀ f ∈ s.sup.faults, f.code ∈ s.sup.deferred → f.state = .deferred) →
                    ∀ f ∈ t.sup.faults, f.code = wheelFault (otherSide side) → f.state = .active)))
        ∧ (s.advance dt).onlyChanges [.odo, .sup, .joint, .air, .doors] t))

/-- One speed expiry: the wheel speed of a capture, or 0 after 250 ms without an edge (R44), the axle and the reference
speed (R48, R49); the source and its borrow time (R52), the direction in use (R53), what each wheel's accumulator gives
and keeps (R50), the axle and the path increment, and the mark they carry, up to 4,000,000,000 (R51, R54). The counting
of the borrow time, the carry and fractions kept where the increment is discarded, cos in fixed point, that a mark
clamped at its adoption goes on by R51, and that the wheels which the same expiry's faults exclude are excluded from what
it forms are the model's choice (notes/assumptions/6.md, 9.md, 37.md, 49.md, 53.md). -/
def Obligations.speed_expiry_sets_speeds_and_counts_distance : Prop :=
  ∀ (dt : Micros) (s : State) (p : Params),
    s.timersRun = true → s.loader.copy = some p → s.sup.windowFrom = none ∨ s.protectedManoeuvre = true →
    completes (.speedOdometryExpiry dt) s (fun t =>
      (∀ side, (t.odo.wheel side).speed =
        if (s.odo.wheel side).lastEdge.any (fun e => 250000 ≤ s.now + dt - e) then 0
        else match (s.odo.wheel side).capture with
          | some c => min 3000 (roundNat (p.circumference * 100000) (p.teeth * c))
          | none => 0)
      ∧ (t.odo.left.excluded = false → t.odo.right.excluded = false →
          t.odo.axleSpeed = roundNat (t.odo.left.speed + t.odo.right.speed) 2 ∧ t.odo.speedValid = true)
      ∧ (t.odo.left.excluded = true → t.odo.right.excluded = false →
          t.odo.axleSpeed = t.odo.right.speed ∧ t.odo.speedValid = true)
      ∧ (t.odo.left.excluded = false → t.odo.right.excluded = true →
          t.odo.axleSpeed = t.odo.left.speed ∧ t.odo.speedValid = true)
      ∧ (t.odo.left.excluded = true → t.odo.right.excluded = true → t.odo.axleSpeed = 0 ∧ t.odo.speedValid = false)
      ∧ (t.odo.source = .own → t.odo.borrowTime = 0)
      ∧ (t.odo.source = .borrowed →
          t.odo.borrowTime = if s.odo.source = .borrowed then s.odo.borrowTime + 10 else 0)
      ∧ t.odo.reference = max (largest (t.odo.usedSpeeds ++ s.peerSpeeds)) (s.odo.reference - 12)
      ∧ (t.odo.source = .borrowed ↔
          (s.brake.slipL.state ≠ .free ∨ s.brake.slipR.state ≠ .free) ∨ t.hasCondition .wheelSensorsBoth = true
            ∨ (t.odo.left.excluded = true ∧ t.odo.right.excluded = true))
      ∧ t.odo.direction = (match s.driverContent with | some c => c.direction | none => s.odo.direction)
      ∧ t.track =
        (if t.odo.direction = .reverse ∧ s.odo.direction ≠ .reverse then
          { s.track with entries := [], gapCount := 0, highWater := false }
        else s.track)
      ∧ t.odo.left.accumulator = s.odo.left.accumulator % p.teeth
      ∧ t.odo.right.accumulator = s.odo.right.accumulator % p.teeth
      ∧ (∀ sum : Nat, sum = s.odo.left.wholeMicrometres p + s.odo.right.wholeMicrometres p + s.odo.halfCarry →
          (t.odo.source = .own ∧ t.odo.left.excluded = false ∧ t.odo.right.excluded = false →
            t.odo.halfCarry = sum % 2)
          ∧ (t.odo.source = .borrowed ∨ t.odo.left.excluded = true ∨ t.odo.right.excluded = true →
            t.odo.halfCarry = s.odo.halfCarry)
          ∧ ∀ axle path total : Nat,
            axle =
              (if t.odo.source = .borrowed then t.odo.reference * 100
              else if t.odo.left.excluded then s.odo.right.wholeMicrometres p
              else if t.odo.right.excluded then s.odo.left.wholeMicrometres p
              else sum / 2) →
            path =
              (if s.isCab = true ∧ s.hasCondition .steerInput = false then timesCos axle s.path.frontAngle else axle) →
            total = s.odo.markAccumulator + path →
            s.odo.markValid = true →
            t.odo.markValid = true
            ∧ (t.odo.direction = .reverse ∨ s.odo.saturated = true →
                t.odo.mark = s.odo.mark ∧ t.odo.markAccumulator = s.odo.markAccumulator
                ∧ t.odo.saturated = s.odo.saturated
                ∧ t.hasCondition .odometerSaturated = s.hasCondition .odometerSaturated)
            ∧ (t.odo.direction ≠ .reverse → s.odo.saturated = false →
                (s.odo.mark + total / 10000 ≤ 4000000000 →
                  t.odo.mark = s.odo.mark + total / 10000 ∧ t.odo.markAccumulator = total % 10000
                  ∧ t.odo.saturated = false
                  ∧ t.hasCondition .odometerSaturated = s.hasCondition .odometerSaturated)
                ∧ (4000000000 < s.odo.mark + total / 10000 →
                  t.odo.mark = 4000000000 ∧ t.odo.markAccumulator = 0 ∧ t.odo.saturated = true
                  ∧ t.hasCondition .odometerSaturated = true)))
      ∧ (s.odo.markValid = false → t.odo.markValid = false →
          t.odo.mark = s.odo.mark ∧ t.odo.markAccumulator = s.odo.markAccumulator)
      ∧ (s.advance dt).onlyChanges [.odo, .track, .link, .sup, .doors] t)

/-- A wheel without an edge for 250 ms reads 0 and loses its capture (R44); one that reads 0 for 2 s while the other
exceeds 500 raises its fault (R46). Each row is its whole expiry, by the model's choice (notes/assumptions/3.md). -/
def Obligations.wheel_timeout_and_plausibility : Prop :=
  ∀ (dt : Micros) (side : Side) (s : State) (p : Params), s.timersRun = true → s.loader.copy = some p →
    (∀ e, (s.odo.wheel side).lastEdge = some e → 250000 ≤ s.now + dt - e →
      completes (.wheelZeroSpeedTimeout dt side) s (fun t =>
        (t.odo.wheel side).speed = 0 ∧ (t.odo.wheel side).capture = none ∧ (t.odo.wheel side).lastEdge = none
        ∧ (s.advance dt).onlyChanges [.odo, .track, .link, .sup, .joint, .air, .doors] t))
    ∧ (((s.odo.wheel side).measure p (s.now + dt)).speed = 0 →
      500 < ((s.odo.wheel (otherSide side)).measure p (s.now + dt)).speed → (s.odo.wheel side).implausible = 199 →
      completes (.wheelPlausibilityFail dt side) s (fun t =>
        (t.odo.wheel side).implausible = 200 ∧ t.hasCondition (wheelFault side) = true
        ∧ (t.odo.wheel side).speed = 0 ∧ (s.advance dt).onlyChanges [.odo, .track, .link, .sup, .joint, .air, .doors] t))

/-- The standstill flag is set at the twentieth expiry in a row at which every speed term is below 10 with a speed-
valid flag set, cleared by any term above 30 and kept otherwise (R57); its clearing while a grant is held queues ALERT
STANDSTILL_LOST with v_ref (R58). STANDSTILL_SET is its whole expiry, and the speed terms follow the wheels' judgement of
the same expiry, by the model's choice (notes/assumptions/3.md, 53.md). -/
def Obligations.standstill_is_set_and_cleared : Prop :=
  ∀ (dt : Micros) (s : State) (p : Params), s.timersRun = true → s.loader.copy = some p →
    (s.odo.standstill = false → s.odo.setRun = 19 →
      (State.wheelWork p (s.advance dt)).speedWork.speedTerms.all (fun v => v < 10) = true →
      (State.wheelWork p (s.advance dt)).speedWork.odo.speedValid = true ∨ s.peerSpeeds ≠ [] →
      completes (.standstillSet dt) s (fun t =>
        t.odo.standstill = true ∧ t.odo.setRun = 20
        ∧ (s.advance dt).onlyChanges [.odo, .track, .link, .sup, .joint, .air, .doors] t))
    ∧ completes (.speedOdometryExpiry dt) s (fun t =>
        t.odo.setRun =
          (if (∀ v ∈ t.odo.terms s.peerSpeeds, v < 10) ∧ (t.odo.speedValid = true ∨ s.peerSpeeds ≠ []) then
            min 20 (s.odo.setRun + 1)
          else 0)
        ∧ ((∃ v ∈ t.odo.terms s.peerSpeeds, 30 < v) → t.odo.standstill = false)
        ∧ ((∀ v ∈ t.odo.terms s.peerSpeeds, v ≤ 30) →
            t.odo.standstill = (s.odo.standstill || decide (t.odo.setRun = 20)))
        ∧ (s.odo.standstill = true → t.odo.standstill = false → s.doors.slot0.grant = true ∨ s.doors.slot1.grant = true →
            ∃ q : Queued, t.link.alerts =
                (if s.link.alerts.length < 2 then s.link.alerts else s.link.alerts.tail) ++ [q]
              ∧ q.frame =
                { identifier := s.station
                  payload := encodeAlert { kind := .standstillLost, station := s.station, slot := 255, value := t.odo.reference } })
        ∧ (s.odo.standstill = false ∨ t.odo.standstill = true
            ∨ (s.doors.slot0.grant = false ∧ s.doors.slot1.grant = false) → t.link = s.link)
        ∧ (s.advance dt).onlyChanges [.odo, .track, .link, .sup, .joint, .air, .doors] t)

/-- The cab adopts after 200 ms, with ODOMETER_SATURATED raised where the mark is clamped to 4,000,000,000, and a rear
station without a cab mark after 2 s (R5, R55, R56). The adoption rows are their whole expiry, the mark is the adopted one
with the accumulator 0 because the adopting expiry's own increment is discarded, and a clamped mark is not yet a saturated
one, each by the model's choice (notes/assumptions/3.md, 48.md, 49.md). -/
def Obligations.marks_are_adopted : Prop :=
  ∀ (dt : Micros) (s : State) (p : Params) (f : Micros),
    s.working = true → s.loader.copy = some p → s.odo.markValid = false → s.sup.syncFrom = some f →
    (s.isCab = true → 200000 ≤ s.now + dt - f →
      completes (.cabMarkAdoption dt) s (fun t =>
        t.odo.markValid = true ∧ t.odo.markAccumulator = 0
        ∧ t.odo.mark =
          (match s.peers.filterMap (fun x => x.2.adoptable.map (fun c => c.mark + c.lag)) with
            | [] => 5000
            | sums => min 4000000000 (largest sums + 100))
        ∧ t.hasCondition .odometerSaturated =
          (s.hasCondition .odometerSaturated || decide (4000000000 < s.cabMark))
        ∧ t.odo.saturated = s.odo.saturated
        ∧ (s.advance dt).onlyChanges [.odo, .track, .link, .sup, .joint, .air, .doors] t))
    ∧ (s.isCab = false → (s.peer 1).bind PeerRecord.adoptable = none → 2000000 ≤ s.now + dt - f →
      completes (.rearAdoptionTimeout dt) s (fun t =>
        t.odo.markValid = true ∧ t.odo.markAccumulator = 0 ∧ t.odo.mark = 5000 - p.lag
        ∧ (s.advance dt).onlyChanges [.odo, .track, .link, .sup, .joint, .air, .doors] t))
    ∧ ∀ c, s.isCab = false → (s.peer 1).bind PeerRecord.adoptable = some c →
        completes (.speedOdometryExpiry dt) s (fun t =>
          t.odo.markValid = true ∧ t.odo.markAccumulator = 0 ∧ t.odo.mark = c.mark - p.lag
          ∧ (s.advance dt).onlyChanges [.odo, .track, .link, .sup, .joint, .air, .doors] t)

/-! ## Path generator and track memory -/

/-- One expiry of the cab's path generator: no sample, the first after a break, one or several at the next sample marks,
those the queue refuses, and none once an increment has saturated the mark (R54, R60 to R65). The curvature law is the
model's fixed-point one; that an input found sound is computed from at once, and that a mark clamped at its adoption has
not saturated, so that its first sample is queued, are its choices (notes/assumptions/6.md, 42.md, 49.md). -/
def Obligations.path_expiry_emits_samples : Prop :=
  ∀ (dt : Micros) (s : State) (p : Params) (a : Int),
    s.working = true → s.isCab = true → s.loader.copy = some p →
    (-9000 ≤ a → a ≤ 9000 →
      (s.odo.markValid = false ∨ s.odo.direction = .reverse →
        completes (.pathGeneratorExpiry dt (.reading a)) s (fun t =>
          t.path = { s.path with frontAngle := a, curvature := curvatureOf a p.wheelbase, nextMark := none,
                                 breakPending := true }
          ∧ t.hasCondition .steerInput = false ∧ (s.advance dt).onlyChanges [.path, .sup, .odo, .joint, .air, .doors] t))
      ∧ (s.odo.markValid = true → s.odo.direction ≠ .reverse → s.odo.saturated = true →
        completes (.pathGeneratorExpiry dt (.reading a)) s (fun t =>
          t.path = { s.path with frontAngle := a, curvature := curvatureOf a p.wheelbase }
          ∧ (s.advance dt).onlyChanges [.path, .sup, .odo, .joint, .air, .doors] t))
      ∧ (s.odo.markValid = true → s.odo.direction ≠ .reverse → s.odo.saturated = false →
          s.path.nextMark = none → 4 ≤ s.link.paths.length →
        completes (.pathGeneratorExpiry dt (.reading a)) s (fun t =>
          t.path = { frontAngle := a, curvature := curvatureOf a p.wheelbase, nextMark := some (s.odo.mark + 25),
                     breakPending := s.path.breakPending, gapPending := true }
          ∧ t.link = { s.link with drops := min 255 (s.link.drops + 1) }
          ∧ (s.advance dt).onlyChanges [.path, .link, .sup, .odo, .joint, .air, .doors] t))
      ∧ (s.odo.markValid = true → s.odo.direction ≠ .reverse → s.odo.saturated = false →
          s.path.nextMark = none → s.link.paths.length < 4 →
        completes (.pathGeneratorExpiry dt (.reading a)) s (fun t =>
          t.path = { frontAngle := a, curvature := curvatureOf a p.wheelbase, nextMark := some (s.odo.mark + 25),
                     breakPending := false, gapPending := false }
          ∧ ∃ q : Queued, t.link.paths = s.link.paths ++ [q]
            ∧ q.frame = { identifier := 16 + s.station, payload := 
                encodePath ⟨s.odo.mark, curvatureOf a p.wheelbase, true, false⟩ }
          ∧ (s.advance dt).onlyChanges [.path, .link, .sup, .odo, .joint, .air, .doors] t))
      ∧ (∀ m, s.odo.markValid = true → s.odo.direction ≠ .reverse → s.odo.saturated = false →
          s.path.nextMark = some m →
        (s.odo.mark < m →
          completes (.pathGeneratorExpiry dt (.reading a)) s (fun t =>
            t.path = { s.path with frontAngle := a, curvature := curvatureOf a p.wheelbase }
            ∧ (s.advance dt).onlyChanges [.path, .sup, .odo, .joint, .air, .doors] t))
        ∧ (m ≤ s.odo.mark → s.odo.mark < m + 25 → s.link.paths.length < 4 →
          completes (.pathGeneratorExpiry dt (.reading a)) s (fun t =>
            t.path = { frontAngle := a, curvature := curvatureOf a p.wheelbase, nextMark := some (m + 25),
                       breakPending := false, gapPending := s.path.gapPending && s.path.breakPending }
            ∧ ∃ q : Queued, t.link.paths = s.link.paths ++ [q]
              ∧ q.frame = { identifier := 16 + s.station, payload := 
                  encodePath ⟨m, curvatureOf a p.wheelbase, s.path.breakPending,
                    s.path.gapPending && !s.path.breakPending⟩ }
            ∧ (s.advance dt).onlyChanges [.path, .link, .sup, .odo, .joint, .air, .doors] t))
        ∧ (m ≤ s.odo.mark → s.odo.mark < m + 25 → 4 ≤ s.link.paths.length →
          completes (.pathGeneratorExpiry dt (.reading a)) s (fun t =>
            t.path.nextMark = some (m + 25) ∧ t.path.gapPending = true ∧ t.path.breakPending = s.path.breakPending
            ∧ t.link = { s.link with drops := min 255 (s.link.drops + 1) }
            ∧ (s.advance dt).onlyChanges [.path, .link, .sup, .odo, .joint, .air, .doors] t))
        ∧ ∀ due taken : Nat, m + 25 ≤ s.odo.mark → due = (s.odo.mark - m) / 25 + 1 →
          taken = min due (4 - s.link.paths.length) →
          completes (.pathGeneratorExpiry dt (.reading a)) s (fun t =>
            t.path = { frontAngle := a, curvature := curvatureOf a p.wheelbase, nextMark := some (m + 25 * due),
                       breakPending := s.path.breakPending && taken == 0, gapPending := decide (taken < due) }
            ∧ (∃ qs : List Queued, t.link.paths = s.link.paths ++ qs
              ∧ qs.map (fun q => q.frame) = (List.range taken).map (fun j =>
                  { identifier := 16 + s.station, payload :=
                      encodePath ⟨m + 25 * j, curvatureOf a p.wheelbase, s.path.breakPending && j == 0,
                        s.path.gapPending && j == (if s.path.breakPending then 1 else 0)⟩ }))
            ∧ (t.link.drops = if taken < due then min 255 (s.link.drops + (due - taken)) else s.link.drops)
            ∧ (s.advance dt).onlyChanges [.path, .link, .sup, .odo, .joint, .air, .doors] t)))
    ∧ ∀ front : AnalogIn, faultyReading (-9000) 9000 front →
        completes (.pathGeneratorExpiry dt front) s (fun t =>
          t.path = { s.path with curvature := 0, nextMark := none, breakPending := true }
          ∧ t.hasCondition .steerInput = true ∧ (s.advance dt).onlyChanges [.path, .sup, .odo, .joint, .air, .doors] t)

/-- Retirement keeps the entries at or beyond m_mid and the newest one below it, and below 96 of them the high watermark
clears (R70, R73). Then the track status is set from the look-up points, EMPTY where one underruns and STARVED where one
falls short by more than 200, and starving-soon where fewer than 2 entries lie beyond m_mid (R72, R74, R75, R77); a starved
run of 500 ms raises TRACK_STARVED (R76). TRACK_STARVED is its whole expiry, by the model's choice
(notes/assumptions/3.md). -/
def Obligations.track_expiry_retires_and_starves : Prop :=
  ∀ (dt : Micros) (s : State) (p : Params),
    s.timersRun = true → s.keepsTrack = true → s.loader.copy = some p → s.track.sound →
    (s.odo.markValid = true →
      completes (.trackMemoryExpiry dt) s (fun t =>
        t.track.entries =
          ((s.track.entries.filter (fun e => e.mark < s.odo.mark + roundNat p.steerLever 2)).getLast?).toList
          ++ s.track.entries.filter (fun e => s.odo.mark + roundNat p.steerLever 2 ≤ e.mark)
        ∧ t.track.gapCount = gapsIn t.track.entries
        ∧ (t.track.entries.length < s.track.entries.length → t.track.entries.length < 96 →
            t.track.highWater = false ∧ t.hasCondition .trackNearFull = false)
        ∧ (s.inLimp = false →
            t.track.status =
              (if ∃ x ∈ pointsAhead p, underrunsAt t.track.entries (s.odo.mark + x) then TrackStatus.empty
              else if ∃ x ∈ pointsAhead p, fallsShortAt t.track.entries (s.odo.mark + x) then .starved
              else .valid)
            ∧ t.track.starvingSoon =
              decide ((t.track.entries.filter
                (fun e => s.odo.mark + roundNat p.steerLever 2 < e.mark)).length < 2))
        ∧ t.track.starvedRun = (if t.track.status = .starved then min 50 (s.track.starvedRun + 1) else 0)
        ∧ t.hasCondition .trackStarved = decide (t.track.starvedRun = 50)
        ∧ (s.advance dt).onlyChanges [.track, .sup] t))
    ∧ (s.odo.markValid = false →
      completes (.trackMemoryExpiry dt) s (fun t =>
        t.track.entries = s.track.entries ∧ t.track.status = .empty ∧ t.track.starvingSoon = true
        ∧ t.track.starvedRun = 0 ∧ t.hasCondition .trackStarved = false
        ∧ (s.advance dt).onlyChanges [.track, .sup] t))
    ∧ (s.track.starvedRun = 49 → (s.retireEntries p).statusNow p = .starved →
      completes (.trackStarved dt) s (fun t =>
        t.track.status = .starved ∧ t.track.starvedRun = 50 ∧ t.hasCondition .trackStarved = true
        ∧ (s.advance dt).onlyChanges [.track, .sup] t))

/-! ## Steering -/

/-- The staged demand reaches the line at the next expiry, and a faulty input ends in FAILED (R81, R88, R96, R98). -/
def Obligations.steering_outputs_and_fails : Prop :=
  ∀ (dt : Micros) (s : State) (a : Int), s.working = true → s.isSteered = true →
    (-9000 ≤ a → a ≤ 9000 →
      completes (.steeringExpiry dt (.reading a)) s (fun t =>
        t.steer.measured = a ∧ t.hasCondition .steerSensor = false ∧ t.steer.staged = t.steer.applied
        ∧ (t.steer.mode ≠ .failed → t.steer.line = s.steer.staged)
        ∧ (s.advance dt).onlyChanges [.steer, .sup, .odo, .joint, .air, .doors] t))
    ∧ ∀ angle : AnalogIn, faultyReading (-9000) 9000 angle → s.hasCondition .steerSensor = false →
      completes (.steeringExpiry dt angle) s (fun t =>
        t.steer.mode = .failed ∧ t.steer.failedLatch = true ∧ t.steer.solenoid = false ∧ t.steer.line = 0
        ∧ t.steer.staged = 0 ∧ t.steer.applied = 0 ∧ t.steer.measured = 0 ∧ t.hasCondition .steerSensor = true
        ∧ (s.advance dt).onlyChanges [.steer, .sup, .odo, .joint, .air, .doors] t)

/-- The target of each steer mode: 0, the guided law, or the half-chord law at m_mid with the docking contribution, which
an UNDERRUN keeps; it is clamped to the speed limit (R90 to R94). The applied demand moves toward it by at most the rate
limit, takes it when it lies that near, and is staged (R95, R96). The half-chord law is the model's fixed-point one
(notes/assumptions/6.md). -/
def Obligations.steer_target_and_demand_follow_their_laws : Prop :=
  ∀ (dt : Micros) (angle : AnalogIn) (s : State) (p : Params),
    s.working = true → s.isSteered = true → s.loader.copy = some p →
    completes (.steeringExpiry dt angle) s (fun t =>
      (t.steer.mode = .locked ∨ t.steer.mode = .failed → t.steer.applied = 0)
      ∧ (t.steer.mode ≠ .locked → t.steer.mode ≠ .failed →
          t.steer.applied =
            if (t.steer.target - s.steer.applied).natAbs ≤ p.rateLimit then t.steer.target
            else if s.steer.applied < t.steer.target then s.steer.applied + p.rateLimit
            else s.steer.applied - p.rateLimit)
      ∧ t.steer.staged = t.steer.applied
      ∧ t.steer.target = clampInt (steerBound p s.odo.reference) t.steer.unlimited
      ∧ (t.steer.mode = .locked ∨ t.steer.mode = .failed ∨ t.steer.mode = .centring →
          t.steer.unlimited = 0 ∧ t.steer.docking = 0)
      ∧ (t.steer.mode = .guided →
          t.steer.unlimited = -roundInt (p.guidedGain * s.joint.measured) 1000 ∧ t.steer.docking = 0)
      ∧ (t.steer.mode = .tracking →
          t.steer.docking =
            (if s.driverContent.any (fun c => c.docking) = true ∧ s.odo.reference < 278 then
              (if p.kerbSide = 1 then (p.dockingOffset : Int) else -(p.dockingOffset : Int))
            else 0)
          ∧ (∀ l, s.lookAhead (roundNat p.steerLever 2) = some l →
              t.steer.unlimited = halfChord p.steerLever l.curvature + t.steer.docking)
          ∧ (s.lookAhead (roundNat p.steerLever 2) = none → t.steer.unlimited = s.steer.unlimited))
      ∧ -(steerBound p s.odo.reference) ≤ t.steer.target ∧ t.steer.target ≤ steerBound p s.odo.reference
      ∧ (s.advance dt).onlyChanges [.steer, .sup, .odo, .joint, .air, .doors] t)

/-- The steer mode's moves: the runs at the expiry that completes them (R82, R85, R86, R87), and all rows of Table 5.2
from LOCKED, TRACKING, GUIDED and CENTRING at a steering expiry, with the runs that count there (R82 to R87). Each
row of the first kind is its whole expiry; the order of two moves open in GUIDED, and where the mismatch run counts in
CENTRING, are the model's choice (notes/assumptions/3.md, 14.md, 36.md). -/
def Obligations.steer_mode_moves_by_its_rows : Prop :=
  ∀ (dt : Micros) (s : State) (a : Int),
    s.working = true → s.isSteered = true → s.steer.failedLatch = false → -9000 ≤ a → a ≤ 9000 →
    (s.steer.mode = .locked → s.steer.lockLoss = 9 → 50 < a.natAbs →
      completes (.lockLossRun dt (.reading a)) s (fun t =>
        t.steer.mode = .centring ∧ t.steer.solenoid = true ∧ t.steer.line = s.steer.staged
        ∧ (s.advance dt).onlyChanges [.steer, .sup, .odo, .joint, .air, .doors] t))
    ∧ (s.steer.mode = .tracking → s.steer.notValid = 49 → s.track.status ≠ .valid →
        (s.steer.staged - a).natAbs ≤ 300 →
      completes (.notValidRun dt (.reading a)) s (fun t =>
        t.steer.mode = (if s.mustCentre = false ∧ s.jointUsable = true then SteerMode.guided else SteerMode.centring)
        ∧ t.steer.line = s.steer.staged ∧ t.steer.docking = 0 ∧ (s.advance dt).onlyChanges [.steer, .sup, .odo, .joint, .air, .doors] t))
    ∧ (s.steer.mode = .guided → s.steer.guidedExit = 99 → s.track.status = .valid → s.odo.borrowTime = 0 →
        s.ownAlert = false → s.mustCentre = false → s.jointUsable = true → (s.steer.staged - a).natAbs ≤ 300 →
      completes (.guidedExitRun dt (.reading a)) s (fun t =>
        t.steer.mode = .tracking ∧ t.steer.solenoid = true ∧ t.steer.line = s.steer.staged
        ∧ (s.advance dt).onlyChanges [.steer, .sup, .odo, .joint, .air, .doors] t))
    ∧ (s.steer.mode = .centring → s.steer.centred = 9 → s.steer.applied = 0 → s.steer.staged = 0 →
        s.steer.travel < 199 → a.natAbs ≤ 50 →
      completes (.centredRun dt (.reading a)) s (fun t =>
        t.steer.mode = .locked ∧ t.steer.solenoid = false ∧ t.steer.staged = 0 ∧ t.steer.applied = 0
        ∧ (s.advance dt).onlyChanges [.steer, .sup, .odo, .joint, .air, .doors] t))
    ∧ (s.steer.mode = .locked ∨ (s.steer.staged - a).natAbs ≤ 300 ∨ s.steer.mismatch < 19 →
        (s.steer.mode = .centring → s.steer.travel < 199) →
      completes (.steeringExpiry dt (.reading a)) s (fun t =>
        (s.steer.mode = .locked →
          t.steer.mode =
            (if 50 < a.natAbs ∧ 9 ≤ s.steer.lockLoss then SteerMode.centring
            else if s.runOrDegraded = true ∧ s.driverUsable = true ∧ s.odo.direction = .forward
              ∧ s.track.status = .valid ∧ a.natAbs ≤ 50 ∧ s.odo.borrowTime ≤ 3000 ∧ ¬s.jointAlerts
              ∧ ¬s.calledToCentre then .tracking
            else .locked)
          ∧ t.steer.solenoid = (if t.steer.mode = .locked then s.steer.solenoid else true)
          ∧ (t.steer.mode = .locked → t.steer.lockLoss = if 50 < a.natAbs then s.steer.lockLoss + 1 else 0))
        ∧ (s.steer.mode = .tracking →
          t.steer.mode =
            (if s.calledToCentre then SteerMode.centring
            else if (s.track.status ≠ .valid ∧ 49 ≤ s.steer.notValid) ∨ 3000 < s.odo.borrowTime ∨ s.jointAlerts then
              (if s.jointServes then .guided else .centring)
            else .tracking)
          ∧ t.steer.solenoid = (if t.steer.mode = .centring then true else s.steer.solenoid)
          ∧ t.steer.notValid =
            (if t.steer.mode = .tracking ∧ s.track.status ≠ .valid then s.steer.notValid + 1 else 0)
          ∧ (t.steer.mode = .guided → t.steer.guidedExit = 0))
        ∧ (s.steer.mode = .guided →
          t.steer.mode =
            (if s.calledToCentre ∨ ¬s.jointServes then SteerMode.centring
            else if s.track.status = .valid ∧ s.odo.borrowTime = 0 ∧ ¬s.jointAlerts ∧ 99 ≤ s.steer.guidedExit then .tracking
            else .guided)
          ∧ t.steer.solenoid = (if t.steer.mode = .guided then s.steer.solenoid else true)
          ∧ t.steer.guidedExit =
            (if t.steer.mode = .guided ∧ s.track.status = .valid ∧ s.odo.borrowTime = 0 ∧ ¬s.jointAlerts then
              s.steer.guidedExit + 1
            else 0)
          ∧ (t.steer.mode = .tracking → t.steer.notValid = 0))
        ∧ (s.steer.mode = .centring →
          t.steer.mode =
            (if s.steer.applied = 0 ∧ a.natAbs ≤ 50 ∧ 9 ≤ s.steer.centred then SteerMode.locked else .centring)
          ∧ t.steer.solenoid = (if t.steer.mode = .locked then false else s.steer.solenoid)
          ∧ t.steer.centred =
            (if t.steer.mode = .centring ∧ s.steer.applied = 0 ∧ a.natAbs ≤ 50 then s.steer.centred + 1 else 0))
        ∧ (s.advance dt).onlyChanges [.steer, .sup, .odo, .joint, .air, .doors] t))

/-- Both STEER_MISMATCH tests end in FAILED, and the condition with it (R88, R97). The rows are their whole expiry and
the travel counts from 1, by the model's choice (notes/assumptions/3.md, 10.md). -/
def Obligations.steer_mismatch_ends_in_failed : Prop :=
  ∀ (dt : Micros) (s : State) (a : Int),
    s.working = true → s.isSteered = true → -9000 ≤ a → a ≤ 9000 →
    (s.steer.mode = .tracking ∨ s.steer.mode = .guided → s.steer.mismatch = 19 → 300 < (s.steer.staged - a).natAbs →
      completes (.steerMismatch dt (.reading a)) s (fun t =>
        t.steer.mode = .failed ∧ t.steer.failedLatch = true ∧ t.steer.solenoid = false ∧ t.steer.line = 0
        ∧ t.steer.staged = 0 ∧ t.hasCondition .steerMismatch = false
        ∧ (s.sup.faults.length < 15 → ∃ x ∈ t.sup.faults, x.code = .steerMismatch)
        ∧ (s.advance dt).onlyChanges [.steer, .sup, .odo, .joint, .air, .doors] t))
    ∧ (s.steer.mode = .centring → s.steer.travel = 199 →
      completes (.centringTravelTimeout dt (.reading a)) s (fun t =>
        t.steer.mode = .failed ∧ t.steer.failedLatch = true ∧ t.steer.solenoid = false ∧ t.steer.line = 0
        ∧ t.steer.staged = 0 ∧ t.hasCondition .steerMismatch = false
        ∧ (s.sup.faults.length < 15 → ∃ x ∈ t.sup.faults, x.code = .steerMismatch)
        ∧ (s.advance dt).onlyChanges [.steer, .sup, .odo, .joint, .air, .doors] t))

/-! ## Joint monitor -/

/-- The measured articulation, the expected one and the deviation, the damper demand and the fold flag of one expiry; in
LIMP the sensor is read and tested alone (R102, R103, R104, R108, R109, R110). The law of R103 is the model's fixed-point
one (notes/assumptions/6.md). -/
def Obligations.joint_expiry_measures_expects_and_damps : Prop :=
  ∀ (dt : Micros) (s : State) (p : Params) (a : Int),
    s.loader.copy = some p → s.ownsJoint = true → s.sup.windowFrom = none →
    (s.working = true →
      (-9000 ≤ a → a ≤ 9000 →
        completes (.jointMonitorExpiry dt (.reading a)) s (fun t =>
          t.joint.measured = a ∧ t.hasCondition .jointSensor = false
          ∧ t.joint.damper =
            some (if t.joint.jackAlert then 100 else min 100 (20 + roundNat s.odo.reference 20))
          ∧ t.joint.fold = (if 5200 ≤ a.natAbs then true else if a.natAbs < 5000 then false else s.joint.fold)
          ∧ t.joint.expected =
            (match s.lookAhead (roundNat p.steerLever 2), s.lookAhead p.steerLever,
                s.lookAhead (p.steerLever + roundNat p.jointLever 2) with
              | some mid, some joint, some far =>
                if mid.shortfall ≤ 200 ∧ joint.shortfall ≤ 200 ∧ far.shortfall ≤ 200 ∧ s.track.starvingSoon = false then
                  some (expectedArticulation p.steerLever p.jointLever mid.curvature far.curvature)
                else none
              | _, _, _ => none)
          ∧ t.joint.deviation = t.joint.expected.map (fun e => max (-9000) (min 9000 (a - e)))
          ∧ (s.advance dt).onlyChanges [.joint, .link, .sup, .doors] t))
      ∧ ∀ joint : AnalogIn, faultyReading (-9000) 9000 joint → s.hasCondition .jointSensor = false →
          s.protectedManoeuvre = false → s.inEffect .jointSensor = false →
        completes (.jointMonitorExpiry dt joint) s (fun t =>
          t.joint.measured = 0 ∧ t.hasCondition .jointSensor = true ∧ t.joint.protectionOff = true
          ∧ t.joint.jackAlert = false ∧ t.joint.deviation = none ∧ t.joint.fold = s.joint.fold
          ∧ (s.advance dt).onlyChanges [.joint, .link, .sup, .doors] t))
    ∧ (s.sup.mode = .limp →
      (-9000 ≤ a → a ≤ 9000 →
        completes (.jointMonitorExpiry dt (.reading a)) s (fun t =>
          t.joint = { s.joint with measured := a } ∧ t.hasCondition .jointSensor = false
          ∧ (s.advance dt).onlyChanges [.joint, .sup, .doors] t))
      ∧ ∀ joint : AnalogIn, faultyReading (-9000) 9000 joint →
        completes (.jointMonitorExpiry dt joint) s (fun t =>
          t.joint.measured = 0 ∧ t.hasCondition .jointSensor = true ∧ t.joint.expected = s.joint.expected
          ∧ t.joint.deviation = s.joint.deviation ∧ t.joint.damper = s.joint.damper ∧ t.joint.fold = s.joint.fold
          ∧ (s.advance dt).onlyChanges [.joint, .sup, .doors] t))

/-- The set run of 3 sets the jack alert and queues its ALERT, and the clear run of 20 clears it (R105, R106). Each
row is its whole expiry, by the model's choice (notes/assumptions/3.md). -/
def Obligations.jack_alert_sets_and_clears : Prop :=
  ∀ (dt : Micros) (s : State) (p : Params) (a e : Int),
    s.working = true → s.ownsJoint = true → s.loader.copy = some p → s.sup.windowFrom = none →
    s.joint.protectionOff = false → -9000 ≤ a → a ≤ 9000 →
    (s.joint.jackAlert = false → s.joint.setRun = 2 → s.expectedNow p = some e → 500 < s.odo.reference →
        p.jackThreshold < (max (-9000) (min 9000 (a - e))).natAbs →
      completes (.jackAlertSetRun dt (.reading a)) s (fun t =>
        t.joint.jackAlert = true ∧ t.joint.clearRun = 0 ∧ t.joint.damper = some 100
        ∧ (t.link.alerts.getLast?).map (fun q => q.frame.payload) =
          some (encodeAlert { kind := .jackknife, station := s.station, slot := 255,
                              value := max (-9000) (min 9000 (a - e)) })
        ∧ (s.advance dt).onlyChanges [.joint, .link, .sup, .odo, .air, .doors] t))
    ∧ (s.joint.jackAlert = true → s.joint.clearRun = 19 →
        s.odo.reference ≤ 300
          ∨ s.expectedNow p = some e ∧ (max (-9000) (min 9000 (a - e))).natAbs < roundNat p.jackThreshold 2 →
      completes (.jackAlertClearRun dt (.reading a)) s (fun t =>
        t.joint.jackAlert = false ∧ t.joint.setRun = 0 ∧ t.link = s.link
        ∧ t.joint.damper = some (min 100 (20 + roundNat s.odo.reference 20))
        ∧ (s.advance dt).onlyChanges [.joint, .link, .sup, .odo, .air, .doors] t))

/-! ## Braking -/

/-- Outside backup, with the pressure following, one expiry puts the staged pressure on the line and stages p_c =
min(p_max, max(p_d, halt contribution)) (R113, R115 to R120). -/
def Obligations.brake_pressure_law : Prop :=
  ∀ (dt : Micros) (s : State) (p : Params) (c : DriverContent) (v : Nat),
    s.working = true → s.loader.copy = some p → s.brake.backup = false → s.driverContent = some c →
    v ≤ 1000 → v ≤ s.brake.staged + 80 → s.brake.staged ≤ v + 80 →
    completes (.brakingExpiry dt (.reading v)) s (fun t =>
      t.brake.line = s.brake.staged ∧ t.brake.select = true ∧ t.brake.measured = v ∧ t.brake.backup = false
      ∧ t.brake.demand = c.demand
      ∧ t.brake.load = (if c.demand = 0 then s.air.axleLoad else s.brake.load)
      ∧ t.brake.jackReduction = (s.advance dt).reductionNow p
      ∧ t.brake.halt =
        (match s.doors.halt with
          | .applying | .applied => p.haltPressure
          | .releasing => if s.doors.anyRelease then p.haltPressure else s.brake.halt - 50
          | .off => if s.doors.anyRelease then p.haltPressure else 0)
      ∧ (∃ full : Nat,
          full = (if c.demand = 0 then 0
                  else p.threshold + roundNat (roundNat (t.brake.load * c.demand) 100) p.gain)
          ∧ t.brake.commanded = min p.maxPressure (max t.brake.halt
              (if (s.advance dt).reductionNow p = true ∧ 0 < full then p.threshold + roundNat (full - p.threshold) 2 else full)))
      ∧ t.brake.staged = t.brake.commanded
      ∧ (s.advance dt).onlyChanges [.brake, .sup, .odo, .joint, .air, .doors] t)

/-- A faulty pressure input, and a pressure that does not follow for 300 ms, latch backup with its entry's effects
(R125, R126, R127, R163). BRAKE_PRESSURE_MISMATCH is its whole expiry, by the model's choice (notes/assumptions/3.md).
-/
def Obligations.brake_faults_latch_backup : Prop :=
  ∀ (dt : Micros) (s : State) (v : Int), s.working = true → s.hasCopy = true → s.brake.backup = false →
    s.brake.latched = none →
    (∀ pressure : AnalogIn, faultyReading 0 1000 pressure → s.hasCondition .brakeSensor = false →
      completes (.brakingExpiry dt pressure) s (fun t =>
        t.brake.backup = true ∧ t.brake.latched = some .brakeSensor ∧ t.hasCondition .brakeSensor = true
        ∧ t.brake.select = false ∧ t.brake.line = 0 ∧ t.brake.staged = 0 ∧ t.brake.commanded = 0
        ∧ t.brake.measured = 0 ∧ t.brake.slipL.state = .free ∧ t.brake.slipR.state = .free ∧ t.doors.halt = .off
        ∧ t.doors.anyRelease = false ∧ t.doors.anyGrant = false
        ∧ (s.advance dt).onlyChanges [.brake, .sup, .odo, .joint, .air, .doors] t))
    ∧ (0 ≤ v → v ≤ 1000 → s.brake.mismatchRun = 29 → 80 < (v - s.brake.staged).natAbs →
        ((s.brake.staged : Int) - s.brake.mismatchReference).natAbs ≤ 20 →
      completes (.brakePressureMismatch dt (.reading v)) s (fun t =>
        t.brake.backup = true ∧ t.brake.latched = some .pressureMismatch
        ∧ t.hasCondition .brakePressureMismatch = false
        ∧ t.brake.select = false ∧ t.brake.line = 0 ∧ t.brake.staged = 0 ∧ t.brake.commanded = 0
        ∧ t.brake.measured = v ∧ t.brake.slipL.state = .free ∧ t.brake.slipR.state = .free ∧ t.doors.halt = .off
        ∧ t.doors.anyRelease = false ∧ t.doors.anyGrant = false
        ∧ (s.advance dt).onlyChanges [.brake, .sup, .odo, .joint, .air, .doors] t))

/-- The moves of both slip records at an expiry and the lines they leave (R121 to R124); a REAPPLY record ends in FREE
after its ten steps (R123), and backup by its driver-lost cause alone ends after 1 s of driver content (R128). The last
two rows are their whole expiry, by the model's choice (notes/assumptions/3.md). -/
def Obligations.slip_records_move_and_backup_ends : Prop :=
  ∀ (dt : Micros) (s : State) (p : Params), s.working = true → s.loader.copy = some p →
    (∀ pressure : AnalogIn,
      completes (.brakingExpiry dt pressure) s (fun t =>
        (∀ side : Side,
          (t.brake.slip side).previous = (s.odo.wheel side).speed
          ∧ (t.brake.backup = true ∨ t.brake.commanded = 0 ∨ s.odo.reference < 150 ∨ (s.odo.wheel side).excluded = true →
              (t.brake.slip side).state = .free ∧ (t.brake.slip side).steps = 0 ∧ (t.brake.slip side).phase = 0)
          ∧ (t.brake.backup = false → 0 < t.brake.commanded → 150 ≤ s.odo.reference →
              (s.odo.wheel side).excluded = false →
              (t.brake.slip side).state =
                (match (s.brake.slip side).state with
                  | .free =>
                    if p.slipEntry ≤ slipOf s.odo.reference (s.odo.wheel side).speed then SlipState.dump else .free
                  | .dump =>
                    if slipOf s.odo.reference (s.odo.wheel side).speed < p.slipExit
                      ∨ (s.brake.slip side).previous < (s.odo.wheel side).speed then .hold
                    else .dump
                  | .hold =>
                    if slipOf s.odo.reference (s.odo.wheel side).speed < p.slipExit then .reapply
                    else if p.slipEntry ≤ slipOf s.odo.reference (s.odo.wheel side).speed
                      ∧ (s.odo.wheel side).speed ≤ (s.brake.slip side).previous then .dump
                    else .hold
                  | .reapply =>
                    if p.slipEntry ≤ slipOf s.odo.reference (s.odo.wheel side).speed then .dump
                    else if (s.brake.slip side).phase = 0 ∧ 10 ≤ (s.brake.slip side).steps then .free
                    else .reapply)
              ∧ ((t.brake.slip side).state = .reapply → (s.brake.slip side).state = .hold →
                  (t.brake.slip side).steps = 1 ∧ (t.brake.slip side).phase = 1 ∧ (t.brake.slip side).holdLine = false)
              ∧ ((t.brake.slip side).state = .reapply → (s.brake.slip side).state = .reapply →
                  (t.brake.slip side).steps =
                    (if (s.brake.slip side).phase = 0 then (s.brake.slip side).steps + 1 else (s.brake.slip side).steps)
                  ∧ (t.brake.slip side).phase =
                    (if (s.brake.slip side).phase = 2 then 0 else (s.brake.slip side).phase + 1)
                  ∧ (t.brake.slip side).holdLine = decide ((s.brake.slip side).phase ≠ 0)))
          ∧ ((t.brake.slip side).state = .free → (t.brake.slip side).holdLine = false)
          ∧ ((t.brake.slip side).state = .dump ∨ (t.brake.slip side).state = .hold → (t.brake.slip side).holdLine = true)
          ∧ (t.brake.slip side).dumpLine = decide ((t.brake.slip side).state = .dump))
        ∧ (s.advance dt).onlyChanges [.brake, .sup, .odo, .joint, .air, .doors] t))
    ∧ (∀ (side : Side) (pressure : AnalogIn),
      (s.brake.slip side).state = .reapply → (s.brake.slip side).phase = 0 → 10 ≤ (s.brake.slip side).steps →
      slipOf s.odo.reference (s.odo.wheel side).speed < p.slipEntry →
      completes (.slipReapplyDone dt side pressure) s (fun t =>
        (t.brake.slip side).state = .free ∧ (t.brake.slip side).holdLine = false
        ∧ (t.brake.slip side).dumpLine = false ∧ (t.brake.slip side).previous = (s.odo.wheel side).speed
        ∧ (s.advance dt).onlyChanges [.brake, .sup, .odo, .joint, .air, .doors] t))
    ∧ ∀ v : Nat, v ≤ 1000 → s.brake.backup = true → s.brake.driverLost = true → s.brake.latched = none →
        s.driverUsable = true → s.brake.exitRun = 99 →
        completes (.backupExitRun dt (.reading v)) s (fun t =>
          t.brake.backup = false ∧ t.brake.driverLost = false ∧ t.brake.exitRun = 0 ∧ t.brake.measured = v
          ∧ (s.advance dt).onlyChanges [.brake, .sup, .odo, .joint, .air, .doors] t)

/-! ## Emission -/

/-- The token sequence and Table 2.4: a successor is (2t mod 16) plus the exclusive-or of the bits of value 8 and 4,
every value is reached from every other, fifteen steps return, and each START seeds the token with the station number,
1 for a strap value of 0 (R22). -/
def Obligations.token_sequence : Prop :=
  (∀ t, 1 ≤ t → t ≤ 15 → 1 ≤ tokenSuccessor t ∧ tokenSuccessor t ≤ 15
    ∧ tokenSuccessor t = 2 * t % 16 + (Nat.xor (t / 8 % 2) (t / 4 % 2))
    ∧ some (tokenSuccessor t) = [2, 4, 6, 9, 11, 13, 15, 1, 3, 5, 7, 8, 10, 12, 14][t - 1]?)
  ∧ (∀ t, 1 ≤ t → t ≤ 15 → ∀ x, 1 ≤ x → x ≤ 15 → ∃ n, n < 15 ∧ tokenSuccessor^[n] t = x)
  ∧ (∀ t, 1 ≤ t → t ≤ 15 → tokenSuccessor^[15] t = t)
  ∧ (∀ (dt : Micros) (r : StartReading) (s : State), s.sup.power = .on → s.sup.mode = .start →
      completes (.startComplete dt r) s (fun t => t.link.token = if r.strap.toNat = 0 then 1 else r.strap.toNat))
  ∧ ∀ s : State, s.startLink.link.token = (if s.station = 0 then 1 else s.station)

/-- A STATE frame is queued with the current token and the token advances; an expiry in LISTEN, START or RESTART
queues nothing and consumes no token (R23). -/
def Obligations.state_emission_queues_and_advances : Prop :=
  ∀ (dt : Micros) (s : State),
    (s.timersRun = true → s.link.state = .active ∨ s.link.state = .silent →
      completes (.stateEmission dt) s (fun t =>
        t.link.stateFrame.map (fun q => q.frame) =
          some { identifier := 24 + s.station, payload := encodeState s.assembleState }
        ∧ t.link.stateFrame.map (fun q => byteAt q.frame.payload 0) = some ((s.link.token + 16 * s.station) % 256)
        ∧ t.link.token = tokenSuccessor s.link.token
        ∧ t.link.alerts = s.link.alerts ∧ t.link.driver = s.link.driver ∧ t.link.paths = s.link.paths
        ∧ t.link.answer = s.link.answer ∧ (s.advance dt).onlyChanges [.link] t))
    ∧ (s.timersRun = false ∨ s.link.state = .listen ∨ s.link.state = .stopped →
        exec (.stateEmission dt) s = .next (s.advance dt))

/-- The cab's DRIVER emission: the pedal is read and tested, and a sound one sends a frame that becomes the cab's own
content, but in LIMP (R9, R24, R30, R41, R114). -/
def Obligations.driver_emission_sends_or_tests : Prop :=
  ∀ (dt : Micros) (s : State) (lines : DriverLines), s.isCab = true →
    (∀ travel : Nat, s.working = true → travel ≤ 1000 → lines.pedal = .reading travel → s.link.state = .active ∨ s.link.state = .silent →
      completes (.driverEmission dt lines) s (fun t =>
        ∃ c : DriverContent,
          c = { demand := if travel < 50 then 0 else roundNat (650 * (travel - 50)) 950
                direction := lines.direction, level := lines.level, driveIntent := lines.driveIntent
                haltSwitch := lines.haltSwitch, doorMask := lines.doorSwitches.toNat, docking := lines.docking
                angleValid := !s.hasCondition .steerInput
                curvature := if s.hasCondition .steerInput then 0 else s.path.curvature
                frontAngle := if s.hasCondition .steerInput then 0 else s.path.frontAngle }
          ∧ t.link.driver.map (fun q => q.frame) = some { identifier := 8 + s.station, payload := encodeDriver c }
          ∧ t.driver = { content := some c, since := s.now + dt, status := .fresh }
          ∧ t.hasCondition .pedalInput = false ∧ t.hasCondition .cabLost = false
          ∧ (s.advance dt).onlyChanges [.driver, .link, .sup, .odo, .joint, .air, .doors] t))
    ∧ (∀ travel : Nat, s.sup.mode = .limp → travel ≤ 1000 → lines.pedal = .reading travel →
        completes (.driverEmission dt lines) s (fun t =>
          t.hasCondition .pedalInput = false ∧ (s.advance dt).onlyChanges [.sup, .odo, .joint, .air, .doors] t))
    ∧ (s.timersRun = true → faultyReading 0 1000 lines.pedal →
        completes (.driverEmission dt lines) s (fun t =>
          t.hasCondition .pedalInput = true ∧ (s.advance dt).onlyChanges [.sup, .odo, .joint, .air, .doors] t))

/-! ## Doors -/

/-- For each slot: a locked door that opens without a release, the grant of a release, the release itself, and no release
line energised without a grant or while the gate forbids it (R156, R157, R164, R166). Every row of Table 9.2, by the line
as step 1 leaves it and the input of step 2; the grant given or withdrawn on the halt state that step 4 leaves; and the
traction inhibit and speed limit lines (R156, R164 to R168). The edge states, and the ALERTs DOOR_UNRELEASED and EDGE of
both slots (R15, R157); in LIMP step 2 alone (R169). Two doors that open unreleased at one expiry raise
DOOR_UNRELEASED twice (R157, R183). The halt state moves by R160 to R162, on the hold reasons that the
doors and the known stations give once the door inputs are read (R158, R159). That RELEASING is tested before APPLIED,
that a record whose line drops at step 1 moves by its input as last read, and the order of one expiry's ALERTs are the
model's choices (notes/assumptions/13.md, 14.md, 43.md). -/
def Obligations.doors_open_by_grant_and_halt_brake_moves : Prop :=
  ∀ (dt : Micros) (s : State) (p : Params) (inputs : DoorInputs) (k : Fin 2), s.loader.copy = some p →
    (s.sup.mode = .limp → (∀ j : Fin 2, (s.doors.slot j).release = false) → s.link.alerts.length ≤ 2 →
      completes (.doorInterlockExpiry dt inputs) s (fun t =>
        (∀ j : Fin 2, t.doors.slot j =
          (s.doors.slot j).afterReading (s.doors.slot j).state false (doorInput inputs j) (edgeInput inputs j))
        ∧ t.doors = { s.doors with slot0 := t.doors.slot0, slot1 := t.doors.slot1 }
        ∧ s.link.tookAlerts t.link
          (slotAlerts s.station 0 s.doors.slot0.state t.doors.slot0.state s.doors.slot0.edge t.doors.slot0.edge
          ++ slotAlerts s.station 1 s.doors.slot1.state t.doors.slot1.state s.doors.slot1.edge t.doors.slot1.edge)
        ∧ t.hasCondition .doorUnreleased = t.doors.anyUnreleased
        ∧ (s.advance dt).onlyChanges [.doors, .link, .sup, .odo, .joint, .air] t))
    ∧ (s.working = true →
    ((s.doors.slot k).state = .locked → (s.doors.slot k).release = false → (s.doors.slot k).grant = false →
        doorInput inputs k ≠ .on →
      completes (.doorInterlockExpiry dt inputs) s (fun t =>
        (t.doors.slot k).state = .unreleasedOpen ∧ (t.doors.slot k).release = false ∧ (t.doors.slot k).grant = false
        ∧ t.hasCondition .doorUnreleased = true ∧ (s.advance dt).onlyChanges [.doors, .link, .sup, .odo, .joint, .air] t))
    ∧ (s.runOrDegraded = true → s.odo.standstill = true → s.doors.halt = .applied → s.cabPresent = true →
        s.driverUsable = true → (∀ x ∈ s.presentContents, x.2.held = true) →
        1 ≤ s.station → s.station ≤ p.axles →
        (s.driverField DriverContent.doorMask 0).testBit (2 * (s.station - 1) + k) = true →
        (s.doors.slot k).state = .locked → (s.doors.slot k).release = false → (s.doors.slot k).grant = false →
        doorInput inputs k = .on →
      completes (.doorInterlockExpiry dt inputs) s (fun t =>
        (t.doors.slot k).grant = true ∧ (t.doors.slot k).state = .locked ∧ (t.doors.slot k).release = false
        ∧ t.doors.halt = .applied ∧ t.doors.tractionInhibit = .asserted
        ∧ (s.advance dt).onlyChanges [.doors, .link, .sup, .odo, .joint, .air] t))
    ∧ (s.releaseGate = true → (s.doors.slot k).grant = true → (s.doors.slot k).gatedOff = false →
        (s.doors.slot k).state = .locked → doorInput inputs k = .on →
      completes (.doorInterlockExpiry dt inputs) s (fun t =>
        (t.doors.slot k).release = true ∧ (t.doors.slot k).state = .released ∧ t.doors.halt = .applied
        ∧ (s.advance dt).onlyChanges [.doors, .link, .sup, .odo, .joint, .air] t))
    ∧ ((s.doors.slot k).grant = false ∨ s.releaseGate = false →
      completes (.doorInterlockExpiry dt inputs) s (fun t =>
        (t.doors.slot k).release = false ∧ (s.advance dt).onlyChanges [.doors, .link, .sup, .odo, .joint, .air] t))
    ∧ ((∀ j : Fin 2, (s.doors.slot j).state = .locked ∧ (s.doors.slot j).release = false
          ∧ (s.doors.slot j).grant = false ∧ doorInput inputs j ≠ .on) →
        s.sup.faults.length = 16 → (∀ x ∈ s.sup.faults, x.state ≠ .passive ∧ x.code ≠ .doorUnreleased) →
      completes (.doorInterlockExpiry dt inputs) s (fun t =>
        t.sup.overflow = min 255 (s.sup.overflow + 2) ∧ t.sup.listFull = true
        ∧ (s.advance dt).onlyChanges [.doors, .link, .sup, .odo, .joint, .air] t))
    ∧ (∀ energised : Bool, (energised = true ↔ s.energises k) → ∀ record : DoorState,
        record = ((s.doors.slot k).afterLine energised).afterInput energised (decide (doorInput inputs k = .on)) →
      completes (.doorInterlockExpiry dt inputs) s (fun t =>
        (t.doors.slot k).release = energised ∧ (t.doors.slot k).state = record
        ∧ ((s.doors.slot k).grant = true →
            ((t.doors.slot k).grant = false ↔
              s.driverContent.any (fun c => c.doorMask.testBit (2 * (s.station - 1) + k)) = false
              ∨ s.odo.standstill = false ∨ s.cabPresent = false ∨ s.driverUsable = false ∨ t.doors.halt ≠ .applied
              ∨ s.runOrDegraded = false ∨ (s.doors.slot k).gatedOff = true))
        ∧ ((s.doors.slot k).grant = false →
            ((t.doors.slot k).grant = true ↔
              s.driverContent.any (fun c => c.doorMask.testBit (2 * (s.station - 1) + k)) = true ∧ record = .locked
              ∧ s.odo.standstill = true ∧ t.doors.halt = .applied ∧ (∀ x ∈ s.presentContents, x.2.held = true)
              ∧ s.cabPresent = true ∧ s.driverUsable = true ∧ s.runOrDegraded = true))
        ∧ t.doors.tractionInhibit = (if t.tractionHeld p then .asserted else .released)
        ∧ t.doors.speedLimit = (if t.sup.mode = .degraded then .asserted else .released)
        ∧ ((s.doors.slot k).state ≠ .none →
            (t.doors.slot k).edge = decide (edgeInput inputs k ≠ .off)
            ∧ (t.doors.slot k).closed = decide (doorInput inputs k = .on))
        ∧ ((s.doors.slot k).state = .none → (t.doors.slot k).edge = (s.doors.slot k).edge)
        ∧ (s.link.alerts.length ≤ 2 → s.link.tookAlerts t.link
          (slotAlerts s.station 0 (s.doors.slot0.afterLine (decide (s.energises 0))) t.doors.slot0.state
            s.doors.slot0.edge t.doors.slot0.edge
          ++ slotAlerts s.station 1 (s.doors.slot1.afterLine (decide (s.energises 1))) t.doors.slot1.state
            s.doors.slot1.edge t.doors.slot1.edge))
        ∧ t.hasCondition .doorUnreleased = t.doors.anyUnreleased
        ∧ (s.advance dt).onlyChanges [.doors, .link, .sup, .odo, .joint, .air] t))
    ∧ ∀ u : State, u = (s.advance dt).outputDoors.readDoors inputs →
      completes (.doorInterlockExpiry dt inputs) s (fun t =>
        (s.doors.halt = .off →
          (s.odo.standstill = true ∧ s.brake.backup = false ∧ u.heldStill p → t.doors.halt = .applying)
          ∧ (s.odo.standstill = false ∨ s.brake.backup = true ∨ ¬u.heldStill p → t.doors.halt = .off))
        ∧ (s.doors.halt = .applying ∨ s.doors.halt = .applied →
          (u.freeToGo p → t.doors.halt = .releasing)
          ∧ (¬u.freeToGo p →
              t.doors.halt =
                if s.doors.halt = .applied ∨ p.haltPressure ≤ s.brake.measured + 30 then HaltState.applied else .applying))
        ∧ (s.doors.halt = .releasing →
          (u.heldStill p → t.doors.halt = .applying)
          ∧ (¬u.heldStill p → t.doors.halt = if s.brake.halt = 0 then HaltState.off else .releasing))
        ∧ (s.advance dt).onlyChanges [.doors, .link, .sup, .odo, .joint, .air] t))

/-! ## Air and levelling -/

/-- Step 1 to 3 of a levelling expiry. With sound inputs: the pressures, the air status of the table of R134, and the axle
load while the demand is 0 (R133, R134, R149, R150). With a faulty one: the reservoir pressure is 0 under RESERVOIR_SENSOR
and the air status is kept until the latch (R133); a bellows pressure is kept under BELLOWS_SENSOR and the other one, or the
laden default, weighs for it (R149); a height is kept under its OPEN_SHORT or RANGE with its channel IDLE and its corner
excluded, and a sound height ends the condition and not the exclusion (R137). A consequence takes effect at once, or is
pending during a protected manoeuvre (R180). -/
def Obligations.levelling_weighs_and_judges_air : Prop :=
  (∀ (dt : Micros) (s : State) (p : Params) (inputs : LevelInputs) (res left right : Nat),
    s.timersRun = true → s.loader.copy = some p → s.sup.windowFrom = none → s.sup.deferred = [] →
    res ≤ 1000 → left ≤ 1000 → right ≤ 1000 →
    inputs.reservoir = .reading res → inputs.bellowsL = .reading left → inputs.bellowsR = .reading right →
    completes (.levellingExpiry dt inputs) s (fun t =>
      t.air.reservoir = res ∧ t.air.cornerL.bellows = left ∧ t.air.cornerR.bellows = right
      ∧ t.hasCondition .reservoirSensor = false ∧ t.hasCondition .bellowsSensor = false
      ∧ (s.brake.demand = 0 →
          t.air.axleLoad = p.unsprung + roundNat (10 * (left + right) * p.bellowsArea) 981)
      ∧ (s.brake.demand ≠ 0 → t.air.axleLoad = s.air.axleLoad)
      ∧ (s.air.reservoirLatch = false →
          t.air.air =
            if s.air.air = .protect ∧ res < p.releaseAt then AirStatus.protect
            else if s.air.air ≠ .protect ∧ res < p.protectAt then AirStatus.protect
            else if res < p.prewarnAt then AirStatus.prewarn
            else AirStatus.normal)
      ∧ (s.air.reservoirLatch = true → t.air.air = s.air.air)
      ∧ (s.advance dt).onlyChanges [.air, .sup, .odo, .joint, .doors] t))
  ∧ ∀ (dt : Micros) (s : State) (p : Params) (inputs : LevelInputs), s.timersRun = true → s.loader.copy = some p →
    (faultyReading 0 1000 inputs.reservoir →
      completes (.levellingExpiry dt inputs) s (fun t =>
        t.air.reservoir = 0 ∧ t.hasCondition .reservoirSensor = true
        ∧ (s.hasCondition .reservoirSensor = false → s.inEffect .reservoirSensor = false →
          (s.protectedManoeuvre = false → s.sup.windowFrom = none →
            t.air.reservoirLatch = true ∧ t.air.air = .protect ∧ t.inEffect .reservoirSensor = true)
          ∧ (s.protectedManoeuvre = true → t.protectedManoeuvre = true →
            t.air.reservoirLatch = s.air.reservoirLatch ∧ t.air.air = s.air.air ∧ .reservoirSensor ∈ t.sup.deferred))
        ∧ (s.hasCondition .reservoirSensor = true ∨ s.inEffect .reservoirSensor = true →
            s.sup.deferred = [] ∨ t.protectedManoeuvre = true →
          t.air.reservoirLatch = s.air.reservoirLatch ∧ t.air.air = s.air.air)
        ∧ (s.advance dt).onlyChanges [.air, .sup, .odo, .joint, .doors] t))
    ∧ completes (.levellingExpiry dt inputs) s (fun t =>
        (∀ side : Side,
          (faultyReading 0 1000 (bellowsInput inputs side) →
            (t.air.corner side).bellowsCondition = true ∧ (t.air.corner side).bellows = (s.air.corner side).bellows)
          ∧ (∀ v : Nat, v ≤ 1000 → bellowsInput inputs side = .reading v →
            (t.air.corner side).bellowsCondition = false ∧ (t.air.corner side).bellows = v
            ∧ (faultyReading 0 1000 (bellowsInput inputs (otherSide side)) → s.brake.demand = 0 →
                t.air.axleLoad = p.unsprung + roundNat (10 * (v + v) * p.bellowsArea) 981)))
        ∧ (t.hasCondition .bellowsSensor = true ↔
            faultyReading 0 1000 inputs.bellowsL ∨ faultyReading 0 1000 inputs.bellowsR)
        ∧ (faultyReading 0 1000 inputs.bellowsL → faultyReading 0 1000 inputs.bellowsR → s.brake.demand = 0 →
            t.air.axleLoad = p.ladenDefault)
        ∧ (s.advance dt).onlyChanges [.air, .sup, .odo, .joint, .doors] t)
    ∧ ∀ side : Side,
      (faultyReading 0 400 (heightInput inputs side) →
        completes (.levellingExpiry dt inputs) s (fun t =>
          (t.air.corner side).condition =
            some (if heightInput inputs side = .openShort then HeightCondition.openShort else .range)
          ∧ (t.air.corner side).height = (s.air.corner side).height ∧ t.hasCondition (heightFault side) = true
          ∧ (t.air.channel side).state = .idle ∧ (t.air.channel side).valveOpen = false
          ∧ (s.hasCondition (heightFault side) = false → s.inEffect (heightFault side) = false →
            (s.protectedManoeuvre = false → s.sup.windowFrom = none →
              (t.air.corner side).excluded = true ∧ t.air.kneelDisabled = true
              ∧ t.inEffect (heightFault side) = true)
            ∧ (s.protectedManoeuvre = true → t.protectedManoeuvre = true →
              (t.air.corner side).excluded = (s.air.corner side).excluded ∧ heightFault side ∈ t.sup.deferred))
          ∧ (s.advance dt).onlyChanges [.air, .sup, .odo, .joint, .doors] t))
      ∧ ∀ h : Nat, h ≤ 400 → heightInput inputs side = .reading h → (s.air.corner side).condition ≠ some .stuck →
          (s.air.corner side).stuckCount < 29 →
        completes (.levellingExpiry dt inputs) s (fun t =>
          (t.air.corner side).condition = none ∧ (t.air.corner side).height = h
          ∧ t.hasCondition (heightFault side) = false
          ∧ (s.sup.deferred = [] ∨ t.protectedManoeuvre = true →
              (t.air.corner side).excluded = (s.air.corner side).excluded)
          ∧ (s.advance dt).onlyChanges [.air, .sup, .odo, .joint, .doors] t)

/-- A corner whose valve stood open for 30 periods without movement is STUCK: its channel ends and its fault is raised
(R137). The row is its whole expiry, and the test's open points are the model's choice (notes/assumptions/3.md,
25.md). -/
def Obligations.height_stuck_ends_the_run : Prop :=
  ∀ (dt : Micros) (side : Side) (s : State) (p : Params) (inputs : LevelInputs) (h : Nat),
    s.timersRun = true → s.loader.copy = some p → h ≤ 400 →
    (match side with | .left => inputs.heightL | .right => inputs.heightR) = .reading h →
    (s.air.channel side).state = .filling ∨ (s.air.channel side).state = .exhausting →
    (s.air.channel side).kind = .continuous → (s.air.channel side).valveOpen = true →
    (s.air.corner side).condition = none → (s.air.corner side).stuckCount = 29 →
    h < (s.air.corner side).stuckReference + 3 → (s.air.corner side).stuckReference < h + 3 →
    completes (.heightStuck dt side inputs) s (fun t =>
      (t.air.corner side).condition = some .stuck ∧ (t.air.corner side).height = (s.air.corner side).height
      ∧ (t.air.channel side).state = .idle ∧ (t.air.channel side).valveOpen = false
      ∧ t.hasCondition (heightFault side) = true ∧ (s.advance dt).onlyChanges [.air, .sup, .odo, .joint, .doors] t)

/-- At an expiry in LEVEL or RAISED that stays there: a pulsed run starts, goes on or ends, and every one ends under a hold
(R138, R140, R142). At any expiry: the twist gate and its neighbours, for records that stand by station number, as every
step keeps them (R148). At one in a level state of continuous kind that stays there: a continuous run starts, goes on,
gated or not, is suspended, or ends (R135, R139, R148). Between expiries: a pulse end, a continuous run at its stop, and the kerb corner at the twist gate
(R138, R139, R148). That the height which the watch sees is not recorded, and that step 6 ends a run which stands with its
valve closed at its stop, are the model's choices (notes/assumptions/24.md, 26.md). -/
def Obligations.pulses_start_and_valves_close : Prop :=
  ∀ (dt : Micros) (s : State) (side : Side),
    (∀ (p : Params) (inputs : LevelInputs) (h res : Nat) (e : Int),
      s.working = true → s.loader.copy = some p → s.sup.windowFrom = none → s.sup.deferred = [] →
      s.air.level = .level ∨ s.air.level = .raised → h ≤ 400 → res ≤ 1000 →
      heightInput inputs side = .reading h → inputs.reservoir = .reading res →
      (s.air.corner side).excluded = false → (s.air.corner side).condition = none → (s.air.corner side).stuckCount < 29 →
      e = ((s.air.corner side).target : Int) - h →
      completes (.levellingExpiry dt inputs) s (fun t =>
        (t.air.level = s.air.level →
          (s.pulseHold p = true → (s.air.channel side).kind = .pulsed → (s.air.channel side).state ≠ .idle →
            (t.air.channel side).state = .idle ∧ (t.air.channel side).valveOpen = false)
          ∧ ((s.air.channel side).state = .idle →
            t.air.channel side =
              if s.pulseHold p = false ∧ p.deadband < e.natAbs
                ∧ (e < 0 ∨ (t.air.air ≠ .protect
                  ∧ (s.presentContents.filter (fun x => x.2.fillInProgress)).length < p.fillLimit)) then
                { s.air.channel side with
                  state := if 0 < e then .filling else .exhausting
                  kind := .pulsed
                  direction := if 0 < e then .fill else .exhaust
                  pulses := min 8 (ceilDiv e.natAbs p.pulseStep)
                  gated := false
                  valveOpen := true
                  pulseFrom := s.now + dt }
              else s.air.channel side)
          ∧ (s.pulseHold p = false → (s.air.channel side).kind = .pulsed →
              (s.air.channel side).state = .exhausting
                ∨ ((s.air.channel side).state = .filling ∧ s.air.air ≠ .protect ∧ t.air.air ≠ .protect) →
            ((e.natAbs ≤ p.deadband ∨ ((s.air.channel side).direction = .fill ∧ e < 0)
                ∨ ((s.air.channel side).direction = .exhaust ∧ 0 < e) →
              (t.air.channel side).state = .idle ∧ (t.air.channel side).valveOpen = false)
            ∧ (p.deadband < e.natAbs → ((s.air.channel side).direction = .fill ∧ 0 < e)
                ∨ ((s.air.channel side).direction = .exhaust ∧ e < 0) →
              t.air.channel side = { s.air.channel side with valveOpen := true, pulseFrom := s.now + dt }))))
        ∧ (s.advance dt).onlyChanges [.air, .sup, .odo, .joint, .doors] t))
    ∧ (∀ (p : Params) (inputs : LevelInputs), s.working = true → s.loader.copy = some p → s.peersOrdered →
      completes (.levellingExpiry dt inputs) s (fun t =>
        (t.air.level ≠ .kneeling → t.air.level ≠ .returning →
          t.air.gate = none ∧ t.air.gateBelow = none ∧ t.air.gateAbove = none)
        ∧ (t.air.level = .kneeling ∨ t.air.level = .returning →
          (t.air.gateBelow = none ∧ (∀ x ∈ s.presentContents, ¬s.nearestBelow x)
            ∨ ∃ x ∈ s.presentContents, s.nearestBelow x ∧ t.air.gateBelow = some x.1)
          ∧ (t.air.gateAbove = none ∧ (∀ x ∈ s.presentContents, ¬s.nearestAbove x)
            ∨ ∃ x ∈ s.presentContents, s.nearestAbove x ∧ t.air.gateAbove = some x.1)
          ∧ (t.air.gate = none ∧ (∀ x ∈ s.presentContents, ¬s.nearestBelow x ∧ ¬s.nearestAbove x)
            ∨ ∃ x ∈ s.presentContents, (s.nearestBelow x ∨ s.nearestAbove x)
              ∧ (∀ y ∈ s.presentContents, s.nearestBelow y ∨ s.nearestAbove y → x.2.kerbHeight p ≤ y.2.kerbHeight p)
              ∧ t.air.gate = some (if t.air.level = .kneeling then (x.2.kerbHeight p : Int) - p.twistLimit
                  else x.2.kerbHeight p + p.twistLimit)))
        ∧ (s.advance dt).onlyChanges [.air, .sup, .odo, .joint, .doors] t))
    ∧ (∀ (p : Params) (inputs : LevelInputs) (h res : Nat) (e : Int) (c : Channel),
      s.working = true → s.loader.copy = some p → s.sup.windowFrom = none ∨ s.protectedManoeuvre = true →
      s.air.level ≠ .level → s.air.level ≠ .raised → s.air.level ≠ .kneeled → s.air.level ≠ .kneelHeld →
      h ≤ 400 → res ≤ 1000 → heightInput inputs side = .reading h → inputs.reservoir = .reading res →
      (s.air.corner side).excluded = false → (s.air.corner side).condition = none → (s.air.corner side).stuckCount < 29 →
      e = ((s.air.corner side).target : Int) - h → c = s.air.channel side →
      completes (.levellingExpiry dt inputs) s (fun t =>
        (t.air.level = s.air.level →
          (c.state = .idle → e.natAbs ≤ 10 → t.air.channel side = c)
          ∧ (c.state = .idle → 10 < e.natAbs →
              (t.air.channel side).kind = .continuous
              ∧ (t.air.channel side).direction = (if 0 < e then FlowDirection.fill else .exhaust)
              ∧ (t.air.channel side).state =
                (if e < 0 then ChannelState.exhausting else if t.air.air = .protect then .suspended else .filling)
              ∧ ((t.air.channel side).state = .suspended → (t.air.channel side).valveOpen = false)
              ∧ ((t.air.channel side).state ≠ .suspended →
                  ((t.air.channel side).gated = true ↔
                    side = p.kerb ∧ t.air.holdsAtGate (t.air.channel side).direction h)
                  ∧ (t.air.channel side).valveOpen = !(t.air.channel side).gated))
          ∧ (c.kind = .continuous →
              (c.state = .exhausting
                ∨ (c.state = .filling ∧ s.air.air ≠ .protect ∧ t.air.air ≠ .protect)
                ∨ (c.state = .suspended ∧ s.air.air = .protect ∧ t.air.air ≠ .protect) →
                (c.direction.against e ∨ (c.valveOpen = false ∧ c.direction.atStop (s.air.corner side).target h) →
                  (t.air.channel side).state = .idle ∧ (t.air.channel side).valveOpen = false)
                ∧ (¬c.direction.against e → c.valveOpen = true ∨ ¬c.direction.atStop (s.air.corner side).target h →
                  ∀ held : Bool, (held = true ↔ side = p.kerb ∧ t.air.holdsAtGate c.direction h) →
                    t.air.channel side =
                      { c with state := if c.state = .exhausting then .exhausting else .filling
                               gated := held, valveOpen := !held }))
              ∧ ((c.state = .filling ∧ s.air.air ≠ .protect ∨ c.state = .suspended) ∧ t.air.air = .protect →
                (c.direction.against e ∨ c.direction.atStop (s.air.corner side).target h →
                  (t.air.channel side).state = .idle ∧ (t.air.channel side).valveOpen = false)
                ∧ (¬c.direction.against e → ¬c.direction.atStop (s.air.corner side).target h →
                  t.air.channel side =
                    if c.state = .suspended then c
                    else { c with state := .suspended, gated := false, valveOpen := false }))))
        ∧ (s.advance dt).onlyChanges [.air, .sup, .odo, .joint, .doors] t))
    ∧ ((s.air.channel side).state = .filling ∨ (s.air.channel side).state = .exhausting →
      (s.air.channel side).valveOpen = true →
      ((s.air.channel side).kind = .pulsed → ∀ p, s.loader.copy = some p →
        p.pulseWidth * 1000 ≤ s.now + dt - (s.air.channel side).pulseFrom →
        completes (.pulseEnd dt side) s (fun t =>
          (t.air.channel side).valveOpen = false ∧ (t.air.channel side).pulses = (s.air.channel side).pulses - 1
          ∧ (t.air.channel side).state =
            (if (s.air.channel side).pulses ≤ 1 then ChannelState.idle else (s.air.channel side).state)
          ∧ t.air.channel (otherSide side) = s.air.channel (otherSide side)
          ∧ (s.advance dt).onlyChanges [.air] t))
      ∧ ((s.air.channel side).kind = .continuous →
        (∀ h : Int,
          ((s.air.channel side).direction = .fill ∧ ((s.air.corner side).target : Int) - 5 ≤ h)
            ∨ ((s.air.channel side).direction = .exhaust ∧ h ≤ ((s.air.corner side).target : Int) + 5) →
          completes (.continuousStopReached dt side h) s (fun t =>
            (t.air.channel side).valveOpen = false ∧ (t.air.channel side).state = .idle
            ∧ t.air.channel (otherSide side) = s.air.channel (otherSide side)
            ∧ (s.advance dt).onlyChanges [.air] t))
        ∧ ∀ (p : Params) (g h : Int), s.loader.copy = some p →
          side = (if p.kerbSide = 1 then Side.left else Side.right) → s.air.gate = some g →
          (s.air.level = .kneeling ∧ (s.air.channel side).direction = .exhaust ∧ h ≤ g)
            ∨ (s.air.level = .returning ∧ (s.air.channel side).direction = .fill ∧ g ≤ h) →
          exec (.twistGateReached dt h) s =
            .next ((s.advance dt).setAir
              (s.air.setChannel side { s.air.channel side with gated := true, valveOpen := false }))))

/-- The level state moves by the rows of Table 8.6, with the targets of the state it enters and the runs that state
calls for (R139, R143 to R147); the kneel timer's 8 s end in KNEEL_HELD with KNEEL_TIMEOUT recorded, and 15 s of
unsuspended return raise RAISE_TIMEOUT while the return goes on (R146, R147). In the last two `side` names a corner that
has not reached its target. Their rows are whole expiries, and the counts, their order and that of two open moves are
the model's choice (notes/assumptions/3.md, 10.md, 11.md, 14.md). -/
def Obligations.level_state_moves_and_times_out : Prop :=
  ∀ (dt : Micros) (s : State) (p : Params) (inputs : LevelInputs) (res : Nat),
    s.working = true → s.loader.copy = some p → s.sup.windowFrom = none → res ≤ 1000 → inputs.reservoir = .reading res →
    (∀ left right : Nat, left ≤ 400 → right ≤ 400 → inputs.heightL = .reading left → inputs.heightR = .reading right →
      s.air.cornerL.condition = none → s.air.cornerR.condition = none → s.air.cornerL.stuckCount < 29 →
      s.air.cornerR.stuckCount < 29 → s.sup.deferred = [] →
      completes (.levellingExpiry dt inputs) s (fun t =>
        t.air.level =
          (match s.air.level with
            | .level =>
              if s.levelRequest = .raise ∧ s.odo.reference < 833 ∧ s.runOrDegraded = true
                ∧ s.air.cornerL.excluded = false ∧ s.air.cornerR.excluded = false then LevelState.raising
              else if s.levelRequest = .kneel ∧ s.odo.standstill = true ∧ s.doors.halt = .applied ∧ p.participant = 1
                ∧ s.air.kneelDisabled = false ∧ s.air.cornerL.excluded = false ∧ s.air.cornerR.excluded = false
                ∧ s.runOrDegraded = true then .kneeling
              else .level
            | .raising =>
              if s.levelRequest ≠ .raise ∨ 833 ≤ s.odo.reference then .descending
              else if s.air.cornerL.reached left ∧ s.air.cornerR.reached right then .raised
              else .raising
            | .raised => if s.levelRequest ≠ .raise ∨ 833 ≤ s.odo.reference then .descending else .raised
            | .descending => if s.air.cornerL.reached left ∧ s.air.cornerR.reached right then .level else .descending
            | .kneeling =>
              if s.levelRequest ≠ .kneel ∨ s.driverUsable = false ∨ s.odo.standstill = false then .returning
              else if s.air.cornerL.reached left ∧ s.air.cornerR.reached right then .kneeled
              else if s.neighbourLost = true ∨ s.air.kneelDisabled = true ∨ 79 ≤ s.air.kneelTimer then .kneelHeld
              else .kneeling
            | .kneeled =>
              if s.levelRequest ≠ .kneel ∨ s.driverUsable = false ∨ s.odo.standstill = false then .returning else .kneeled
            | .kneelHeld =>
              if s.levelRequest ≠ .kneel ∨ s.driverUsable = false ∨ s.odo.standstill = false then .returning
              else .kneelHeld
            | .returning => if s.air.cornerL.reached left ∧ s.air.cornerR.reached right then .level else .returning)
        ∧ (t.air.level ≠ s.air.level → ∀ (side : Side) (h : Nat), heightInput inputs side = .reading h →
            (t.air.corner side).target =
              (match t.air.level with
                | .level | .descending | .returning => p.driveHeight
                | .raising | .raised => p.driveHeight + p.raiseHeight
                | .kneeling | .kneeled | .kneelHeld =>
                  if side = (if p.kerbSide = 1 then Side.left else .right) then p.driveHeight - p.kneelDepth
                  else p.driveHeight - p.roadDepth)
            ∧ (t.air.level = .kneeled ∨ t.air.level = .kneelHeld ∨ (t.air.level ≠ .level ∧ t.air.level ≠ .raised
                ∧ (t.air.corner side).reached h = true) →
              (t.air.channel side).state = .idle ∧ (t.air.channel side).valveOpen = false)
            ∧ (t.air.level = .raising ∨ t.air.level = .descending ∨ t.air.level = .kneeling ∨ t.air.level = .returning →
                (t.air.corner side).reached h = false →
              (t.air.channel side).kind = .continuous
              ∧ (t.air.channel side).direction = (if h < (t.air.corner side).target then FlowDirection.fill else .exhaust)
              ∧ (t.air.channel side).state =
                (if (t.air.corner side).target < h then ChannelState.exhausting
                 else if t.air.air = .protect then .suspended
                 else .filling)))
        ∧ (s.advance dt).onlyChanges [.air, .sup, .odo, .joint, .doors] t))
    ∧ ∀ (side : Side) (h : Nat), h ≤ 400 → heightInput inputs side = .reading h →
      (s.air.corner side).excluded = false → (s.air.corner side).condition = none →
      (s.air.corner side).stuckCount < 29 →
      h + 10 < (s.air.corner side).target ∨ (s.air.corner side).target + 10 < h →
      (s.air.level = .kneeling → s.air.kneelTimer = 79 → s.levelRequest = .kneel → s.driverUsable = true →
          s.odo.standstill = true →
        completes (.kneelTimeout dt inputs) s (fun t =>
          t.air.level = .kneelHeld ∧ t.air.kneelTimer = 0 ∧ t.air.gate = none
          ∧ t.air.channelL.state = .idle ∧ t.air.channelR.state = .idle
          ∧ t.air.channelL.valveOpen = false ∧ t.air.channelR.valveOpen = false
          ∧ t.hasCondition .kneelTimeout = false
          ∧ (s.sup.faults.length < 12 → ∃ x ∈ t.sup.faults, x.code = .kneelTimeout)
          ∧ (s.advance dt).onlyChanges [.air, .sup, .odo, .joint, .doors] t))
      ∧ (s.air.level = .returning → s.air.returnTime = 149 → s.air.reservoirLatch = false → s.air.air ≠ .protect →
          p.protectAt ≤ res →
        completes (.raiseTimeout dt inputs) s (fun t =>
          t.air.level = .returning ∧ t.air.returnTime = 150 ∧ t.hasCondition .raiseTimeout = true
          ∧ (s.advance dt).onlyChanges [.air, .sup, .odo, .joint, .doors] t))

/-! ## Frame layouts -/

/-- A STATE content whose fields lie in their ranges, and whose absent fields are 0, is what its frame decodes to
(R27, R28, R29). -/
def Obligations.state_frame_round_trip : Prop :=
  ∀ c : StateContent, c.inRange → decodeState c.station (encodeState c) = some c

/-- The same of DRIVER, PATH and ALERT frames (R27, R28, R30, R31, R32). -/
def Obligations.short_frames_round_trip : Prop :=
  (∀ c : DriverContent, c.inRange → decodeDriver (encodeDriver c) = some c)
  ∧ (∀ x : PathSample, x.mark ≤ 4000000000 → -20000 ≤ x.curvature → x.curvature ≤ 20000 →
      decodePath (encodePath x) = some x)
  ∧ ∀ a : Alert, a.station < 8 → -32768 ≤ a.value → a.value ≤ 32767 →
      (if a.kind = .doorUnreleased ∨ a.kind = .edge then a.slot = 0 ∨ a.slot = 1 else a.slot = 255) →
      decodeAlert a.station (encodeAlert a) = some a

/-! ## What every step keeps -/

/-- In START and RESTART, and in LIMP, the lines stand as Table 10.3 gives, whatever happens (R175). -/
def Obligations.steps_keep_lines_safe : Prop :=
  ∀ s t : State, s.linesSafe → step s = .next t → t.linesSafe

/-- The restart counter never exceeds 3; the fault list never holds more than 16 records or two of one code; the
window is open only during a protected manoeuvre; a record is DEFERRED exactly while its consequence is pending; and RUN is
held only without a degraded cause of Table 10.4, DEGRADED only with one and with the speed limit line asserted (R168, R174,
R178, R180 to R183). A step leaves SYNC, RUN and DEGRADED for START by power-off alone and enters SYNC from neither RUN nor
DEGRADED, so that it moves between these two exactly as the causes come and go; it releases the speed limit line on the
return to RUN. That the moves stand at the end of each command is the model's choice (notes/assumptions/31.md). -/
def Obligations.steps_keep_supervisor_sound : Prop :=
  ∀ s t : State, s.counterSound ∧ s.faultsSound ∧ s.windowSound ∧ s.deferralSound ∧ s.modeSound → step s = .next t →
    t.counterSound ∧ t.faultsSound ∧ t.windowSound ∧ t.deferralSound ∧ t.modeSound ∧ s.movesMode t

/-- The transmit queue keeps its allotment and classes, and the error count stays within 0..32 (R15, R16, R17, R19).
-/
def Obligations.steps_keep_link_sound : Prop :=
  ∀ s t : State, s.linkSound → step s = .next t → t.linkSound

/-- Every working copy is in range, every peer error counter stays within 0..15, and no mark passes 4,000,000,000
(R36, R54, R185). -/
def Obligations.steps_keep_peers_and_marks_sound : Prop :=
  ∀ s t : State, s.peersSound ∧ s.marksSound → step s = .next t → t.peersSound ∧ t.marksSound

/-- The track memory keeps at most 128 entries of rising marks, with their gap count (R67, R68, R69, R73). -/
def Obligations.steps_keep_track_sound : Prop :=
  ∀ s t : State, s.trackSound → step s = .next t → t.trackSound

/-- In LOCKED and FAILED the solenoid is off and every demand is 0; outside backup alone is there a brake demand, and the
relay driven (R82, R88, R115, R127, R128). -/
def Obligations.steps_keep_actuators_sound : Prop :=
  ∀ s t : State, s.steerSound ∧ s.backupSound → step s = .next t → t.steerSound ∧ t.backupSound

/-- No fill valve of a station is open while its air status is PROTECT, and no valve is open outside a run (R135,
R136). That RESERVOIR_SENSOR's latch suspends a fill at once is the model's choice (notes/assumptions/12.md). -/
def Obligations.steps_keep_valves_sound : Prop :=
  ∀ s t : State, s.airSound → step s = .next t → t.airSound

/-- While any condition of the release gate fails, no release line is energised (R166). The gate acts at the end of
each command, by the model's choice (notes/assumptions/31.md). -/
def Obligations.steps_keep_releases_gated : Prop :=
  ∀ s t : State, s.releaseSound → step s = .next t → t.releaseSound

/-- The part before supply is applied has every property that the steps keep. Its values are the model's choice where
the spec gives none (notes/assumptions/8.md). -/
def Obligations.reset_state_is_sound : Prop :=
  State.reset.linesSafe ∧ State.reset.counterSound ∧ State.reset.faultsSound ∧ State.reset.windowSound
  ∧ State.reset.deferralSound ∧ State.reset.modeSound
  ∧ State.reset.linkSound ∧ State.reset.peersSound ∧ State.reset.marksSound ∧ State.reset.trackSound
  ∧ State.reset.steerSound ∧ State.reset.backupSound ∧ State.reset.airSound ∧ State.reset.releaseSound
end

