-- ==== Sys2Proof/Laws/State.lean ====
section
/-! SUPPORT. What each update of one block reads back in each field: the record equations of `State`, so that no later
proof unfolds an update. -/

namespace Sys2Proof.Machine

@[simp] theorem State.setNow_pending (s : State) (x) : (s.setNow x).pending = s.pending := rfl
@[simp] theorem State.setNow_now (s : State) (x) : (s.setNow x).now = x := rfl
@[simp] theorem State.setNow_loader (s : State) (x) : (s.setNow x).loader = s.loader := rfl
@[simp] theorem State.setNow_link (s : State) (x) : (s.setNow x).link = s.link := rfl
@[simp] theorem State.setNow_peers (s : State) (x) : (s.setNow x).peers = s.peers := rfl
@[simp] theorem State.setNow_driver (s : State) (x) : (s.setNow x).driver = s.driver := rfl
@[simp] theorem State.setNow_odo (s : State) (x) : (s.setNow x).odo = s.odo := rfl
@[simp] theorem State.setNow_path (s : State) (x) : (s.setNow x).path = s.path := rfl
@[simp] theorem State.setNow_track (s : State) (x) : (s.setNow x).track = s.track := rfl
@[simp] theorem State.setNow_steer (s : State) (x) : (s.setNow x).steer = s.steer := rfl
@[simp] theorem State.setNow_joint (s : State) (x) : (s.setNow x).joint = s.joint := rfl
@[simp] theorem State.setNow_brake (s : State) (x) : (s.setNow x).brake = s.brake := rfl
@[simp] theorem State.setNow_air (s : State) (x) : (s.setNow x).air = s.air := rfl
@[simp] theorem State.setNow_doors (s : State) (x) : (s.setNow x).doors = s.doors := rfl
@[simp] theorem State.setNow_sup (s : State) (x) : (s.setNow x).sup = s.sup := rfl

@[simp] theorem State.setLoader_pending (s : State) (x) : (s.setLoader x).pending = s.pending := rfl
@[simp] theorem State.setLoader_now (s : State) (x) : (s.setLoader x).now = s.now := rfl
@[simp] theorem State.setLoader_loader (s : State) (x) : (s.setLoader x).loader = x := rfl
@[simp] theorem State.setLoader_link (s : State) (x) : (s.setLoader x).link = s.link := rfl
@[simp] theorem State.setLoader_peers (s : State) (x) : (s.setLoader x).peers = s.peers := rfl
@[simp] theorem State.setLoader_driver (s : State) (x) : (s.setLoader x).driver = s.driver := rfl
@[simp] theorem State.setLoader_odo (s : State) (x) : (s.setLoader x).odo = s.odo := rfl
@[simp] theorem State.setLoader_path (s : State) (x) : (s.setLoader x).path = s.path := rfl
@[simp] theorem State.setLoader_track (s : State) (x) : (s.setLoader x).track = s.track := rfl
@[simp] theorem State.setLoader_steer (s : State) (x) : (s.setLoader x).steer = s.steer := rfl
@[simp] theorem State.setLoader_joint (s : State) (x) : (s.setLoader x).joint = s.joint := rfl
@[simp] theorem State.setLoader_brake (s : State) (x) : (s.setLoader x).brake = s.brake := rfl
@[simp] theorem State.setLoader_air (s : State) (x) : (s.setLoader x).air = s.air := rfl
@[simp] theorem State.setLoader_doors (s : State) (x) : (s.setLoader x).doors = s.doors := rfl
@[simp] theorem State.setLoader_sup (s : State) (x) : (s.setLoader x).sup = s.sup := rfl

@[simp] theorem State.setLink_pending (s : State) (x) : (s.setLink x).pending = s.pending := rfl
@[simp] theorem State.setLink_now (s : State) (x) : (s.setLink x).now = s.now := rfl
@[simp] theorem State.setLink_loader (s : State) (x) : (s.setLink x).loader = s.loader := rfl
@[simp] theorem State.setLink_link (s : State) (x) : (s.setLink x).link = x := rfl
@[simp] theorem State.setLink_peers (s : State) (x) : (s.setLink x).peers = s.peers := rfl
@[simp] theorem State.setLink_driver (s : State) (x) : (s.setLink x).driver = s.driver := rfl
@[simp] theorem State.setLink_odo (s : State) (x) : (s.setLink x).odo = s.odo := rfl
@[simp] theorem State.setLink_path (s : State) (x) : (s.setLink x).path = s.path := rfl
@[simp] theorem State.setLink_track (s : State) (x) : (s.setLink x).track = s.track := rfl
@[simp] theorem State.setLink_steer (s : State) (x) : (s.setLink x).steer = s.steer := rfl
@[simp] theorem State.setLink_joint (s : State) (x) : (s.setLink x).joint = s.joint := rfl
@[simp] theorem State.setLink_brake (s : State) (x) : (s.setLink x).brake = s.brake := rfl
@[simp] theorem State.setLink_air (s : State) (x) : (s.setLink x).air = s.air := rfl
@[simp] theorem State.setLink_doors (s : State) (x) : (s.setLink x).doors = s.doors := rfl
@[simp] theorem State.setLink_sup (s : State) (x) : (s.setLink x).sup = s.sup := rfl

@[simp] theorem State.setPeers_pending (s : State) (x) : (s.setPeers x).pending = s.pending := rfl
@[simp] theorem State.setPeers_now (s : State) (x) : (s.setPeers x).now = s.now := rfl
@[simp] theorem State.setPeers_loader (s : State) (x) : (s.setPeers x).loader = s.loader := rfl
@[simp] theorem State.setPeers_link (s : State) (x) : (s.setPeers x).link = s.link := rfl
@[simp] theorem State.setPeers_peers (s : State) (x) : (s.setPeers x).peers = x := rfl
@[simp] theorem State.setPeers_driver (s : State) (x) : (s.setPeers x).driver = s.driver := rfl
@[simp] theorem State.setPeers_odo (s : State) (x) : (s.setPeers x).odo = s.odo := rfl
@[simp] theorem State.setPeers_path (s : State) (x) : (s.setPeers x).path = s.path := rfl
@[simp] theorem State.setPeers_track (s : State) (x) : (s.setPeers x).track = s.track := rfl
@[simp] theorem State.setPeers_steer (s : State) (x) : (s.setPeers x).steer = s.steer := rfl
@[simp] theorem State.setPeers_joint (s : State) (x) : (s.setPeers x).joint = s.joint := rfl
@[simp] theorem State.setPeers_brake (s : State) (x) : (s.setPeers x).brake = s.brake := rfl
@[simp] theorem State.setPeers_air (s : State) (x) : (s.setPeers x).air = s.air := rfl
@[simp] theorem State.setPeers_doors (s : State) (x) : (s.setPeers x).doors = s.doors := rfl
@[simp] theorem State.setPeers_sup (s : State) (x) : (s.setPeers x).sup = s.sup := rfl

@[simp] theorem State.setDriver_pending (s : State) (x) : (s.setDriver x).pending = s.pending := rfl
@[simp] theorem State.setDriver_now (s : State) (x) : (s.setDriver x).now = s.now := rfl
@[simp] theorem State.setDriver_loader (s : State) (x) : (s.setDriver x).loader = s.loader := rfl
@[simp] theorem State.setDriver_link (s : State) (x) : (s.setDriver x).link = s.link := rfl
@[simp] theorem State.setDriver_peers (s : State) (x) : (s.setDriver x).peers = s.peers := rfl
@[simp] theorem State.setDriver_driver (s : State) (x) : (s.setDriver x).driver = x := rfl
@[simp] theorem State.setDriver_odo (s : State) (x) : (s.setDriver x).odo = s.odo := rfl
@[simp] theorem State.setDriver_path (s : State) (x) : (s.setDriver x).path = s.path := rfl
@[simp] theorem State.setDriver_track (s : State) (x) : (s.setDriver x).track = s.track := rfl
@[simp] theorem State.setDriver_steer (s : State) (x) : (s.setDriver x).steer = s.steer := rfl
@[simp] theorem State.setDriver_joint (s : State) (x) : (s.setDriver x).joint = s.joint := rfl
@[simp] theorem State.setDriver_brake (s : State) (x) : (s.setDriver x).brake = s.brake := rfl
@[simp] theorem State.setDriver_air (s : State) (x) : (s.setDriver x).air = s.air := rfl
@[simp] theorem State.setDriver_doors (s : State) (x) : (s.setDriver x).doors = s.doors := rfl
@[simp] theorem State.setDriver_sup (s : State) (x) : (s.setDriver x).sup = s.sup := rfl

@[simp] theorem State.setOdo_pending (s : State) (x) : (s.setOdo x).pending = s.pending := rfl
@[simp] theorem State.setOdo_now (s : State) (x) : (s.setOdo x).now = s.now := rfl
@[simp] theorem State.setOdo_loader (s : State) (x) : (s.setOdo x).loader = s.loader := rfl
@[simp] theorem State.setOdo_link (s : State) (x) : (s.setOdo x).link = s.link := rfl
@[simp] theorem State.setOdo_peers (s : State) (x) : (s.setOdo x).peers = s.peers := rfl
@[simp] theorem State.setOdo_driver (s : State) (x) : (s.setOdo x).driver = s.driver := rfl
@[simp] theorem State.setOdo_odo (s : State) (x) : (s.setOdo x).odo = x := rfl
@[simp] theorem State.setOdo_path (s : State) (x) : (s.setOdo x).path = s.path := rfl
@[simp] theorem State.setOdo_track (s : State) (x) : (s.setOdo x).track = s.track := rfl
@[simp] theorem State.setOdo_steer (s : State) (x) : (s.setOdo x).steer = s.steer := rfl
@[simp] theorem State.setOdo_joint (s : State) (x) : (s.setOdo x).joint = s.joint := rfl
@[simp] theorem State.setOdo_brake (s : State) (x) : (s.setOdo x).brake = s.brake := rfl
@[simp] theorem State.setOdo_air (s : State) (x) : (s.setOdo x).air = s.air := rfl
@[simp] theorem State.setOdo_doors (s : State) (x) : (s.setOdo x).doors = s.doors := rfl
@[simp] theorem State.setOdo_sup (s : State) (x) : (s.setOdo x).sup = s.sup := rfl

@[simp] theorem State.setPath_pending (s : State) (x) : (s.setPath x).pending = s.pending := rfl
@[simp] theorem State.setPath_now (s : State) (x) : (s.setPath x).now = s.now := rfl
@[simp] theorem State.setPath_loader (s : State) (x) : (s.setPath x).loader = s.loader := rfl
@[simp] theorem State.setPath_link (s : State) (x) : (s.setPath x).link = s.link := rfl
@[simp] theorem State.setPath_peers (s : State) (x) : (s.setPath x).peers = s.peers := rfl
@[simp] theorem State.setPath_driver (s : State) (x) : (s.setPath x).driver = s.driver := rfl
@[simp] theorem State.setPath_odo (s : State) (x) : (s.setPath x).odo = s.odo := rfl
@[simp] theorem State.setPath_path (s : State) (x) : (s.setPath x).path = x := rfl
@[simp] theorem State.setPath_track (s : State) (x) : (s.setPath x).track = s.track := rfl
@[simp] theorem State.setPath_steer (s : State) (x) : (s.setPath x).steer = s.steer := rfl
@[simp] theorem State.setPath_joint (s : State) (x) : (s.setPath x).joint = s.joint := rfl
@[simp] theorem State.setPath_brake (s : State) (x) : (s.setPath x).brake = s.brake := rfl
@[simp] theorem State.setPath_air (s : State) (x) : (s.setPath x).air = s.air := rfl
@[simp] theorem State.setPath_doors (s : State) (x) : (s.setPath x).doors = s.doors := rfl
@[simp] theorem State.setPath_sup (s : State) (x) : (s.setPath x).sup = s.sup := rfl

@[simp] theorem State.setTrack_pending (s : State) (x) : (s.setTrack x).pending = s.pending := rfl
@[simp] theorem State.setTrack_now (s : State) (x) : (s.setTrack x).now = s.now := rfl
@[simp] theorem State.setTrack_loader (s : State) (x) : (s.setTrack x).loader = s.loader := rfl
@[simp] theorem State.setTrack_link (s : State) (x) : (s.setTrack x).link = s.link := rfl
@[simp] theorem State.setTrack_peers (s : State) (x) : (s.setTrack x).peers = s.peers := rfl
@[simp] theorem State.setTrack_driver (s : State) (x) : (s.setTrack x).driver = s.driver := rfl
@[simp] theorem State.setTrack_odo (s : State) (x) : (s.setTrack x).odo = s.odo := rfl
@[simp] theorem State.setTrack_path (s : State) (x) : (s.setTrack x).path = s.path := rfl
@[simp] theorem State.setTrack_track (s : State) (x) : (s.setTrack x).track = x := rfl
@[simp] theorem State.setTrack_steer (s : State) (x) : (s.setTrack x).steer = s.steer := rfl
@[simp] theorem State.setTrack_joint (s : State) (x) : (s.setTrack x).joint = s.joint := rfl
@[simp] theorem State.setTrack_brake (s : State) (x) : (s.setTrack x).brake = s.brake := rfl
@[simp] theorem State.setTrack_air (s : State) (x) : (s.setTrack x).air = s.air := rfl
@[simp] theorem State.setTrack_doors (s : State) (x) : (s.setTrack x).doors = s.doors := rfl
@[simp] theorem State.setTrack_sup (s : State) (x) : (s.setTrack x).sup = s.sup := rfl

@[simp] theorem State.setSteer_pending (s : State) (x) : (s.setSteer x).pending = s.pending := rfl
@[simp] theorem State.setSteer_now (s : State) (x) : (s.setSteer x).now = s.now := rfl
@[simp] theorem State.setSteer_loader (s : State) (x) : (s.setSteer x).loader = s.loader := rfl
@[simp] theorem State.setSteer_link (s : State) (x) : (s.setSteer x).link = s.link := rfl
@[simp] theorem State.setSteer_peers (s : State) (x) : (s.setSteer x).peers = s.peers := rfl
@[simp] theorem State.setSteer_driver (s : State) (x) : (s.setSteer x).driver = s.driver := rfl
@[simp] theorem State.setSteer_odo (s : State) (x) : (s.setSteer x).odo = s.odo := rfl
@[simp] theorem State.setSteer_path (s : State) (x) : (s.setSteer x).path = s.path := rfl
@[simp] theorem State.setSteer_track (s : State) (x) : (s.setSteer x).track = s.track := rfl
@[simp] theorem State.setSteer_steer (s : State) (x) : (s.setSteer x).steer = x := rfl
@[simp] theorem State.setSteer_joint (s : State) (x) : (s.setSteer x).joint = s.joint := rfl
@[simp] theorem State.setSteer_brake (s : State) (x) : (s.setSteer x).brake = s.brake := rfl
@[simp] theorem State.setSteer_air (s : State) (x) : (s.setSteer x).air = s.air := rfl
@[simp] theorem State.setSteer_doors (s : State) (x) : (s.setSteer x).doors = s.doors := rfl
@[simp] theorem State.setSteer_sup (s : State) (x) : (s.setSteer x).sup = s.sup := rfl

@[simp] theorem State.setJoint_pending (s : State) (x) : (s.setJoint x).pending = s.pending := rfl
@[simp] theorem State.setJoint_now (s : State) (x) : (s.setJoint x).now = s.now := rfl
@[simp] theorem State.setJoint_loader (s : State) (x) : (s.setJoint x).loader = s.loader := rfl
@[simp] theorem State.setJoint_link (s : State) (x) : (s.setJoint x).link = s.link := rfl
@[simp] theorem State.setJoint_peers (s : State) (x) : (s.setJoint x).peers = s.peers := rfl
@[simp] theorem State.setJoint_driver (s : State) (x) : (s.setJoint x).driver = s.driver := rfl
@[simp] theorem State.setJoint_odo (s : State) (x) : (s.setJoint x).odo = s.odo := rfl
@[simp] theorem State.setJoint_path (s : State) (x) : (s.setJoint x).path = s.path := rfl
@[simp] theorem State.setJoint_track (s : State) (x) : (s.setJoint x).track = s.track := rfl
@[simp] theorem State.setJoint_steer (s : State) (x) : (s.setJoint x).steer = s.steer := rfl
@[simp] theorem State.setJoint_joint (s : State) (x) : (s.setJoint x).joint = x := rfl
@[simp] theorem State.setJoint_brake (s : State) (x) : (s.setJoint x).brake = s.brake := rfl
@[simp] theorem State.setJoint_air (s : State) (x) : (s.setJoint x).air = s.air := rfl
@[simp] theorem State.setJoint_doors (s : State) (x) : (s.setJoint x).doors = s.doors := rfl
@[simp] theorem State.setJoint_sup (s : State) (x) : (s.setJoint x).sup = s.sup := rfl

@[simp] theorem State.setBrake_pending (s : State) (x) : (s.setBrake x).pending = s.pending := rfl
@[simp] theorem State.setBrake_now (s : State) (x) : (s.setBrake x).now = s.now := rfl
@[simp] theorem State.setBrake_loader (s : State) (x) : (s.setBrake x).loader = s.loader := rfl
@[simp] theorem State.setBrake_link (s : State) (x) : (s.setBrake x).link = s.link := rfl
@[simp] theorem State.setBrake_peers (s : State) (x) : (s.setBrake x).peers = s.peers := rfl
@[simp] theorem State.setBrake_driver (s : State) (x) : (s.setBrake x).driver = s.driver := rfl
@[simp] theorem State.setBrake_odo (s : State) (x) : (s.setBrake x).odo = s.odo := rfl
@[simp] theorem State.setBrake_path (s : State) (x) : (s.setBrake x).path = s.path := rfl
@[simp] theorem State.setBrake_track (s : State) (x) : (s.setBrake x).track = s.track := rfl
@[simp] theorem State.setBrake_steer (s : State) (x) : (s.setBrake x).steer = s.steer := rfl
@[simp] theorem State.setBrake_joint (s : State) (x) : (s.setBrake x).joint = s.joint := rfl
@[simp] theorem State.setBrake_brake (s : State) (x) : (s.setBrake x).brake = x := rfl
@[simp] theorem State.setBrake_air (s : State) (x) : (s.setBrake x).air = s.air := rfl
@[simp] theorem State.setBrake_doors (s : State) (x) : (s.setBrake x).doors = s.doors := rfl
@[simp] theorem State.setBrake_sup (s : State) (x) : (s.setBrake x).sup = s.sup := rfl

@[simp] theorem State.setAir_pending (s : State) (x) : (s.setAir x).pending = s.pending := rfl
@[simp] theorem State.setAir_now (s : State) (x) : (s.setAir x).now = s.now := rfl
@[simp] theorem State.setAir_loader (s : State) (x) : (s.setAir x).loader = s.loader := rfl
@[simp] theorem State.setAir_link (s : State) (x) : (s.setAir x).link = s.link := rfl
@[simp] theorem State.setAir_peers (s : State) (x) : (s.setAir x).peers = s.peers := rfl
@[simp] theorem State.setAir_driver (s : State) (x) : (s.setAir x).driver = s.driver := rfl
@[simp] theorem State.setAir_odo (s : State) (x) : (s.setAir x).odo = s.odo := rfl
@[simp] theorem State.setAir_path (s : State) (x) : (s.setAir x).path = s.path := rfl
@[simp] theorem State.setAir_track (s : State) (x) : (s.setAir x).track = s.track := rfl
@[simp] theorem State.setAir_steer (s : State) (x) : (s.setAir x).steer = s.steer := rfl
@[simp] theorem State.setAir_joint (s : State) (x) : (s.setAir x).joint = s.joint := rfl
@[simp] theorem State.setAir_brake (s : State) (x) : (s.setAir x).brake = s.brake := rfl
@[simp] theorem State.setAir_air (s : State) (x) : (s.setAir x).air = x := rfl
@[simp] theorem State.setAir_doors (s : State) (x) : (s.setAir x).doors = s.doors := rfl
@[simp] theorem State.setAir_sup (s : State) (x) : (s.setAir x).sup = s.sup := rfl

@[simp] theorem State.setDoors_pending (s : State) (x) : (s.setDoors x).pending = s.pending := rfl
@[simp] theorem State.setDoors_now (s : State) (x) : (s.setDoors x).now = s.now := rfl
@[simp] theorem State.setDoors_loader (s : State) (x) : (s.setDoors x).loader = s.loader := rfl
@[simp] theorem State.setDoors_link (s : State) (x) : (s.setDoors x).link = s.link := rfl
@[simp] theorem State.setDoors_peers (s : State) (x) : (s.setDoors x).peers = s.peers := rfl
@[simp] theorem State.setDoors_driver (s : State) (x) : (s.setDoors x).driver = s.driver := rfl
@[simp] theorem State.setDoors_odo (s : State) (x) : (s.setDoors x).odo = s.odo := rfl
@[simp] theorem State.setDoors_path (s : State) (x) : (s.setDoors x).path = s.path := rfl
@[simp] theorem State.setDoors_track (s : State) (x) : (s.setDoors x).track = s.track := rfl
@[simp] theorem State.setDoors_steer (s : State) (x) : (s.setDoors x).steer = s.steer := rfl
@[simp] theorem State.setDoors_joint (s : State) (x) : (s.setDoors x).joint = s.joint := rfl
@[simp] theorem State.setDoors_brake (s : State) (x) : (s.setDoors x).brake = s.brake := rfl
@[simp] theorem State.setDoors_air (s : State) (x) : (s.setDoors x).air = s.air := rfl
@[simp] theorem State.setDoors_doors (s : State) (x) : (s.setDoors x).doors = x := rfl
@[simp] theorem State.setDoors_sup (s : State) (x) : (s.setDoors x).sup = s.sup := rfl

@[simp] theorem State.setSup_pending (s : State) (x) : (s.setSup x).pending = s.pending := rfl
@[simp] theorem State.setSup_now (s : State) (x) : (s.setSup x).now = s.now := rfl
@[simp] theorem State.setSup_loader (s : State) (x) : (s.setSup x).loader = s.loader := rfl
@[simp] theorem State.setSup_link (s : State) (x) : (s.setSup x).link = s.link := rfl
@[simp] theorem State.setSup_peers (s : State) (x) : (s.setSup x).peers = s.peers := rfl
@[simp] theorem State.setSup_driver (s : State) (x) : (s.setSup x).driver = s.driver := rfl
@[simp] theorem State.setSup_odo (s : State) (x) : (s.setSup x).odo = s.odo := rfl
@[simp] theorem State.setSup_path (s : State) (x) : (s.setSup x).path = s.path := rfl
@[simp] theorem State.setSup_track (s : State) (x) : (s.setSup x).track = s.track := rfl
@[simp] theorem State.setSup_steer (s : State) (x) : (s.setSup x).steer = s.steer := rfl
@[simp] theorem State.setSup_joint (s : State) (x) : (s.setSup x).joint = s.joint := rfl
@[simp] theorem State.setSup_brake (s : State) (x) : (s.setSup x).brake = s.brake := rfl
@[simp] theorem State.setSup_air (s : State) (x) : (s.setSup x).air = s.air := rfl
@[simp] theorem State.setSup_doors (s : State) (x) : (s.setSup x).doors = s.doors := rfl
@[simp] theorem State.setSup_sup (s : State) (x) : (s.setSup x).sup = x := rfl

@[simp] theorem State.advance_pending (s : State) (dt : Micros) : (s.advance dt).pending = s.pending := rfl
@[simp] theorem State.advance_now (s : State) (dt : Micros) : (s.advance dt).now = s.now + dt := rfl
@[simp] theorem State.advance_loader (s : State) (dt : Micros) : (s.advance dt).loader = s.loader := rfl
@[simp] theorem State.advance_link (s : State) (dt : Micros) : (s.advance dt).link = s.link := rfl
@[simp] theorem State.advance_peers (s : State) (dt : Micros) : (s.advance dt).peers = s.peers := rfl
@[simp] theorem State.advance_driver (s : State) (dt : Micros) : (s.advance dt).driver = s.driver := rfl
@[simp] theorem State.advance_odo (s : State) (dt : Micros) : (s.advance dt).odo = s.odo := rfl
@[simp] theorem State.advance_path (s : State) (dt : Micros) : (s.advance dt).path = s.path := rfl
@[simp] theorem State.advance_track (s : State) (dt : Micros) : (s.advance dt).track = s.track := rfl
@[simp] theorem State.advance_steer (s : State) (dt : Micros) : (s.advance dt).steer = s.steer := rfl
@[simp] theorem State.advance_joint (s : State) (dt : Micros) : (s.advance dt).joint = s.joint := rfl
@[simp] theorem State.advance_brake (s : State) (dt : Micros) : (s.advance dt).brake = s.brake := rfl
@[simp] theorem State.advance_air (s : State) (dt : Micros) : (s.advance dt).air = s.air := rfl
@[simp] theorem State.advance_doors (s : State) (dt : Micros) : (s.advance dt).doors = s.doors := rfl
@[simp] theorem State.advance_sup (s : State) (dt : Micros) : (s.advance dt).sup = s.sup := rfl

/-- A command's answer is its work after its time has passed. -/
@[simp] theorem State.take_eq (s : State) (dt : Micros) (work : State → State) :
    s.take dt work = .next (work (s.advance dt)) := rfl

end Sys2Proof.Machine
end

