-- ==== Sys2Proof/Laws/Frames.lean ====
section
/-! SUPPORT. The fields that each shared operation leaves as they were. -/

namespace Sys2Proof.Machine

/-! ## Faults -/

@[simp] theorem State.endCondition_pending (s : State) (c : FaultCode) : (s.endCondition c).pending = s.pending := by
  rfl
@[simp] theorem State.endCondition_now (s : State) (c : FaultCode) : (s.endCondition c).now = s.now := by
  rfl
@[simp] theorem State.endCondition_loader (s : State) (c : FaultCode) : (s.endCondition c).loader = s.loader := by
  rfl
@[simp] theorem State.endCondition_link (s : State) (c : FaultCode) : (s.endCondition c).link = s.link := by
  rfl
@[simp] theorem State.endCondition_peers (s : State) (c : FaultCode) : (s.endCondition c).peers = s.peers := by
  rfl
@[simp] theorem State.endCondition_driver (s : State) (c : FaultCode) : (s.endCondition c).driver = s.driver := by
  rfl
@[simp] theorem State.endCondition_odo (s : State) (c : FaultCode) : (s.endCondition c).odo = s.odo := by
  rfl
@[simp] theorem State.endCondition_path (s : State) (c : FaultCode) : (s.endCondition c).path = s.path := by
  rfl
@[simp] theorem State.endCondition_track (s : State) (c : FaultCode) : (s.endCondition c).track = s.track := by
  rfl
@[simp] theorem State.endCondition_steer (s : State) (c : FaultCode) : (s.endCondition c).steer = s.steer := by
  rfl
@[simp] theorem State.endCondition_joint (s : State) (c : FaultCode) : (s.endCondition c).joint = s.joint := by
  rfl
@[simp] theorem State.endCondition_brake (s : State) (c : FaultCode) : (s.endCondition c).brake = s.brake := by
  rfl
@[simp] theorem State.endCondition_air (s : State) (c : FaultCode) : (s.endCondition c).air = s.air := by
  rfl
@[simp] theorem State.endCondition_doors (s : State) (c : FaultCode) : (s.endCondition c).doors = s.doors := by
  rfl

@[simp] theorem State.applyConsequence_pending (s : State) (c : FaultCode) : (s.applyConsequence c).pending = s.pending := by
  cases c <;> rfl
@[simp] theorem State.applyConsequence_now (s : State) (c : FaultCode) : (s.applyConsequence c).now = s.now := by
  cases c <;> rfl
@[simp] theorem State.applyConsequence_loader (s : State) (c : FaultCode) : (s.applyConsequence c).loader = s.loader := by
  cases c <;> rfl
@[simp] theorem State.applyConsequence_link (s : State) (c : FaultCode) : (s.applyConsequence c).link = s.link := by
  cases c <;> rfl
@[simp] theorem State.applyConsequence_peers (s : State) (c : FaultCode) : (s.applyConsequence c).peers = s.peers := by
  cases c <;> rfl
@[simp] theorem State.applyConsequence_driver (s : State) (c : FaultCode) : (s.applyConsequence c).driver = s.driver := by
  cases c <;> rfl
@[simp] theorem State.applyConsequence_path (s : State) (c : FaultCode) : (s.applyConsequence c).path = s.path := by
  cases c <;> rfl
@[simp] theorem State.applyConsequence_track (s : State) (c : FaultCode) : (s.applyConsequence c).track = s.track := by
  cases c <;> rfl
@[simp] theorem State.applyConsequence_steer (s : State) (c : FaultCode) : (s.applyConsequence c).steer = s.steer := by
  cases c <;> rfl
@[simp] theorem State.applyConsequence_brake (s : State) (c : FaultCode) : (s.applyConsequence c).brake = s.brake := by
  cases c <;> rfl
@[simp] theorem State.applyConsequence_doors (s : State) (c : FaultCode) : (s.applyConsequence c).doors = s.doors := by
  cases c <;> rfl

@[simp] theorem State.raiseFault_pending (s : State) (c : FaultCode) : (s.raiseFault c).pending = s.pending := by
  unfold State.raiseFault State.applyBothWheels; dsimp only; split_ifs <;> simp
@[simp] theorem State.raiseFault_now (s : State) (c : FaultCode) : (s.raiseFault c).now = s.now := by
  unfold State.raiseFault State.applyBothWheels; dsimp only; split_ifs <;> simp
@[simp] theorem State.raiseFault_loader (s : State) (c : FaultCode) : (s.raiseFault c).loader = s.loader := by
  unfold State.raiseFault State.applyBothWheels; dsimp only; split_ifs <;> simp
@[simp] theorem State.raiseFault_link (s : State) (c : FaultCode) : (s.raiseFault c).link = s.link := by
  unfold State.raiseFault State.applyBothWheels; dsimp only; split_ifs <;> simp
@[simp] theorem State.raiseFault_peers (s : State) (c : FaultCode) : (s.raiseFault c).peers = s.peers := by
  unfold State.raiseFault State.applyBothWheels; dsimp only; split_ifs <;> simp
@[simp] theorem State.raiseFault_driver (s : State) (c : FaultCode) : (s.raiseFault c).driver = s.driver := by
  unfold State.raiseFault State.applyBothWheels; dsimp only; split_ifs <;> simp
@[simp] theorem State.raiseFault_path (s : State) (c : FaultCode) : (s.raiseFault c).path = s.path := by
  unfold State.raiseFault State.applyBothWheels; dsimp only; split_ifs <;> simp
@[simp] theorem State.raiseFault_track (s : State) (c : FaultCode) : (s.raiseFault c).track = s.track := by
  unfold State.raiseFault State.applyBothWheels; dsimp only; split_ifs <;> simp
@[simp] theorem State.raiseFault_steer (s : State) (c : FaultCode) : (s.raiseFault c).steer = s.steer := by
  unfold State.raiseFault State.applyBothWheels; dsimp only; split_ifs <;> simp
@[simp] theorem State.raiseFault_brake (s : State) (c : FaultCode) : (s.raiseFault c).brake = s.brake := by
  unfold State.raiseFault State.applyBothWheels; dsimp only; split_ifs <;> simp
@[simp] theorem State.raiseFault_doors (s : State) (c : FaultCode) : (s.raiseFault c).doors = s.doors := by
  unfold State.raiseFault State.applyBothWheels; dsimp only; split_ifs <;> simp

@[simp] theorem State.raiseEvent_pending (s : State) (c : FaultCode) : (s.raiseEvent c).pending = s.pending := by
  simp [State.raiseEvent]
@[simp] theorem State.raiseEvent_now (s : State) (c : FaultCode) : (s.raiseEvent c).now = s.now := by
  simp [State.raiseEvent]
@[simp] theorem State.raiseEvent_loader (s : State) (c : FaultCode) : (s.raiseEvent c).loader = s.loader := by
  simp [State.raiseEvent]
@[simp] theorem State.raiseEvent_link (s : State) (c : FaultCode) : (s.raiseEvent c).link = s.link := by
  simp [State.raiseEvent]
@[simp] theorem State.raiseEvent_peers (s : State) (c : FaultCode) : (s.raiseEvent c).peers = s.peers := by
  simp [State.raiseEvent]
@[simp] theorem State.raiseEvent_driver (s : State) (c : FaultCode) : (s.raiseEvent c).driver = s.driver := by
  simp [State.raiseEvent]
@[simp] theorem State.raiseEvent_path (s : State) (c : FaultCode) : (s.raiseEvent c).path = s.path := by
  simp [State.raiseEvent]
@[simp] theorem State.raiseEvent_track (s : State) (c : FaultCode) : (s.raiseEvent c).track = s.track := by
  simp [State.raiseEvent]
@[simp] theorem State.raiseEvent_steer (s : State) (c : FaultCode) : (s.raiseEvent c).steer = s.steer := by
  simp [State.raiseEvent]
@[simp] theorem State.raiseEvent_brake (s : State) (c : FaultCode) : (s.raiseEvent c).brake = s.brake := by
  simp [State.raiseEvent]
@[simp] theorem State.raiseEvent_doors (s : State) (c : FaultCode) : (s.raiseEvent c).doors = s.doors := by
  simp [State.raiseEvent]

@[simp] theorem State.follow_pending (s : State) (c : FaultCode) (b : Bool) : (s.follow c b).pending = s.pending := by
  unfold State.follow; split_ifs <;> simp
@[simp] theorem State.follow_now (s : State) (c : FaultCode) (b : Bool) : (s.follow c b).now = s.now := by
  unfold State.follow; split_ifs <;> simp
@[simp] theorem State.follow_loader (s : State) (c : FaultCode) (b : Bool) : (s.follow c b).loader = s.loader := by
  unfold State.follow; split_ifs <;> simp
@[simp] theorem State.follow_link (s : State) (c : FaultCode) (b : Bool) : (s.follow c b).link = s.link := by
  unfold State.follow; split_ifs <;> simp
@[simp] theorem State.follow_peers (s : State) (c : FaultCode) (b : Bool) : (s.follow c b).peers = s.peers := by
  unfold State.follow; split_ifs <;> simp
@[simp] theorem State.follow_driver (s : State) (c : FaultCode) (b : Bool) : (s.follow c b).driver = s.driver := by
  unfold State.follow; split_ifs <;> simp
@[simp] theorem State.follow_path (s : State) (c : FaultCode) (b : Bool) : (s.follow c b).path = s.path := by
  unfold State.follow; split_ifs <;> simp
@[simp] theorem State.follow_track (s : State) (c : FaultCode) (b : Bool) : (s.follow c b).track = s.track := by
  unfold State.follow; split_ifs <;> simp
@[simp] theorem State.follow_steer (s : State) (c : FaultCode) (b : Bool) : (s.follow c b).steer = s.steer := by
  unfold State.follow; split_ifs <;> simp
@[simp] theorem State.follow_brake (s : State) (c : FaultCode) (b : Bool) : (s.follow c b).brake = s.brake := by
  unfold State.follow; split_ifs <;> simp
@[simp] theorem State.follow_doors (s : State) (c : FaultCode) (b : Bool) : (s.follow c b).doors = s.doors := by
  unfold State.follow; split_ifs <;> simp

@[simp] theorem State.applyAll_pending (cs : List FaultCode) : ∀ s : State, (s.applyAll cs).pending = s.pending := by
  induction cs with
  | nil => intro s; rfl
  | cons c rest ih => intro s; simp [State.applyAll, ih]
@[simp] theorem State.applyAll_now (cs : List FaultCode) : ∀ s : State, (s.applyAll cs).now = s.now := by
  induction cs with
  | nil => intro s; rfl
  | cons c rest ih => intro s; simp [State.applyAll, ih]
@[simp] theorem State.applyAll_loader (cs : List FaultCode) : ∀ s : State, (s.applyAll cs).loader = s.loader := by
  induction cs with
  | nil => intro s; rfl
  | cons c rest ih => intro s; simp [State.applyAll, ih]
@[simp] theorem State.applyAll_link (cs : List FaultCode) : ∀ s : State, (s.applyAll cs).link = s.link := by
  induction cs with
  | nil => intro s; rfl
  | cons c rest ih => intro s; simp [State.applyAll, ih]
@[simp] theorem State.applyAll_peers (cs : List FaultCode) : ∀ s : State, (s.applyAll cs).peers = s.peers := by
  induction cs with
  | nil => intro s; rfl
  | cons c rest ih => intro s; simp [State.applyAll, ih]
@[simp] theorem State.applyAll_driver (cs : List FaultCode) : ∀ s : State, (s.applyAll cs).driver = s.driver := by
  induction cs with
  | nil => intro s; rfl
  | cons c rest ih => intro s; simp [State.applyAll, ih]
@[simp] theorem State.applyAll_path (cs : List FaultCode) : ∀ s : State, (s.applyAll cs).path = s.path := by
  induction cs with
  | nil => intro s; rfl
  | cons c rest ih => intro s; simp [State.applyAll, ih]
@[simp] theorem State.applyAll_track (cs : List FaultCode) : ∀ s : State, (s.applyAll cs).track = s.track := by
  induction cs with
  | nil => intro s; rfl
  | cons c rest ih => intro s; simp [State.applyAll, ih]
@[simp] theorem State.applyAll_steer (cs : List FaultCode) : ∀ s : State, (s.applyAll cs).steer = s.steer := by
  induction cs with
  | nil => intro s; rfl
  | cons c rest ih => intro s; simp [State.applyAll, ih]
@[simp] theorem State.applyAll_brake (cs : List FaultCode) : ∀ s : State, (s.applyAll cs).brake = s.brake := by
  induction cs with
  | nil => intro s; rfl
  | cons c rest ih => intro s; simp [State.applyAll, ih]
@[simp] theorem State.applyAll_doors (cs : List FaultCode) : ∀ s : State, (s.applyAll cs).doors = s.doors := by
  induction cs with
  | nil => intro s; rfl
  | cons c rest ih => intro s; simp [State.applyAll, ih]

@[simp] theorem State.closeWindow_pending (s : State) : (s.closeWindow).pending = s.pending := by
  simp [State.closeWindow]
@[simp] theorem State.closeWindow_now (s : State) : (s.closeWindow).now = s.now := by
  simp [State.closeWindow]
@[simp] theorem State.closeWindow_loader (s : State) : (s.closeWindow).loader = s.loader := by
  simp [State.closeWindow]
@[simp] theorem State.closeWindow_link (s : State) : (s.closeWindow).link = s.link := by
  simp [State.closeWindow]
@[simp] theorem State.closeWindow_peers (s : State) : (s.closeWindow).peers = s.peers := by
  simp [State.closeWindow]
@[simp] theorem State.closeWindow_driver (s : State) : (s.closeWindow).driver = s.driver := by
  simp [State.closeWindow]
@[simp] theorem State.closeWindow_path (s : State) : (s.closeWindow).path = s.path := by
  simp [State.closeWindow]
@[simp] theorem State.closeWindow_track (s : State) : (s.closeWindow).track = s.track := by
  simp [State.closeWindow]
@[simp] theorem State.closeWindow_steer (s : State) : (s.closeWindow).steer = s.steer := by
  simp [State.closeWindow]
@[simp] theorem State.closeWindow_brake (s : State) : (s.closeWindow).brake = s.brake := by
  simp [State.closeWindow]
@[simp] theorem State.closeWindow_doors (s : State) : (s.closeWindow).doors = s.doors := by
  simp [State.closeWindow]

@[simp] theorem State.closeIfIdle_pending (s : State) : (s.closeIfIdle).pending = s.pending := by
  unfold State.closeIfIdle; split_ifs <;> simp
@[simp] theorem State.closeIfIdle_now (s : State) : (s.closeIfIdle).now = s.now := by
  unfold State.closeIfIdle; split_ifs <;> simp
@[simp] theorem State.closeIfIdle_loader (s : State) : (s.closeIfIdle).loader = s.loader := by
  unfold State.closeIfIdle; split_ifs <;> simp
@[simp] theorem State.closeIfIdle_link (s : State) : (s.closeIfIdle).link = s.link := by
  unfold State.closeIfIdle; split_ifs <;> simp
@[simp] theorem State.closeIfIdle_peers (s : State) : (s.closeIfIdle).peers = s.peers := by
  unfold State.closeIfIdle; split_ifs <;> simp
@[simp] theorem State.closeIfIdle_driver (s : State) : (s.closeIfIdle).driver = s.driver := by
  unfold State.closeIfIdle; split_ifs <;> simp
@[simp] theorem State.closeIfIdle_path (s : State) : (s.closeIfIdle).path = s.path := by
  unfold State.closeIfIdle; split_ifs <;> simp
@[simp] theorem State.closeIfIdle_track (s : State) : (s.closeIfIdle).track = s.track := by
  unfold State.closeIfIdle; split_ifs <;> simp
@[simp] theorem State.closeIfIdle_steer (s : State) : (s.closeIfIdle).steer = s.steer := by
  unfold State.closeIfIdle; split_ifs <;> simp
@[simp] theorem State.closeIfIdle_brake (s : State) : (s.closeIfIdle).brake = s.brake := by
  unfold State.closeIfIdle; split_ifs <;> simp
@[simp] theorem State.closeIfIdle_doors (s : State) : (s.closeIfIdle).doors = s.doors := by
  unfold State.closeIfIdle; split_ifs <;> simp

/-! ## Modes -/

@[simp] theorem State.enterRun_pending (s : State) : (s.enterRun).pending = s.pending := by
  rfl
@[simp] theorem State.enterRun_now (s : State) : (s.enterRun).now = s.now := by
  rfl
@[simp] theorem State.enterRun_loader (s : State) : (s.enterRun).loader = s.loader := by
  rfl
@[simp] theorem State.enterRun_link (s : State) : (s.enterRun).link = s.link := by
  rfl
@[simp] theorem State.enterRun_peers (s : State) : (s.enterRun).peers = s.peers := by
  rfl
@[simp] theorem State.enterRun_driver (s : State) : (s.enterRun).driver = s.driver := by
  rfl
@[simp] theorem State.enterRun_odo (s : State) : (s.enterRun).odo = s.odo := by
  rfl
@[simp] theorem State.enterRun_path (s : State) : (s.enterRun).path = s.path := by
  rfl
@[simp] theorem State.enterRun_track (s : State) : (s.enterRun).track = s.track := by
  rfl
@[simp] theorem State.enterRun_steer (s : State) : (s.enterRun).steer = s.steer := by
  rfl
@[simp] theorem State.enterRun_joint (s : State) : (s.enterRun).joint = s.joint := by
  rfl
@[simp] theorem State.enterRun_brake (s : State) : (s.enterRun).brake = s.brake := by
  rfl
@[simp] theorem State.enterRun_air (s : State) : (s.enterRun).air = s.air := by
  rfl

@[simp] theorem State.enterDegraded_pending (s : State) : (s.enterDegraded).pending = s.pending := by
  rfl
@[simp] theorem State.enterDegraded_now (s : State) : (s.enterDegraded).now = s.now := by
  rfl
@[simp] theorem State.enterDegraded_loader (s : State) : (s.enterDegraded).loader = s.loader := by
  rfl
@[simp] theorem State.enterDegraded_link (s : State) : (s.enterDegraded).link = s.link := by
  rfl
@[simp] theorem State.enterDegraded_peers (s : State) : (s.enterDegraded).peers = s.peers := by
  rfl
@[simp] theorem State.enterDegraded_driver (s : State) : (s.enterDegraded).driver = s.driver := by
  rfl
@[simp] theorem State.enterDegraded_odo (s : State) : (s.enterDegraded).odo = s.odo := by
  rfl
@[simp] theorem State.enterDegraded_path (s : State) : (s.enterDegraded).path = s.path := by
  rfl
@[simp] theorem State.enterDegraded_track (s : State) : (s.enterDegraded).track = s.track := by
  rfl
@[simp] theorem State.enterDegraded_steer (s : State) : (s.enterDegraded).steer = s.steer := by
  rfl
@[simp] theorem State.enterDegraded_joint (s : State) : (s.enterDegraded).joint = s.joint := by
  rfl
@[simp] theorem State.enterDegraded_brake (s : State) : (s.enterDegraded).brake = s.brake := by
  rfl
@[simp] theorem State.enterDegraded_air (s : State) : (s.enterDegraded).air = s.air := by
  rfl

@[simp] theorem State.updateMode_pending (s : State) : (s.updateMode).pending = s.pending := by
  unfold State.updateMode; split <;> (try split_ifs) <;> rfl
@[simp] theorem State.updateMode_now (s : State) : (s.updateMode).now = s.now := by
  unfold State.updateMode; split <;> (try split_ifs) <;> rfl
@[simp] theorem State.updateMode_loader (s : State) : (s.updateMode).loader = s.loader := by
  unfold State.updateMode; split <;> (try split_ifs) <;> rfl
@[simp] theorem State.updateMode_link (s : State) : (s.updateMode).link = s.link := by
  unfold State.updateMode; split <;> (try split_ifs) <;> rfl
@[simp] theorem State.updateMode_peers (s : State) : (s.updateMode).peers = s.peers := by
  unfold State.updateMode; split <;> (try split_ifs) <;> rfl
@[simp] theorem State.updateMode_driver (s : State) : (s.updateMode).driver = s.driver := by
  unfold State.updateMode; split <;> (try split_ifs) <;> rfl
@[simp] theorem State.updateMode_odo (s : State) : (s.updateMode).odo = s.odo := by
  unfold State.updateMode; split <;> (try split_ifs) <;> rfl
@[simp] theorem State.updateMode_path (s : State) : (s.updateMode).path = s.path := by
  unfold State.updateMode; split <;> (try split_ifs) <;> rfl
@[simp] theorem State.updateMode_track (s : State) : (s.updateMode).track = s.track := by
  unfold State.updateMode; split <;> (try split_ifs) <;> rfl
@[simp] theorem State.updateMode_steer (s : State) : (s.updateMode).steer = s.steer := by
  unfold State.updateMode; split <;> (try split_ifs) <;> rfl
@[simp] theorem State.updateMode_joint (s : State) : (s.updateMode).joint = s.joint := by
  unfold State.updateMode; split <;> (try split_ifs) <;> rfl
@[simp] theorem State.updateMode_brake (s : State) : (s.updateMode).brake = s.brake := by
  unfold State.updateMode; split <;> (try split_ifs) <;> rfl
@[simp] theorem State.updateMode_air (s : State) : (s.updateMode).air = s.air := by
  unfold State.updateMode; split <;> (try split_ifs) <;> rfl

@[simp] theorem State.gateReleases_pending (s : State) : (s.gateReleases).pending = s.pending := by
  unfold State.gateReleases; split_ifs <;> rfl
@[simp] theorem State.gateReleases_now (s : State) : (s.gateReleases).now = s.now := by
  unfold State.gateReleases; split_ifs <;> rfl
@[simp] theorem State.gateReleases_loader (s : State) : (s.gateReleases).loader = s.loader := by
  unfold State.gateReleases; split_ifs <;> rfl
@[simp] theorem State.gateReleases_link (s : State) : (s.gateReleases).link = s.link := by
  unfold State.gateReleases; split_ifs <;> rfl
@[simp] theorem State.gateReleases_peers (s : State) : (s.gateReleases).peers = s.peers := by
  unfold State.gateReleases; split_ifs <;> rfl
@[simp] theorem State.gateReleases_driver (s : State) : (s.gateReleases).driver = s.driver := by
  unfold State.gateReleases; split_ifs <;> rfl
@[simp] theorem State.gateReleases_odo (s : State) : (s.gateReleases).odo = s.odo := by
  unfold State.gateReleases; split_ifs <;> rfl
@[simp] theorem State.gateReleases_path (s : State) : (s.gateReleases).path = s.path := by
  unfold State.gateReleases; split_ifs <;> rfl
@[simp] theorem State.gateReleases_track (s : State) : (s.gateReleases).track = s.track := by
  unfold State.gateReleases; split_ifs <;> rfl
@[simp] theorem State.gateReleases_steer (s : State) : (s.gateReleases).steer = s.steer := by
  unfold State.gateReleases; split_ifs <;> rfl
@[simp] theorem State.gateReleases_joint (s : State) : (s.gateReleases).joint = s.joint := by
  unfold State.gateReleases; split_ifs <;> rfl
@[simp] theorem State.gateReleases_brake (s : State) : (s.gateReleases).brake = s.brake := by
  unfold State.gateReleases; split_ifs <;> rfl
@[simp] theorem State.gateReleases_air (s : State) : (s.gateReleases).air = s.air := by
  unfold State.gateReleases; split_ifs <;> rfl
@[simp] theorem State.gateReleases_sup (s : State) : (s.gateReleases).sup = s.sup := by
  unfold State.gateReleases; split_ifs <;> rfl

@[simp] theorem State.settle_pending (s : State) : (s.settle).pending = s.pending := by
  simp [State.settle]
@[simp] theorem State.settle_now (s : State) : (s.settle).now = s.now := by
  simp [State.settle]
@[simp] theorem State.settle_loader (s : State) : (s.settle).loader = s.loader := by
  simp [State.settle]
@[simp] theorem State.settle_link (s : State) : (s.settle).link = s.link := by
  simp [State.settle]
@[simp] theorem State.settle_peers (s : State) : (s.settle).peers = s.peers := by
  simp [State.settle]
@[simp] theorem State.settle_driver (s : State) : (s.settle).driver = s.driver := by
  simp [State.settle]
@[simp] theorem State.settle_path (s : State) : (s.settle).path = s.path := by
  simp [State.settle]
@[simp] theorem State.settle_track (s : State) : (s.settle).track = s.track := by
  simp [State.settle]
@[simp] theorem State.settle_steer (s : State) : (s.settle).steer = s.steer := by
  simp [State.settle]
@[simp] theorem State.settle_brake (s : State) : (s.settle).brake = s.brake := by
  simp [State.settle]

/-- Settling leaves the speed block, the joint monitor and the levelling block as the window's close leaves them. -/
@[simp] theorem State.settle_odo (s : State) : s.settle.odo = s.closeIfIdle.odo := by
  simp [State.settle]
@[simp] theorem State.settle_joint (s : State) : s.settle.joint = s.closeIfIdle.joint := by
  simp [State.settle]
@[simp] theorem State.settle_air (s : State) : s.settle.air = s.closeIfIdle.air := by
  simp [State.settle]

/-! ## The queue and the track memory -/

@[simp] theorem State.queueAlert_pending (s : State) (k : AlertKind) (slot : Nat) (v : Int) : (s.queueAlert k slot v).pending = s.pending := by
  unfold State.queueAlert; dsimp only; split_ifs <;> rfl
@[simp] theorem State.queueAlert_now (s : State) (k : AlertKind) (slot : Nat) (v : Int) : (s.queueAlert k slot v).now = s.now := by
  unfold State.queueAlert; dsimp only; split_ifs <;> rfl
@[simp] theorem State.queueAlert_loader (s : State) (k : AlertKind) (slot : Nat) (v : Int) : (s.queueAlert k slot v).loader = s.loader := by
  unfold State.queueAlert; dsimp only; split_ifs <;> rfl
@[simp] theorem State.queueAlert_peers (s : State) (k : AlertKind) (slot : Nat) (v : Int) : (s.queueAlert k slot v).peers = s.peers := by
  unfold State.queueAlert; dsimp only; split_ifs <;> rfl
@[simp] theorem State.queueAlert_driver (s : State) (k : AlertKind) (slot : Nat) (v : Int) : (s.queueAlert k slot v).driver = s.driver := by
  unfold State.queueAlert; dsimp only; split_ifs <;> rfl
@[simp] theorem State.queueAlert_odo (s : State) (k : AlertKind) (slot : Nat) (v : Int) : (s.queueAlert k slot v).odo = s.odo := by
  unfold State.queueAlert; dsimp only; split_ifs <;> rfl
@[simp] theorem State.queueAlert_path (s : State) (k : AlertKind) (slot : Nat) (v : Int) : (s.queueAlert k slot v).path = s.path := by
  unfold State.queueAlert; dsimp only; split_ifs <;> rfl
@[simp] theorem State.queueAlert_track (s : State) (k : AlertKind) (slot : Nat) (v : Int) : (s.queueAlert k slot v).track = s.track := by
  unfold State.queueAlert; dsimp only; split_ifs <;> rfl
@[simp] theorem State.queueAlert_steer (s : State) (k : AlertKind) (slot : Nat) (v : Int) : (s.queueAlert k slot v).steer = s.steer := by
  unfold State.queueAlert; dsimp only; split_ifs <;> rfl
@[simp] theorem State.queueAlert_joint (s : State) (k : AlertKind) (slot : Nat) (v : Int) : (s.queueAlert k slot v).joint = s.joint := by
  unfold State.queueAlert; dsimp only; split_ifs <;> rfl
@[simp] theorem State.queueAlert_brake (s : State) (k : AlertKind) (slot : Nat) (v : Int) : (s.queueAlert k slot v).brake = s.brake := by
  unfold State.queueAlert; dsimp only; split_ifs <;> rfl
@[simp] theorem State.queueAlert_air (s : State) (k : AlertKind) (slot : Nat) (v : Int) : (s.queueAlert k slot v).air = s.air := by
  unfold State.queueAlert; dsimp only; split_ifs <;> rfl
@[simp] theorem State.queueAlert_doors (s : State) (k : AlertKind) (slot : Nat) (v : Int) : (s.queueAlert k slot v).doors = s.doors := by
  unfold State.queueAlert; dsimp only; split_ifs <;> rfl
@[simp] theorem State.queueAlert_sup (s : State) (k : AlertKind) (slot : Nat) (v : Int) : (s.queueAlert k slot v).sup = s.sup := by
  unfold State.queueAlert; dsimp only; split_ifs <;> rfl

@[simp] theorem State.queueDriver_pending (s : State) (p : Payload) : (s.queueDriver p).pending = s.pending := by
  rfl
@[simp] theorem State.queueDriver_now (s : State) (p : Payload) : (s.queueDriver p).now = s.now := by
  rfl
@[simp] theorem State.queueDriver_loader (s : State) (p : Payload) : (s.queueDriver p).loader = s.loader := by
  rfl
@[simp] theorem State.queueDriver_peers (s : State) (p : Payload) : (s.queueDriver p).peers = s.peers := by
  rfl
@[simp] theorem State.queueDriver_driver (s : State) (p : Payload) : (s.queueDriver p).driver = s.driver := by
  rfl
@[simp] theorem State.queueDriver_odo (s : State) (p : Payload) : (s.queueDriver p).odo = s.odo := by
  rfl
@[simp] theorem State.queueDriver_path (s : State) (p : Payload) : (s.queueDriver p).path = s.path := by
  rfl
@[simp] theorem State.queueDriver_track (s : State) (p : Payload) : (s.queueDriver p).track = s.track := by
  rfl
@[simp] theorem State.queueDriver_steer (s : State) (p : Payload) : (s.queueDriver p).steer = s.steer := by
  rfl
@[simp] theorem State.queueDriver_joint (s : State) (p : Payload) : (s.queueDriver p).joint = s.joint := by
  rfl
@[simp] theorem State.queueDriver_brake (s : State) (p : Payload) : (s.queueDriver p).brake = s.brake := by
  rfl
@[simp] theorem State.queueDriver_air (s : State) (p : Payload) : (s.queueDriver p).air = s.air := by
  rfl
@[simp] theorem State.queueDriver_doors (s : State) (p : Payload) : (s.queueDriver p).doors = s.doors := by
  rfl
@[simp] theorem State.queueDriver_sup (s : State) (p : Payload) : (s.queueDriver p).sup = s.sup := by
  rfl

@[simp] theorem State.queueState_pending (s : State) (p : Payload) : (s.queueState p).pending = s.pending := by
  rfl
@[simp] theorem State.queueState_now (s : State) (p : Payload) : (s.queueState p).now = s.now := by
  rfl
@[simp] theorem State.queueState_loader (s : State) (p : Payload) : (s.queueState p).loader = s.loader := by
  rfl
@[simp] theorem State.queueState_peers (s : State) (p : Payload) : (s.queueState p).peers = s.peers := by
  rfl
@[simp] theorem State.queueState_driver (s : State) (p : Payload) : (s.queueState p).driver = s.driver := by
  rfl
@[simp] theorem State.queueState_odo (s : State) (p : Payload) : (s.queueState p).odo = s.odo := by
  rfl
@[simp] theorem State.queueState_path (s : State) (p : Payload) : (s.queueState p).path = s.path := by
  rfl
@[simp] theorem State.queueState_track (s : State) (p : Payload) : (s.queueState p).track = s.track := by
  rfl
@[simp] theorem State.queueState_steer (s : State) (p : Payload) : (s.queueState p).steer = s.steer := by
  rfl
@[simp] theorem State.queueState_joint (s : State) (p : Payload) : (s.queueState p).joint = s.joint := by
  rfl
@[simp] theorem State.queueState_brake (s : State) (p : Payload) : (s.queueState p).brake = s.brake := by
  rfl
@[simp] theorem State.queueState_air (s : State) (p : Payload) : (s.queueState p).air = s.air := by
  rfl
@[simp] theorem State.queueState_doors (s : State) (p : Payload) : (s.queueState p).doors = s.doors := by
  rfl
@[simp] theorem State.queueState_sup (s : State) (p : Payload) : (s.queueState p).sup = s.sup := by
  rfl

@[simp] theorem State.queueAnswer_pending (s : State) (p : Payload) : (s.queueAnswer p).pending = s.pending := by
  rfl
@[simp] theorem State.queueAnswer_now (s : State) (p : Payload) : (s.queueAnswer p).now = s.now := by
  rfl
@[simp] theorem State.queueAnswer_loader (s : State) (p : Payload) : (s.queueAnswer p).loader = s.loader := by
  rfl
@[simp] theorem State.queueAnswer_peers (s : State) (p : Payload) : (s.queueAnswer p).peers = s.peers := by
  rfl
@[simp] theorem State.queueAnswer_driver (s : State) (p : Payload) : (s.queueAnswer p).driver = s.driver := by
  rfl
@[simp] theorem State.queueAnswer_odo (s : State) (p : Payload) : (s.queueAnswer p).odo = s.odo := by
  rfl
@[simp] theorem State.queueAnswer_path (s : State) (p : Payload) : (s.queueAnswer p).path = s.path := by
  rfl
@[simp] theorem State.queueAnswer_track (s : State) (p : Payload) : (s.queueAnswer p).track = s.track := by
  rfl
@[simp] theorem State.queueAnswer_steer (s : State) (p : Payload) : (s.queueAnswer p).steer = s.steer := by
  rfl
@[simp] theorem State.queueAnswer_joint (s : State) (p : Payload) : (s.queueAnswer p).joint = s.joint := by
  rfl
@[simp] theorem State.queueAnswer_brake (s : State) (p : Payload) : (s.queueAnswer p).brake = s.brake := by
  rfl
@[simp] theorem State.queueAnswer_air (s : State) (p : Payload) : (s.queueAnswer p).air = s.air := by
  rfl
@[simp] theorem State.queueAnswer_doors (s : State) (p : Payload) : (s.queueAnswer p).doors = s.doors := by
  rfl
@[simp] theorem State.queueAnswer_sup (s : State) (p : Payload) : (s.queueAnswer p).sup = s.sup := by
  rfl

@[simp] theorem State.queuePath_pending (s : State) (x : PathSample) : (s.queuePath x).pending = s.pending := by
  unfold State.queuePath; split_ifs <;> rfl
@[simp] theorem State.queuePath_now (s : State) (x : PathSample) : (s.queuePath x).now = s.now := by
  unfold State.queuePath; split_ifs <;> rfl
@[simp] theorem State.queuePath_loader (s : State) (x : PathSample) : (s.queuePath x).loader = s.loader := by
  unfold State.queuePath; split_ifs <;> rfl
@[simp] theorem State.queuePath_peers (s : State) (x : PathSample) : (s.queuePath x).peers = s.peers := by
  unfold State.queuePath; split_ifs <;> rfl
@[simp] theorem State.queuePath_driver (s : State) (x : PathSample) : (s.queuePath x).driver = s.driver := by
  unfold State.queuePath; split_ifs <;> rfl
@[simp] theorem State.queuePath_odo (s : State) (x : PathSample) : (s.queuePath x).odo = s.odo := by
  unfold State.queuePath; split_ifs <;> rfl
@[simp] theorem State.queuePath_path (s : State) (x : PathSample) : (s.queuePath x).path = s.path := by
  unfold State.queuePath; split_ifs <;> rfl
@[simp] theorem State.queuePath_track (s : State) (x : PathSample) : (s.queuePath x).track = s.track := by
  unfold State.queuePath; split_ifs <;> rfl
@[simp] theorem State.queuePath_steer (s : State) (x : PathSample) : (s.queuePath x).steer = s.steer := by
  unfold State.queuePath; split_ifs <;> rfl
@[simp] theorem State.queuePath_joint (s : State) (x : PathSample) : (s.queuePath x).joint = s.joint := by
  unfold State.queuePath; split_ifs <;> rfl
@[simp] theorem State.queuePath_brake (s : State) (x : PathSample) : (s.queuePath x).brake = s.brake := by
  unfold State.queuePath; split_ifs <;> rfl
@[simp] theorem State.queuePath_air (s : State) (x : PathSample) : (s.queuePath x).air = s.air := by
  unfold State.queuePath; split_ifs <;> rfl
@[simp] theorem State.queuePath_doors (s : State) (x : PathSample) : (s.queuePath x).doors = s.doors := by
  unfold State.queuePath; split_ifs <;> rfl
@[simp] theorem State.queuePath_sup (s : State) (x : PathSample) : (s.queuePath x).sup = s.sup := by
  unfold State.queuePath; split_ifs <;> rfl

@[simp] theorem State.clearTrack_pending (s : State) : (s.clearTrack).pending = s.pending := by
  rfl
@[simp] theorem State.clearTrack_now (s : State) : (s.clearTrack).now = s.now := by
  rfl
@[simp] theorem State.clearTrack_loader (s : State) : (s.clearTrack).loader = s.loader := by
  rfl
@[simp] theorem State.clearTrack_link (s : State) : (s.clearTrack).link = s.link := by
  rfl
@[simp] theorem State.clearTrack_peers (s : State) : (s.clearTrack).peers = s.peers := by
  rfl
@[simp] theorem State.clearTrack_driver (s : State) : (s.clearTrack).driver = s.driver := by
  rfl
@[simp] theorem State.clearTrack_odo (s : State) : (s.clearTrack).odo = s.odo := by
  rfl
@[simp] theorem State.clearTrack_path (s : State) : (s.clearTrack).path = s.path := by
  rfl
@[simp] theorem State.clearTrack_steer (s : State) : (s.clearTrack).steer = s.steer := by
  rfl
@[simp] theorem State.clearTrack_joint (s : State) : (s.clearTrack).joint = s.joint := by
  rfl
@[simp] theorem State.clearTrack_brake (s : State) : (s.clearTrack).brake = s.brake := by
  rfl
@[simp] theorem State.clearTrack_air (s : State) : (s.clearTrack).air = s.air := by
  rfl
@[simp] theorem State.clearTrack_doors (s : State) : (s.clearTrack).doors = s.doors := by
  rfl

/-! ## Backup -/

@[simp] theorem State.enterBackup_pending (s : State) : (s.enterBackup).pending = s.pending := by
  unfold State.enterBackup; split_ifs <;> rfl
@[simp] theorem State.enterBackup_now (s : State) : (s.enterBackup).now = s.now := by
  unfold State.enterBackup; split_ifs <;> rfl
@[simp] theorem State.enterBackup_loader (s : State) : (s.enterBackup).loader = s.loader := by
  unfold State.enterBackup; split_ifs <;> rfl
@[simp] theorem State.enterBackup_link (s : State) : (s.enterBackup).link = s.link := by
  unfold State.enterBackup; split_ifs <;> rfl
@[simp] theorem State.enterBackup_peers (s : State) : (s.enterBackup).peers = s.peers := by
  unfold State.enterBackup; split_ifs <;> rfl
@[simp] theorem State.enterBackup_driver (s : State) : (s.enterBackup).driver = s.driver := by
  unfold State.enterBackup; split_ifs <;> rfl
@[simp] theorem State.enterBackup_odo (s : State) : (s.enterBackup).odo = s.odo := by
  unfold State.enterBackup; split_ifs <;> rfl
@[simp] theorem State.enterBackup_path (s : State) : (s.enterBackup).path = s.path := by
  unfold State.enterBackup; split_ifs <;> rfl
@[simp] theorem State.enterBackup_track (s : State) : (s.enterBackup).track = s.track := by
  unfold State.enterBackup; split_ifs <;> rfl
@[simp] theorem State.enterBackup_steer (s : State) : (s.enterBackup).steer = s.steer := by
  unfold State.enterBackup; split_ifs <;> rfl
@[simp] theorem State.enterBackup_joint (s : State) : (s.enterBackup).joint = s.joint := by
  unfold State.enterBackup; split_ifs <;> rfl
@[simp] theorem State.enterBackup_air (s : State) : (s.enterBackup).air = s.air := by
  unfold State.enterBackup; split_ifs <;> rfl
@[simp] theorem State.enterBackup_sup (s : State) : (s.enterBackup).sup = s.sup := by
  unfold State.enterBackup; split_ifs <;> rfl

@[simp] theorem State.latchBackup_pending (s : State) (c : LatchedCause) : (s.latchBackup c).pending = s.pending := by
  simp [State.latchBackup]
@[simp] theorem State.latchBackup_now (s : State) (c : LatchedCause) : (s.latchBackup c).now = s.now := by
  simp [State.latchBackup]
@[simp] theorem State.latchBackup_loader (s : State) (c : LatchedCause) : (s.latchBackup c).loader = s.loader := by
  simp [State.latchBackup]
@[simp] theorem State.latchBackup_link (s : State) (c : LatchedCause) : (s.latchBackup c).link = s.link := by
  simp [State.latchBackup]
@[simp] theorem State.latchBackup_peers (s : State) (c : LatchedCause) : (s.latchBackup c).peers = s.peers := by
  simp [State.latchBackup]
@[simp] theorem State.latchBackup_driver (s : State) (c : LatchedCause) : (s.latchBackup c).driver = s.driver := by
  simp [State.latchBackup]
@[simp] theorem State.latchBackup_odo (s : State) (c : LatchedCause) : (s.latchBackup c).odo = s.odo := by
  simp [State.latchBackup]
@[simp] theorem State.latchBackup_path (s : State) (c : LatchedCause) : (s.latchBackup c).path = s.path := by
  simp [State.latchBackup]
@[simp] theorem State.latchBackup_track (s : State) (c : LatchedCause) : (s.latchBackup c).track = s.track := by
  simp [State.latchBackup]
@[simp] theorem State.latchBackup_steer (s : State) (c : LatchedCause) : (s.latchBackup c).steer = s.steer := by
  simp [State.latchBackup]
@[simp] theorem State.latchBackup_joint (s : State) (c : LatchedCause) : (s.latchBackup c).joint = s.joint := by
  simp [State.latchBackup]
@[simp] theorem State.latchBackup_air (s : State) (c : LatchedCause) : (s.latchBackup c).air = s.air := by
  simp [State.latchBackup]
@[simp] theorem State.latchBackup_sup (s : State) (c : LatchedCause) : (s.latchBackup c).sup = s.sup := by
  simp [State.latchBackup]

@[simp] theorem State.meetUnexpected_pending (s : State) : (s.meetUnexpected).pending = s.pending := by
  unfold State.meetUnexpected; split_ifs <;> simp
@[simp] theorem State.meetUnexpected_now (s : State) : (s.meetUnexpected).now = s.now := by
  unfold State.meetUnexpected; split_ifs <;> simp
@[simp] theorem State.meetUnexpected_loader (s : State) : (s.meetUnexpected).loader = s.loader := by
  unfold State.meetUnexpected; split_ifs <;> simp
@[simp] theorem State.meetUnexpected_peers (s : State) : (s.meetUnexpected).peers = s.peers := by
  unfold State.meetUnexpected; split_ifs <;> simp
@[simp] theorem State.meetUnexpected_driver (s : State) : (s.meetUnexpected).driver = s.driver := by
  unfold State.meetUnexpected; split_ifs <;> simp
@[simp] theorem State.meetUnexpected_path (s : State) : (s.meetUnexpected).path = s.path := by
  unfold State.meetUnexpected; split_ifs <;> simp
@[simp] theorem State.meetUnexpected_track (s : State) : (s.meetUnexpected).track = s.track := by
  unfold State.meetUnexpected; split_ifs <;> simp
@[simp] theorem State.meetUnexpected_steer (s : State) : (s.meetUnexpected).steer = s.steer := by
  unfold State.meetUnexpected; split_ifs <;> simp
@[simp] theorem State.meetUnexpected_brake (s : State) : (s.meetUnexpected).brake = s.brake := by
  unfold State.meetUnexpected; split_ifs <;> simp
@[simp] theorem State.meetUnexpected_doors (s : State) : (s.meetUnexpected).doors = s.doors := by
  unfold State.meetUnexpected; split_ifs <;> simp

end Sys2Proof.Machine
end

