-- ==== Sys2Proof/Laws/Ops.lean ====
section
/-! SUPPORT. What each shared operation can do, said once: time passing, outcomes of an expiry, fault records, raising and
ending a fault, the deferral window, the transmit queue, reception, valve channels, release lines and backup. -/

namespace Sys2Proof.Machine

/-! ## Commands -/

/-- A command's answer is its work, done after its time has passed. -/
theorem State.take_eq_next {s t : State} {dt : Micros} {work : State → State} :
    s.take dt work = .next t ↔ t = work (s.advance dt) :=
  ⟨fun h => by injection h with h; exact h.symm, fun h => h ▸ rfl⟩

/-- A statement of completion is a statement about the command's work. -/
theorem completes_take {i : Instr} {s : State} {dt : Micros} {work : State → State} {holds : State → Prop}
    (h : exec i s = s.take dt work) : completes i s holds ↔ holds (work (s.advance dt)) := by
  unfold completes
  rw [h]
  exact ⟨fun ⟨t, e, ht⟩ => State.take_eq_next.mp e ▸ ht, fun ht => ⟨_, rfl, ht⟩⟩

/-- Every command answers a next state: the part has no fault that stops it, and no command is refused. -/
theorem exec_answers (i : Instr) (s : State) : ∃ t, exec i s = .next t := by
  cases i <;> exact ⟨_, rfl⟩

/-- An outcome of an expiry is the whole expiry or nothing. -/
theorem State.expiryIf_cases (s after : State) (happens : Bool) :
    (happens = true ∧ s.expiryIf after happens = after) ∨ (happens = false ∧ s.expiryIf after happens = s) := by
  cases happens
  · exact .inr ⟨rfl, rfl⟩
  · exact .inl ⟨rfl, rfl⟩

@[simp] theorem State.expiryIf_true (s after : State) : s.expiryIf after true = after := rfl
@[simp] theorem State.expiryIf_false (s after : State) : s.expiryIf after false = s := rfl

theorem State.withCopy_some {s : State} {p : Params} (h : s.loader.copy = some p) (work : Params → State → State) :
    s.withCopy work = work p s := by
  unfold State.withCopy; rw [h]

theorem State.withCopy_none {s : State} (h : s.loader.copy = none) (work : Params → State → State) :
    s.withCopy work = s := by
  unfold State.withCopy; rw [h]

/-- `onlyChanges` from the blocks that stay. -/
theorem State.onlyChanges_refl (s : State) (blocks : List Block) : s.onlyChanges blocks s :=
  ⟨rfl, rfl, fun b => .inr (by cases b <;> rfl)⟩

theorem State.onlyChanges_trans {s t u : State} {blocks : List Block} (h : s.onlyChanges blocks t)
    (k : t.onlyChanges blocks u) : s.onlyChanges blocks u := by
  obtain ⟨hp, hn, hb⟩ := h
  obtain ⟨kp, kn, kb⟩ := k
  refine ⟨kp.trans hp, kn.trans hn, fun b => ?_⟩
  rcases hb b with e | e
  · exact .inl e
  · rcases kb b with f | f
    · exact .inl f
    · refine .inr ?_
      cases b <;> exact Eq.trans f e

theorem State.onlyChanges_mono {s t : State} {few more : List Block} (h : s.onlyChanges few t)
    (sub : ∀ b ∈ few, b ∈ more) : s.onlyChanges more t :=
  ⟨h.1, h.2.1, fun b => (h.2.2 b).imp (sub b) id⟩

/-! ## Records and conditions (R182, R183) -/

@[simp] theorem Supervisor.addCondition_faults (u : Supervisor) (c : FaultCode) : (u.addCondition c).faults = u.faults := by
  unfold Supervisor.addCondition; split <;> rfl
@[simp] theorem Supervisor.addCondition_mode (u : Supervisor) (c : FaultCode) : (u.addCondition c).mode = u.mode := by
  unfold Supervisor.addCondition; split <;> rfl

/-- After a raise a condition is present; the others stand as they did. -/
@[simp] theorem Supervisor.mem_addCondition (u : Supervisor) (c d : FaultCode) :
    d ∈ (u.addCondition c).conditions ↔ d ∈ u.conditions ∨ d = c := by
  unfold Supervisor.addCondition
  split
  · next h =>
    refine ⟨.inl, fun e => e.elim id fun e => ?_⟩
    subst e
    simpa using h
  · simp

/-- A change of the records of one code leaves the conditions, and the number and order of the records' codes. -/
@[simp] theorem Supervisor.update_conditions (u : Supervisor) (c : FaultCode) (f : FaultRecord → FaultRecord) :
    (u.update c f).conditions = u.conditions := rfl
@[simp] theorem Supervisor.update_length (u : Supervisor) (c : FaultCode) (f : FaultRecord → FaultRecord) :
    (u.update c f).faults.length = u.faults.length := by
  simp [Supervisor.update]

theorem Supervisor.update_codes (u : Supervisor) (c : FaultCode) (f : FaultRecord → FaultRecord)
    (hf : ∀ r, (f r).code = r.code) : (u.update c f).faults.map FaultRecord.code = u.faults.map FaultRecord.code := by
  simp only [Supervisor.update, List.map_map]
  refine List.map_congr_left fun r _ => ?_
  simp only [Function.comp]
  split
  · exact hf r
  · rfl

@[simp] theorem FaultRecord.raiseAgain_code (x : RecordState) (time : Nat) (r : FaultRecord) :
    (r.raiseAgain x time).code = r.code := by
  unfold FaultRecord.raiseAgain; split <;> rfl

/-- A new record takes the newest end, in place of the oldest PASSIVE record of a full list, or is counted as lost. -/
theorem Supervisor.addRecord_cases (u : Supervisor) (r : FaultRecord) :
    (u.faults.length < 16 ∧ u.addRecord r = { u with faults := u.faults ++ [r] })
    ∨ (16 ≤ u.faults.length ∧ (∃ x ∈ u.faults, x.state = .passive)
        ∧ u.addRecord r = { u with faults := u.faults.eraseP (fun x => x.state == .passive) ++ [r] })
    ∨ (16 ≤ u.faults.length ∧ (∀ x ∈ u.faults, x.state ≠ .passive)
        ∧ u.addRecord r = { u with overflow := min 255 (u.overflow + 1), listFull := true }) := by
  unfold Supervisor.addRecord Config.faultCapacity
  split_ifs with h k
  · exact .inl ⟨h, rfl⟩
  · exact .inr (.inl ⟨Nat.le_of_not_lt h, by simpa using k, rfl⟩)
  · exact .inr (.inr ⟨Nat.le_of_not_lt h, by simpa using k, rfl⟩)

/-- A raise finds a record of its code, or adds one. -/
theorem Supervisor.record_cases (u : Supervisor) (c : FaultCode) (x : RecordState) (time : Nat) :
    ((∃ r, u.find c = some r) ∧ u.record c x time = u.update c (FaultRecord.raiseAgain x time))
    ∨ (u.find c = none
        ∧ u.record c x time = u.addRecord { code := c, state := x, count := 1, first := time, last := time }) := by
  unfold Supervisor.record
  cases h : u.find c with
  | some r => exact .inl ⟨⟨r, rfl⟩, rfl⟩
  | none => exact .inr ⟨rfl, rfl⟩

/-- Recording a raise touches the list, its overflow count and its full flag. -/
theorem Supervisor.record_frame (u : Supervisor) (c : FaultCode) (x : RecordState) (time : Nat) :
    ∃ faults overflow full,
      u.record c x time = { u with faults := faults, overflow := overflow, listFull := full } := by
  rcases u.record_cases c x time with ⟨-, e⟩ | ⟨-, e⟩
  · exact ⟨_, u.overflow, u.listFull, e⟩
  · rcases u.addRecord_cases { code := c, state := x, count := 1, first := time, last := time } with
      ⟨-, f⟩ | ⟨-, -, f⟩ | ⟨-, -, f⟩
    · exact ⟨_, _, _, e.trans f⟩
    · exact ⟨_, _, _, e.trans f⟩
    · exact ⟨_, _, _, e.trans f⟩

@[simp] theorem Supervisor.record_conditions (u : Supervisor) (c : FaultCode) (x : RecordState) (time : Nat) :
    (u.record c x time).conditions = u.conditions := by
  obtain ⟨_, _, _, e⟩ := u.record_frame c x time; rw [e]
@[simp] theorem Supervisor.record_mode (u : Supervisor) (c : FaultCode) (x : RecordState) (time : Nat) :
    (u.record c x time).mode = u.mode := by
  obtain ⟨_, _, _, e⟩ := u.record_frame c x time; rw [e]
@[simp] theorem Supervisor.record_windowFrom (u : Supervisor) (c : FaultCode) (x : RecordState) (time : Nat) :
    (u.record c x time).windowFrom = u.windowFrom := by
  obtain ⟨_, _, _, e⟩ := u.record_frame c x time; rw [e]
@[simp] theorem Supervisor.record_deferred (u : Supervisor) (c : FaultCode) (x : RecordState) (time : Nat) :
    (u.record c x time).deferred = u.deferred := by
  obtain ⟨_, _, _, e⟩ := u.record_frame c x time; rw [e]
@[simp] theorem Supervisor.record_effects (u : Supervisor) (c : FaultCode) (x : RecordState) (time : Nat) :
    (u.record c x time).effects = u.effects := by
  obtain ⟨_, _, _, e⟩ := u.record_frame c x time; rw [e]

/-- A condition is present or not as the supervisor lists it. -/
theorem State.hasCondition_iff (s : State) (c : FaultCode) : s.hasCondition c = true ↔ c ∈ s.sup.conditions := by
  simp [State.hasCondition]

theorem Supervisor.endCondition_conditions (u : Supervisor) (c : FaultCode) :
    (u.endCondition c).conditions = u.conditions.filter (fun x => x != c) := rfl

/-- The end of a condition ends that one, and leaves the others. -/
@[simp] theorem State.hasCondition_endCondition (s : State) (c d : FaultCode) :
    (s.endCondition c).hasCondition d = (s.hasCondition d && d != c) := by
  rw [Bool.eq_iff_iff, State.hasCondition_iff]
  simp [State.endCondition, Supervisor.endCondition_conditions, State.hasCondition, List.mem_filter]

/-! ## Raising a fault (R180, R182) -/

/-- A fault of a code that is not deferrable, and not of both wheels, is recorded and nothing else. -/
theorem State.raiseFault_recorded (s : State) {c : FaultCode} (hb : c ≠ .wheelSensorsBoth) (hc : c.deferrable = false) :
    s.raiseFault c = s.setSup ((s.sup.addCondition c).record c .active s.stationTime) := by
  simp [State.raiseFault, hb, hc]

/-- So is one whose consequence is already in effect. -/
theorem State.raiseFault_again (s : State) {c : FaultCode} (hb : c ≠ .wheelSensorsBoth) (he : s.inEffect c = true) :
    s.raiseFault c = s.setSup ((s.sup.addCondition c).record c .active s.stationTime) := by
  simp [State.raiseFault, hb, he]

/-- A deferrable fault outside a protected manoeuvre, with no window open, has its consequence at once. -/
theorem State.raiseFault_immediate (s : State) {c : FaultCode} (hc : c.deferrable = true) (he : s.inEffect c = false)
    (hm : s.protectedManoeuvre = false) (hw : s.sup.windowFrom = none) :
    s.raiseFault c = (s.setSup ((s.sup.addCondition c).record c .active s.stationTime)).applyConsequence c := by
  have hb : c ≠ .wheelSensorsBoth := by rintro rfl; exact absurd hc (by decide)
  simp [State.raiseFault, hb, hc, he, hm, hw]

/-- A deferrable fault during a protected manoeuvre, or with the window open, is deferred. -/
theorem State.raiseFault_deferred (s : State) {c : FaultCode} (hc : c.deferrable = true) (he : s.inEffect c = false)
    (hm : s.protectedManoeuvre = true ∨ s.sup.windowFrom.isSome = true) :
    ∃ u : Supervisor, s.raiseFault c = s.setSup u ∧ c ∈ u.deferred ∧ u.windowFrom = some (s.sup.windowFrom.getD s.now)
      ∧ u.conditions = (s.sup.addCondition c).conditions ∧ (∀ d, d ∈ u.deferred → d ∈ s.sup.deferred ∨ d = c)
      ∧ u.faults = ((s.sup.addCondition c).record c .deferred s.stationTime).faults := by
  have hb : c ≠ .wheelSensorsBoth := by rintro rfl; exact absurd hc (by decide)
  have hd : (s.sup.addCondition c).deferred = s.sup.deferred := by
    unfold Supervisor.addCondition; split <;> rfl
  have hm' : (s.protectedManoeuvre || s.sup.windowFrom.isSome) = true := by simpa using hm
  refine ⟨{ (s.sup.addCondition c).record c .deferred s.stationTime with
      windowFrom := some (s.sup.windowFrom.getD s.now)
      deferred := if (s.sup.addCondition c).deferred.contains c then (s.sup.addCondition c).deferred
        else (s.sup.addCondition c).deferred ++ [c] }, ?_, ?_, rfl, by simp, ?_, rfl⟩
  · unfold State.raiseFault
    dsimp only
    rw [if_neg hb, if_neg (by simp [hc, he]), if_pos hm']
  · simp only [hd]; split
    · next h => simpa using h
    · simp
  · intro d; simp only [hd]; split
    · exact .inl
    · simp

@[simp] theorem Supervisor.addEffect_conditions (u : Supervisor) (c : FaultCode) :
    (u.addEffect c).conditions = u.conditions := by
  unfold Supervisor.addEffect; split <;> rfl

@[simp] theorem Supervisor.takePending_conditions (u : Supervisor) (c : FaultCode) :
    (u.takePending c).conditions = u.conditions := by
  unfold Supervisor.takePending
  split
  · rw [Supervisor.addEffect_conditions]; rfl
  · rfl

@[simp] theorem State.applyConsequence_conditions (s : State) (c : FaultCode) :
    (s.applyConsequence c).sup.conditions = s.sup.conditions := by
  cases c <;> simp [State.applyConsequence]

/-- A raise makes its condition present, and leaves the others. -/
theorem State.mem_conditions_raiseFault (s : State) (c d : FaultCode) :
    d ∈ (s.raiseFault c).sup.conditions ↔ d ∈ s.sup.conditions ∨ d = c := by
  unfold State.raiseFault
  dsimp only
  split_ifs
  · simp [State.applyBothWheels]
  · simp
  · simp
  · simp
  · simp

@[simp] theorem State.hasCondition_raiseFault (s : State) (c d : FaultCode) :
    (s.raiseFault c).hasCondition d = (s.hasCondition d || d == c) := by
  rw [Bool.eq_iff_iff, State.hasCondition_iff, State.mem_conditions_raiseFault]
  simp [State.hasCondition]

/-- A single event leaves no condition. -/
@[simp] theorem State.hasCondition_raiseEvent (s : State) (c d : FaultCode) :
    (s.raiseEvent c).hasCondition d = (s.hasCondition d && d != c) := by
  unfold State.raiseEvent
  rw [State.hasCondition_endCondition, State.hasCondition_raiseFault]
  by_cases h : d = c
  · rw [h]; simp
  · rw [beq_eq_false_iff_ne.mpr h, Bool.or_false]

/-- A tested condition begins with a raise, goes on without one, or ends. -/
theorem State.follow_cases (s : State) (c : FaultCode) (present : Bool) :
    (present = true ∧ s.hasCondition c = true ∧ s.follow c present = s)
    ∨ (present = true ∧ s.hasCondition c = false ∧ s.follow c present = s.raiseFault c)
    ∨ (present = false ∧ s.follow c present = s.endCondition c) := by
  cases present
  · exact .inr (.inr ⟨rfl, rfl⟩)
  · cases h : s.hasCondition c
    · exact .inr (.inl ⟨rfl, rfl, by simp [State.follow, h]⟩)
    · exact .inl ⟨rfl, rfl, by simp [State.follow, h]⟩

/-- After the test its condition is what the test found, and the others stand as they did. -/
@[simp] theorem State.hasCondition_follow (s : State) (c d : FaultCode) (present : Bool) :
    (s.follow c present).hasCondition d = if d = c then present else s.hasCondition d := by
  rcases s.follow_cases c present with ⟨rfl, h, e⟩ | ⟨rfl, -, e⟩ | ⟨rfl, e⟩ <;> rw [e] <;> by_cases k : d = c
  · rw [k, h]; simp
  all_goals simp [k]

/-! ## Consequences and the window (R180, R181) -/

/-- The blocks that a consequence of Table 10.6 changes. -/
theorem State.applyConsequence_onlyChanges (s : State) (c : FaultCode) :
    s.onlyChanges [.sup, .odo, .joint, .air] (s.applyConsequence c) := by
  refine ⟨by simp, by simp, fun b => ?_⟩
  cases b <;> first | exact .inl (by decide) | exact .inr (by simp [State.same])

theorem State.raiseFault_onlyChanges (s : State) (c : FaultCode) :
    s.onlyChanges [.sup, .odo, .joint, .air] (s.raiseFault c) := by
  refine ⟨by simp, by simp, fun b => ?_⟩
  cases b <;> first | exact .inl (by decide) | exact .inr (by simp [State.same])

theorem State.follow_onlyChanges (s : State) (c : FaultCode) (present : Bool) :
    s.onlyChanges [.sup, .odo, .joint, .air] (s.follow c present) := by
  refine ⟨by simp, by simp, fun b => ?_⟩
  cases b <;> first | exact .inl (by decide) | exact .inr (by simp [State.same])

@[simp] theorem State.closeWindow_windowFrom (s : State) : s.closeWindow.sup.windowFrom = none := rfl
@[simp] theorem State.closeWindow_deferred (s : State) : s.closeWindow.sup.deferred = [] := rfl

/-- A consequence that has been applied is in effect, where its code is deferrable. -/
theorem State.inEffect_applyConsequence (s : State) {c : FaultCode} (h : c.deferrable = true) (d : FaultCode) :
    (s.applyConsequence c).inEffect d = (s.inEffect d || d == c) := by
  have key : ∀ u : Supervisor, (u.addEffect c).effects.contains d = (u.effects.contains d || d == c) := fun u => by
    unfold Supervisor.addEffect
    split
    · next k => by_cases e : d = c <;> simp_all
    · by_cases e : d = c <;> simp [e, Bool.or_comm]
  cases c <;> first | exact absurd h (by decide) | exact key _

/-! ## The transmit queue (R14 to R17) -/

/-- What each queueing puts into the link engine. -/
theorem State.queueAlert_link (s : State) (kind : AlertKind) (slot : Nat) (value : Int) :
    ∃ q : Queued, q.frame = { identifier := s.station, payload := encodeAlert ⟨kind, s.station, slot, value⟩ }
      ∧ (s.link.alerts.length < 2 →
          s.queueAlert kind slot value =
            s.setLink { s.link with nextTicket := s.link.nextTicket + 1, alerts := s.link.alerts ++ [q] })
      ∧ (2 ≤ s.link.alerts.length →
          s.queueAlert kind slot value =
            s.setLink { s.link with nextTicket := s.link.nextTicket + 1, alerts := s.link.alerts.tail ++ [q],
                                    overflow := min 255 (s.link.overflow + 1) }) := by
  refine ⟨s.ticketed classAlert (encodeAlert ⟨kind, s.station, slot, value⟩), ?_, fun h => ?_, fun h => ?_⟩
  · simp [State.ticketed, identifierOf, classAlert]
  · simp [State.queueAlert, h]
  · simp [State.queueAlert, Nat.not_lt.mpr h]

theorem State.queueState_link (s : State) (payload : Payload) :
    (s.queueState payload).link =
      { s.link with
        stateFrame := some ⟨s.link.nextTicket, ⟨24 + s.station, payload⟩⟩, nextTicket := s.link.nextTicket + 1 } := rfl

theorem State.queueDriver_link (s : State) (payload : Payload) :
    (s.queueDriver payload).link =
      { s.link with
        driver := some ⟨s.link.nextTicket, ⟨8 + s.station, payload⟩⟩, nextTicket := s.link.nextTicket + 1 } := rfl

theorem State.queueAnswer_link (s : State) (payload : Payload) :
    (s.queueAnswer payload).link =
      { s.link with
        answer := some ⟨s.link.nextTicket, ⟨48 + s.station, payload⟩⟩, nextTicket := s.link.nextTicket + 1 } := rfl

/-- A PATH frame is taken while fewer than four wait; otherwise the drop is counted. -/
theorem State.queuePath_cases (s : State) (sample : PathSample) :
    (s.link.paths.length < 4
      ∧ s.queuePath sample =
        s.setLink { s.link with
          paths := s.link.paths ++ [⟨s.link.nextTicket, ⟨16 + s.station, encodePath sample⟩⟩]
          nextTicket := s.link.nextTicket + 1 })
    ∨ (4 ≤ s.link.paths.length
      ∧ s.queuePath sample = s.setLink { s.link with drops := min 255 (s.link.drops + 1) }) := by
  by_cases h : s.link.paths.length < 4
  · exact .inl ⟨h, by simp [State.queuePath, Link.takesPath, h, State.ticketed, identifierOf, classPath]⟩
  · exact .inr ⟨Nat.le_of_not_lt h, by simp [State.queuePath, Link.takesPath, h]⟩

/-! ## Reception (R25, R26) -/

/-- A frame of another station 1..N reaches its handler. -/
theorem State.received_peer {s : State} {k : BitVec 3} (h : s.hearsPeer k) (handle : State → State) :
    s.received k.toNat handle = handle s := by
  obtain ⟨h1, h2, h3, h4, h5⟩ := h
  have e : s.arrival k.toNat = .peer := by
    unfold State.arrival
    rw [if_neg (by simp [h1, h2]), if_neg h5, if_neg (by omega)]
  simp [State.received, e]

/-- A frame that is the station's own or comes while the engine does not run, or comes from the tool, is ignored. -/
theorem State.received_ignored {s : State} {k : Nat} (h : s.link.state = .stopped ∨ k = s.station ∨ k = 7)
    (handle : State → State) : s.received k handle = s := by
  unfold State.received State.arrival
  rcases h with h | h | h
  · simp [h]
  · simp [h]
  · subst h
    by_cases e : s.link.state = .stopped ∨ 7 = s.station
    · rw [if_pos e]
    · rw [if_neg e, if_pos rfl]

/-! ## Valve channels (R135, R136) -/

@[simp] theorem Channel.stop_state (c : Channel) : c.stop.state = .idle := rfl
@[simp] theorem Channel.stop_valveOpen (c : Channel) : c.stop.valveOpen = false := rfl

theorem Channel.stop_sound (c : Channel) (x : AirStatus) : c.stop.sound x :=
  ⟨fun h => absurd h (by simp), fun _ => by simp⟩

/-- A suspended channel fills nowhere, and opens no valve that was closed. -/
theorem Channel.suspend_sound {c : Channel} {x : AirStatus} (h : c.sound x) (y : AirStatus) : c.suspend.sound y := by
  unfold Channel.suspend
  split
  · exact ⟨fun e => absurd e (by simp), fun _ => by simp⟩
  · next n => exact ⟨h.1, fun _ => n⟩

/-! ## Release lines (R156, R163, R166) -/

@[simp] theorem DoorSlot.drop_release (d : DoorSlot) : d.drop.release = false := by
  unfold DoorSlot.drop; split
  · rfl
  · next h => simpa using h
@[simp] theorem DoorSlot.drop_grant (d : DoorSlot) : d.drop.grant = d.grant := by
  unfold DoorSlot.drop; split <;> rfl
@[simp] theorem DoorSlot.drop_edge (d : DoorSlot) : d.drop.edge = d.edge := by
  unfold DoorSlot.drop; split <;> rfl
@[simp] theorem DoorSlot.drop_closed (d : DoorSlot) : d.drop.closed = d.closed := by
  unfold DoorSlot.drop; split <;> rfl
theorem DoorSlot.drop_of_off (d : DoorSlot) (h : d.release = false) : d.drop = d := by
  simp [DoorSlot.drop, h]
@[simp] theorem DoorSlot.gate_release (d : DoorSlot) : d.gate.release = false := by
  unfold DoorSlot.gate; split
  · simp
  · next h => simpa using h

@[simp] theorem DoorInterlock.forceOff_halt (d : DoorInterlock) : d.forceOff.halt = .off := rfl
@[simp] theorem DoorInterlock.forceOff_anyRelease (d : DoorInterlock) : d.forceOff.anyRelease = false := by
  simp [DoorInterlock.forceOff, DoorInterlock.anyRelease]
@[simp] theorem DoorInterlock.forceOff_anyGrant (d : DoorInterlock) : d.forceOff.anyGrant = false := rfl

/-- Where the gate holds nothing changes; otherwise both release lines are off. -/
theorem State.gateReleases_cases (s : State) :
    (s.releaseGate = true ∧ s.gateReleases = s)
    ∨ (s.releaseGate = false ∧ s.gateReleases.doors.anyRelease = false
        ∧ s.gateReleases =
          s.setDoors { s.doors with slot0 := s.doors.slot0.gate, slot1 := s.doors.slot1.gate }) := by
  cases h : s.releaseGate
  · exact .inr ⟨rfl, by simp [State.gateReleases, h, DoorInterlock.anyRelease], by simp [State.gateReleases, h]⟩
  · exact .inl ⟨rfl, by simp [State.gateReleases, h]⟩

/-! ## Backup (R126, R127) -/

/-- In backup nothing changes; otherwise the block and the interlock take the entry's effects. -/
theorem State.enterBackup_cases (s : State) :
    (s.brake.backup = true ∧ s.enterBackup = s)
    ∨ (s.brake.backup = false ∧ s.enterBackup = (s.setBrake s.brake.toBackup).setDoors s.doors.forceOff) := by
  cases h : s.brake.backup
  · exact .inr ⟨rfl, by simp [State.enterBackup, h]⟩
  · exact .inl ⟨rfl, by simp [State.enterBackup, h]⟩

@[simp] theorem State.enterBackup_backup (s : State) : s.enterBackup.brake.backup = true := by
  rcases s.enterBackup_cases with ⟨h, e⟩ | ⟨-, e⟩
  · rw [e, h]
  · rw [e]; rfl

@[simp] theorem State.latchBackup_backup (s : State) (c : LatchedCause) : (s.latchBackup c).brake.backup = true := by
  simp [State.latchBackup]

/-- The first cause that latches stays the latched one. -/
@[simp] theorem State.latchBackup_latched (s : State) (c : LatchedCause) :
    (s.latchBackup c).brake.latched = some (s.brake.latched.getD c) := by
  unfold State.latchBackup
  rcases (s.setBrake (s.brake.latch c)).enterBackup_cases with ⟨-, e⟩ | ⟨-, e⟩ <;> rw [e] <;> rfl

end Sys2Proof.Machine
end

