-- ==== Sys2Proof/Laws/Modes.lean ====
section
/-! SUPPORT. What the changes of mode can do: the safe output set, the entries to the modes, and what the supervisor takes
at the moment it reaches it. -/

namespace Sys2Proof.Machine

/-! ## The safe output set (R175) -/

theorem State.safeOutputs_outputsSafe (s : State) (limp : Bool) : (s.safeOutputs limp).outputsSafe limp :=
  ⟨{ solenoid := rfl, steerLine := rfl, select := rfl, relay := rfl, left := ⟨rfl, rfl⟩, right := ⟨rfl, rfl⟩,
     valveL := rfl, valveR := rfl, door0 := DoorSlot.drop_release _, door1 := DoorSlot.drop_release _, damper := rfl,
     traction := rfl }, rfl, rfl⟩

/-- Entry to START leaves every line as the safe output set has it. -/
theorem State.enterStart_outputsSafe (s : State) : s.enterStart.outputsSafe false :=
  ⟨{ solenoid := rfl, steerLine := rfl, select := rfl, relay := rfl, left := ⟨rfl, rfl⟩, right := ⟨rfl, rfl⟩,
     valveL := rfl, valveR := rfl, door0 := rfl, door1 := rfl, damper := rfl, traction := rfl }, rfl, rfl⟩

@[simp] theorem State.enterStart_mode (s : State) : s.enterStart.sup.mode = .start := rfl
@[simp] theorem State.enterStart_copy (s : State) : s.enterStart.loader.copy = none := rfl
@[simp] theorem State.enterStart_link (s : State) : s.enterStart.link = Link.initial := rfl

/-! ## RESTART (R177, R178) -/

theorem State.enterRestart_outputsSafe (s : State) : s.enterRestart.outputsSafe false :=
  ⟨{ solenoid := rfl, steerLine := rfl, select := rfl, relay := rfl, left := ⟨rfl, rfl⟩, right := ⟨rfl, rfl⟩,
     valveL := rfl, valveR := rfl, door0 := DoorSlot.drop_release _, door1 := DoorSlot.drop_release _, damper := rfl,
     traction := rfl }, rfl, rfl⟩

@[simp] theorem State.enterRestart_mode (s : State) : s.enterRestart.sup.mode = .restart := rfl
@[simp] theorem State.enterRestart_link (s : State) : s.enterRestart.link = Link.initial := rfl
@[simp] theorem State.enterRestart_loader (s : State) : s.enterRestart.loader = s.loader := rfl

/-- A call for RESTART enters it with the counter raised, or enters LIMP where the counter stands at 3. -/
theorem State.callRestart_cases (s : State) :
    (s.sup.restartCounter < 3
      ∧ s.callRestart = (s.setSup { s.sup with restartCounter := s.sup.restartCounter + 1 }).enterRestart)
    ∨ (3 ≤ s.sup.restartCounter ∧ s.callRestart = (s.raiseFault .restartLimit).enterLimp 2) := by
  by_cases h : s.sup.restartCounter < 3
  · exact .inl ⟨h, by simp [State.callRestart, h]⟩
  · exact .inr ⟨Nat.le_of_not_lt h, by simp [State.callRestart, h]⟩

/-! ## SYNC, RUN, DEGRADED (R173, R174) -/

@[simp] theorem State.enterSync_mode (s : State) : s.enterSync.sup.mode = .sync := rfl
@[simp] theorem State.enterRun_mode (s : State) : s.enterRun.sup.mode = .run := rfl
@[simp] theorem State.enterDegraded_mode (s : State) : s.enterDegraded.sup.mode = .degraded := rfl
@[simp] theorem State.enterDegraded_speedLimit (s : State) : s.enterDegraded.doors.speedLimit = .asserted := rfl

/-- The modes that the degraded causes decide among; the others are not left here. -/
theorem State.updateMode_cases (s : State) :
    (s.sup.mode = .sync ∨ s.sup.mode = .degraded) ∧ s.degradedCause = false ∧ s.updateMode = s.enterRun
    ∨ s.sup.mode = .run ∧ s.degradedCause = true ∧ s.updateMode = s.enterDegraded
    ∨ s.updateMode = s := by
  unfold State.updateMode
  cases hm : s.sup.mode <;> cases hd : s.degradedCause <;> simp

/-- The window is open and no protected manoeuvre is in progress, and it closes; or nothing happens. -/
theorem State.closeIfIdle_cases (s : State) :
    (s.sup.windowFrom.isSome = true ∧ s.protectedManoeuvre = false ∧ s.closeIfIdle = s.closeWindow)
    ∨ ((s.sup.windowFrom = none ∨ s.protectedManoeuvre = true) ∧ s.closeIfIdle = s) := by
  unfold State.closeIfIdle
  cases hw : s.sup.windowFrom <;> cases hp : s.protectedManoeuvre <;> simp

/-- Without an open window, what follows is a change of mode and the release gate. -/
theorem State.settle_of_no_window {s : State} (h : s.sup.windowFrom = none) :
    s.settle = s.updateMode.gateReleases := by
  simp [State.settle, State.closeIfIdle, h]

/-- In START, RESTART and LIMP, without an open window, only the release gate follows. -/
theorem State.settle_of_stopped {s : State} (h : s.sup.windowFrom = none)
    (hm : s.sup.mode = .start ∨ s.sup.mode = .restart ∨ s.sup.mode = .limp) : s.settle = s.gateReleases := by
  rw [State.settle_of_no_window h]
  unfold State.updateMode
  rcases hm with hm | hm | hm <;> rw [hm]

/-! ## The supply monitor (R176, R177) -/

/-- What a reading leaves of a run: nothing outside its band, and inside it the run, begun or reached. -/
theorem SupplyRun.read_cases (r : SupplyRun) (inBand : Bool) (now : Micros) :
    (inBand = false ∧ r.read inBand now = .clear)
    ∨ (inBand = true ∧ r = .clear ∧ r.read inBand now = .counting now)
    ∨ (inBand = true ∧ (r.due now = true ∨ r = .reached) ∧ r.read inBand now = .reached)
    ∨ (inBand = true ∧ r ≠ .clear ∧ r.due now = false ∧ r.read inBand now = r) := by
  cases inBand
  · exact .inl ⟨rfl, rfl⟩
  · cases r with
    | clear => exact .inr (.inl ⟨rfl, rfl, rfl⟩)
    | reached => exact .inr (.inr (.inl ⟨rfl, .inr rfl, rfl⟩))
    | counting f =>
      cases h : SupplyRun.due (.counting f) now
      · exact .inr (.inr (.inr ⟨rfl, by simp, rfl, by simp [SupplyRun.read, h]⟩))
      · exact .inr (.inr (.inl ⟨rfl, .inl rfl, by simp [SupplyRun.read, h]⟩))

@[simp] theorem State.readGood_mode (s : State) (mv : Nat) : (s.readGood mv).sup.mode = s.sup.mode := by
  unfold State.readGood
  split_ifs <;> rfl

@[simp] theorem State.readGood_conditions (s : State) (mv : Nat) :
    (s.readGood mv).sup.conditions = s.sup.conditions := by
  unfold State.readGood
  split_ifs <;> rfl

theorem State.readGood_onlyChanges (s : State) (mv : Nat) : s.onlyChanges [.sup] (s.readGood mv) := by
  unfold State.readGood
  by_cases h : s.keepsGoodRun = true
  · rw [if_pos h]
    exact ⟨rfl, rfl, fun b => by cases b <;> simp [State.same]⟩
  · rw [if_neg h]
    exact State.onlyChanges_refl _ _

/-- A reading at which no run reaches 5 ms moves the runs and the good run, and nothing else. -/
theorem State.readSupply_quiet {s : State} (h : s.sup.runDue s.now = false) (hp : s.sup.power ≠ .off) (mv : Nat)
    (r : AbandonedReading) : s.readSupply mv r = (s.setSup (s.sup.readRuns mv s.now)).readGood mv := by
  unfold State.readSupply
  cases hq : s.sup.power <;> simp_all

/-! ## LIMP (R179) -/

@[simp] theorem State.startLink_sup (s : State) : s.startLink.sup = s.sup := rfl
@[simp] theorem State.startLink_state (s : State) : s.startLink.link.state = .listen := rfl
@[simp] theorem State.startLink_alerts (s : State) : s.startLink.link.alerts = [] := rfl

@[simp] theorem State.enterLimp_mode (s : State) (cause : Int) : (s.enterLimp cause).sup.mode = .limp := by
  unfold State.enterLimp
  dsimp only
  split_ifs <;> simp

@[simp] theorem State.enterLimp_windowFrom (s : State) (cause : Int) : (s.enterLimp cause).sup.windowFrom = none := by
  unfold State.enterLimp State.limpBlocks
  dsimp only
  split_ifs <;> simp [State.clearTrack, State.endCondition, Supervisor.endCondition, Supervisor.update]

end Sys2Proof.Machine
end

