-- ==== Sys2Proof/Laws/Operands.lean ====
section
/-! SUPPORT. What an operand reads as, what a side's record reads back after it is set, and the bounds of the arithmetic
of R8. -/

namespace Sys2Proof.Machine

/-! ## Inputs -/

/-- A sound reading is one within its range. -/
theorem soundReading_eq_some {lo hi v : Int} {x : AnalogIn} :
    soundReading lo hi x = some v ↔ x = .reading v ∧ lo ≤ v ∧ v ≤ hi := by
  cases x with
  | openShort => simp [soundReading]
  | reading w =>
    by_cases h : lo ≤ w ∧ w ≤ hi
    · constructor
      · intro e
        rw [soundReading, if_pos h] at e
        obtain rfl := Option.some.inj e
        exact ⟨rfl, h⟩
      · rintro ⟨e, -⟩
        obtain rfl := AnalogIn.reading.inj e
        rw [soundReading, if_pos h]
    · constructor
      · intro e
        rw [soundReading, if_neg h] at e
        exact absurd e (by simp)
      · rintro ⟨e, k⟩
        obtain rfl := AnalogIn.reading.inj e
        exact absurd k h

theorem soundReading_reading {lo hi v : Int} (h : lo ≤ v ∧ v ≤ hi) : soundReading lo hi (.reading v) = some v :=
  soundReading_eq_some.mpr ⟨rfl, h⟩

theorem soundReading_outside {lo hi v : Int} (h : v < lo ∨ hi < v) : soundReading lo hi (.reading v) = none := by
  rw [soundReading, if_neg (by omega)]

@[simp] theorem soundReading_openShort (lo hi : Int) : soundReading lo hi .openShort = none := rfl

theorem soundNat_reading {hi v : Nat} (h : v ≤ hi) : soundNat hi (.reading v) = some v := by
  simp [soundNat, soundReading_reading (show (0 : Int) ≤ v ∧ (v : Int) ≤ hi by omega)]

theorem soundNat_outside {hi : Nat} {v : Int} (h : v < 0 ∨ (hi : Int) < v) : soundNat hi (.reading v) = none := by
  simp [soundNat, soundReading_outside h]

/-- A sound reading of a quantity that is never negative lies within its range. -/
theorem soundNat_le {hi n : Nat} {x : AnalogIn} (h : soundNat hi x = some n) : n ≤ hi := by
  unfold soundNat at h
  obtain ⟨v, hv, rfl⟩ := Option.map_eq_some_iff.mp h
  obtain ⟨-, h0, h1⟩ := soundReading_eq_some.mp hv
  omega

theorem soundReading_faulty {lo hi : Int} {x : AnalogIn} (h : faultyReading lo hi x) : soundReading lo hi x = none := by
  cases x with
  | openShort => rfl
  | reading v => exact soundReading_outside h

theorem soundNat_faulty {hi : Nat} {x : AnalogIn} (h : faultyReading 0 hi x) : soundNat hi x = none := by
  cases x with
  | openShort => rfl
  | reading v => exact soundNat_outside h

/-! ## Door slots -/

@[simp] theorem DoorInterlock.slot_zero (d : DoorInterlock) : d.slot 0 = d.slot0 := rfl
@[simp] theorem DoorInterlock.slot_one (d : DoorInterlock) : d.slot 1 = d.slot1 := rfl
@[simp] theorem doorInput_zero (d : DoorInputs) : doorInput d 0 = d.closed0 := rfl
@[simp] theorem doorInput_one (d : DoorInputs) : doorInput d 1 = d.closed1 := rfl

/-! ## Records by side -/

@[simp] theorem Odometry.wheel_setWheel (o : Odometry) (side : Side) (w : Wheel) : (o.setWheel side w).wheel side = w := by
  cases side <;> rfl
@[simp] theorem Odometry.wheel_setWheel_other (o : Odometry) (side : Side) (w : Wheel) :
    (o.setWheel side w).wheel (otherSide side) = o.wheel (otherSide side) := by
  cases side <;> rfl
@[simp] theorem Levelling.corner_setCorner (a : Levelling) (side : Side) (c : Corner) :
    (a.setCorner side c).corner side = c := by
  cases side <;> rfl
@[simp] theorem Levelling.corner_setCorner_other (a : Levelling) (side : Side) (c : Corner) :
    (a.setCorner side c).corner (otherSide side) = a.corner (otherSide side) := by
  cases side <;> rfl
@[simp] theorem Levelling.channel_setCorner (a : Levelling) (side side' : Side) (c : Corner) :
    (a.setCorner side c).channel side' = a.channel side' := by
  cases side <;> cases side' <;> rfl
@[simp] theorem Levelling.channel_setChannel (a : Levelling) (side : Side) (c : Channel) :
    (a.setChannel side c).channel side = c := by
  cases side <;> rfl
@[simp] theorem Levelling.channel_setChannel_other (a : Levelling) (side : Side) (c : Channel) :
    (a.setChannel side c).channel (otherSide side) = a.channel (otherSide side) := by
  cases side <;> rfl
@[simp] theorem Levelling.corner_setChannel (a : Levelling) (side side' : Side) (c : Channel) :
    (a.setChannel side c).corner side' = a.corner side' := by
  cases side <;> cases side' <;> rfl

/-! ## Rounding and clamps (R8) -/

/-- The rounded quotient is the nearest integer, a half going away from zero. -/
theorem roundNat_nearest (n : Nat) {d : Nat} (hd : 0 < d) :
    2 * n < 2 * d * roundNat n d + d ∧ 2 * d * roundNat n d ≤ 2 * n + d := by
  have h2 : 0 < 2 * d := by omega
  have hm := Nat.div_add_mod (2 * n + d) (2 * d)
  have hl := Nat.mod_lt (2 * n + d) h2
  unfold roundNat
  constructor <;> omega

theorem roundNat_mono {m n : Nat} (h : m ≤ n) (d : Nat) : roundNat m d ≤ roundNat n d :=
  Nat.div_le_div_right (by omega)

@[simp] theorem roundNat_zero (d : Nat) : roundNat 0 d = 0 := by
  unfold roundNat
  rcases Nat.eq_zero_or_pos d with rfl | h
  · rfl
  · exact Nat.div_eq_of_lt (by omega)

/-- A clamped value lies within its bounds, and is the value itself where that does. -/
theorem clampInt_bounds {bound : Int} (h : 0 ≤ bound) (x : Int) : -bound ≤ clampInt bound x ∧ clampInt bound x ≤ bound := by
  unfold clampInt; omega

theorem clampInt_of_within {bound x : Int} (h : -bound ≤ x ∧ x ≤ bound) : clampInt bound x = x := by
  unfold clampInt; omega

theorem clampNat_bounds {lo hi : Nat} (h : lo ≤ hi) (x : Nat) : lo ≤ clampNat lo hi x ∧ clampNat lo hi x ≤ hi := by
  unfold clampNat; omega

theorem clampNat_of_within {lo hi x : Nat} (h : lo ≤ x ∧ x ≤ hi) : clampNat lo hi x = x := by
  unfold clampNat; omega

end Sys2Proof.Machine
end

