-- ==== Sys2Proof/Laws/PerInstr.lean ====
section
/-! SUPPORT. Statements made of every command, one lemma per constructor. -/

namespace Sys2Proof.Laws.Timed

/-- A command may come at any moment: it can be given any time, and its being well formed does not depend on it. -/
def Statement (i : Instr) : Prop := ∀ d : Micros, (i.after d).elapsed = d ∧ (i.after d).wf = i.wf

theorem powerUp (dt : Micros) : Statement (.powerUp dt) := fun _ => ⟨rfl, rfl⟩
theorem powerUpWaitEnd (dt : Micros) : Statement (.powerUpWaitEnd dt) := fun _ => ⟨rfl, rfl⟩
theorem startComplete (dt : Micros) (reading : StartReading) : Statement (.startComplete dt reading) := fun _ => ⟨rfl, rfl⟩
theorem supply (dt : Micros) (millivolts : Nat) (start : AbandonedReading) : Statement (.supply dt millivolts start) := fun _ => ⟨rfl, rfl⟩
theorem supplyGoodRun (dt : Micros) : Statement (.supplyGoodRun dt) := fun _ => ⟨rfl, rfl⟩
theorem syncTimeout (dt : Micros) : Statement (.syncTimeout dt) := fun _ => ⟨rfl, rfl⟩
theorem runTimeElapsed (dt : Micros) : Statement (.runTimeElapsed dt) := fun _ => ⟨rfl, rfl⟩
theorem deferralWindowTimeout (dt : Micros) : Statement (.deferralWindowTimeout dt) := fun _ => ⟨rfl, rfl⟩
theorem listenEnd (dt : Micros) : Statement (.listenEnd dt) := fun _ => ⟨rfl, rfl⟩
theorem silentEnd (dt : Micros) : Statement (.silentEnd dt) := fun _ => ⟨rfl, rfl⟩
theorem transmitAttemptStart (dt : Micros) : Statement (.transmitAttemptStart dt) := fun _ => ⟨rfl, rfl⟩
theorem attemptCompleted (dt : Micros) : Statement (.attemptCompleted dt) := fun _ => ⟨rfl, rfl⟩
theorem arbitrationLost (dt : Micros) : Statement (.arbitrationLost dt) := fun _ => ⟨rfl, rfl⟩
theorem attemptDestroyed (dt : Micros) : Statement (.attemptDestroyed dt) := fun _ => ⟨rfl, rfl⟩
theorem stateFrameReceived (dt : Micros) (sender : BitVec 3) (payload : Payload) : Statement (.stateFrameReceived dt sender payload) := fun _ => ⟨rfl, rfl⟩
theorem driverFrameReceived (dt : Micros) (sender : BitVec 3) (payload : Payload) : Statement (.driverFrameReceived dt sender payload) := fun _ => ⟨rfl, rfl⟩
theorem pathFrameReceived (dt : Micros) (sender : BitVec 3) (payload : Payload) : Statement (.pathFrameReceived dt sender payload) := fun _ => ⟨rfl, rfl⟩
theorem alertFrameReceived (dt : Micros) (sender : BitVec 3) (payload : Payload) : Statement (.alertFrameReceived dt sender payload) := fun _ => ⟨rfl, rfl⟩
theorem readStatus (dt : Micros) (sender : BitVec 3) (target tag argument : Byte) : Statement (.readStatus dt sender target tag argument) := fun _ => ⟨rfl, rfl⟩
theorem readFaults (dt : Micros) (sender : BitVec 3) (target tag argument : Byte) : Statement (.readFaults dt sender target tag argument) := fun _ => ⟨rfl, rfl⟩
theorem clearFaults (dt : Micros) (sender : BitVec 3) (target tag argument : Byte) : Statement (.clearFaults dt sender target tag argument) := fun _ => ⟨rfl, rfl⟩
theorem readParameter (dt : Micros) (sender : BitVec 3) (target tag argument : Byte) : Statement (.readParameter dt sender target tag argument) := fun _ => ⟨rfl, rfl⟩
theorem readTrack (dt : Micros) (sender : BitVec 3) (target tag argument : Byte) : Statement (.readTrack dt sender target tag argument) := fun _ => ⟨rfl, rfl⟩
theorem serviceRequestRejected (dt : Micros) (sender : BitVec 3) (payload : Payload) : Statement (.serviceRequestRejected dt sender payload) := fun _ => ⟨rfl, rfl⟩
theorem missed (dt : Micros) (peer : Nat) : Statement (.missed dt peer) := fun _ => ⟨rfl, rfl⟩
theorem driverStatusHolding (dt : Micros) : Statement (.driverStatusHolding dt) := fun _ => ⟨rfl, rfl⟩
theorem driverStatusExpired (dt : Micros) : Statement (.driverStatusExpired dt) := fun _ => ⟨rfl, rfl⟩
theorem cabLost (dt : Micros) : Statement (.cabLost dt) := fun _ => ⟨rfl, rfl⟩
theorem toothEdge (dt : Micros) (side : Side) : Statement (.toothEdge dt side) := fun _ => ⟨rfl, rfl⟩
theorem wheelSensorOpenShort (dt : Micros) (side : Side) (present : Bool) : Statement (.wheelSensorOpenShort dt side present) := fun _ => ⟨rfl, rfl⟩
theorem speedOdometryExpiry (dt : Micros) : Statement (.speedOdometryExpiry dt) := fun _ => ⟨rfl, rfl⟩
theorem wheelZeroSpeedTimeout (dt : Micros) (side : Side) : Statement (.wheelZeroSpeedTimeout dt side) := fun _ => ⟨rfl, rfl⟩
theorem wheelPlausibilityFail (dt : Micros) (side : Side) : Statement (.wheelPlausibilityFail dt side) := fun _ => ⟨rfl, rfl⟩
theorem standstillSet (dt : Micros) : Statement (.standstillSet dt) := fun _ => ⟨rfl, rfl⟩
theorem cabMarkAdoption (dt : Micros) : Statement (.cabMarkAdoption dt) := fun _ => ⟨rfl, rfl⟩
theorem rearAdoptionTimeout (dt : Micros) : Statement (.rearAdoptionTimeout dt) := fun _ => ⟨rfl, rfl⟩
theorem pathGeneratorExpiry (dt : Micros) (front : AnalogIn) : Statement (.pathGeneratorExpiry dt front) := fun _ => ⟨rfl, rfl⟩
theorem trackMemoryExpiry (dt : Micros) : Statement (.trackMemoryExpiry dt) := fun _ => ⟨rfl, rfl⟩
theorem trackStarved (dt : Micros) : Statement (.trackStarved dt) := fun _ => ⟨rfl, rfl⟩
theorem steeringExpiry (dt : Micros) (angle : AnalogIn) : Statement (.steeringExpiry dt angle) := fun _ => ⟨rfl, rfl⟩
theorem lockLossRun (dt : Micros) (angle : AnalogIn) : Statement (.lockLossRun dt angle) := fun _ => ⟨rfl, rfl⟩
theorem notValidRun (dt : Micros) (angle : AnalogIn) : Statement (.notValidRun dt angle) := fun _ => ⟨rfl, rfl⟩
theorem guidedExitRun (dt : Micros) (angle : AnalogIn) : Statement (.guidedExitRun dt angle) := fun _ => ⟨rfl, rfl⟩
theorem centredRun (dt : Micros) (angle : AnalogIn) : Statement (.centredRun dt angle) := fun _ => ⟨rfl, rfl⟩
theorem steerMismatch (dt : Micros) (angle : AnalogIn) : Statement (.steerMismatch dt angle) := fun _ => ⟨rfl, rfl⟩
theorem centringTravelTimeout (dt : Micros) (angle : AnalogIn) : Statement (.centringTravelTimeout dt angle) := fun _ => ⟨rfl, rfl⟩
theorem jointMonitorExpiry (dt : Micros) (joint : AnalogIn) : Statement (.jointMonitorExpiry dt joint) := fun _ => ⟨rfl, rfl⟩
theorem jackAlertSetRun (dt : Micros) (joint : AnalogIn) : Statement (.jackAlertSetRun dt joint) := fun _ => ⟨rfl, rfl⟩
theorem jackAlertClearRun (dt : Micros) (joint : AnalogIn) : Statement (.jackAlertClearRun dt joint) := fun _ => ⟨rfl, rfl⟩
theorem brakingExpiry (dt : Micros) (pressure : AnalogIn) : Statement (.brakingExpiry dt pressure) := fun _ => ⟨rfl, rfl⟩
theorem slipReapplyDone (dt : Micros) (side : Side) (pressure : AnalogIn) : Statement (.slipReapplyDone dt side pressure) := fun _ => ⟨rfl, rfl⟩
theorem brakePressureMismatch (dt : Micros) (pressure : AnalogIn) : Statement (.brakePressureMismatch dt pressure) := fun _ => ⟨rfl, rfl⟩
theorem backupExitRun (dt : Micros) (pressure : AnalogIn) : Statement (.backupExitRun dt pressure) := fun _ => ⟨rfl, rfl⟩
theorem stateEmission (dt : Micros) : Statement (.stateEmission dt) := fun _ => ⟨rfl, rfl⟩
theorem driverEmission (dt : Micros) (lines : DriverLines) : Statement (.driverEmission dt lines) := fun _ => ⟨rfl, rfl⟩
theorem doorInterlockExpiry (dt : Micros) (inputs : DoorInputs) : Statement (.doorInterlockExpiry dt inputs) := fun _ => ⟨rfl, rfl⟩
theorem levellingExpiry (dt : Micros) (inputs : LevelInputs) : Statement (.levellingExpiry dt inputs) := fun _ => ⟨rfl, rfl⟩
theorem heightStuck (dt : Micros) (side : Side) (inputs : LevelInputs) : Statement (.heightStuck dt side inputs) := fun _ => ⟨rfl, rfl⟩
theorem pulseEnd (dt : Micros) (side : Side) : Statement (.pulseEnd dt side) := fun _ => ⟨rfl, rfl⟩
theorem continuousStopReached (dt : Micros) (side : Side) (height : Int) : Statement (.continuousStopReached dt side height) := fun _ => ⟨rfl, rfl⟩
theorem twistGateReached (dt : Micros) (height : Int) : Statement (.twistGateReached dt height) := fun _ => ⟨rfl, rfl⟩
theorem kneelTimeout (dt : Micros) (inputs : LevelInputs) : Statement (.kneelTimeout dt inputs) := fun _ => ⟨rfl, rfl⟩
theorem raiseTimeout (dt : Micros) (inputs : LevelInputs) : Statement (.raiseTimeout dt inputs) := fun _ => ⟨rfl, rfl⟩
theorem powerOff (dt : Micros) : Statement (.powerOff dt) := fun _ => ⟨rfl, rfl⟩

end Sys2Proof.Laws.Timed
end

