-- ==== Sys2Proof/Tests/Slice0.lean ====
section
/-! SUPPORT. Tests on the spec's own figures, the smoke test of well-formedness, and for every obligation with hypotheses
a state and operands that meet them. Station k of the reference vehicle is the bench. -/

namespace Sys2Proof.Tests

open Sys2Proof.Machine

/-! ## The bench: the reference vehicle's stations at work -/

/-- The words of a parameter block of station k, the last making the sum 0 modulo 65,536. -/
def words (k : Nat) : List Nat :=
  let own : List Nat := match k with
    | 3 => [4, 1150, 1, 480, 1, 670]
    | 4 => [4, 2290, 1, 470, 1, 670]
    | _ => [4, 0, 0, 0, 0, 0]
  let body : List Nat :=
    own ++ [590, 2200, 80, 250, 500, 100, 3000, 1500, 1200, 8000, 95, 30, 850, 350, 150, 80, 250, 80, 80, 20, 1, 40, 5,
      60, 4, 650, 690, 720, 2, if k = 4 then 0 else 1, 6, 800, 30, 0] ++ List.replicate 23 0
  body ++ [(65536 - body.sum % 65536) % 65536]

/-- A memory image of words. -/
def imageOf (ws : List Nat) : List (Option ParamWord) := ws.map (fun w => some (BitVec.ofNat 16 w))

def copyOf (k : Nat) : Params := Params.ofWords (words k)

def closedDoors : DoorInputs := ⟨.on, .off, .on, .off⟩

def reading (k : Nat) : StartReading :=
  { strap := BitVec.ofNat 3 k, words := imageOf (words k), heightL := .reading 250, heightR := .reading 250,
    doors := closedDoors }

/-- The cab's content at a stop of the pedal: no demand, forward, drive. -/
def cabContent : DriverContent :=
  { demand := 0, direction := .forward, level := .drive, driveIntent := true, haltSwitch := false, doorMask := 0,
    docking := false, angleValid := true, curvature := 0, frontAngle := 0 }

/-- The time of the bench, in µs. -/
def at0 : Micros := 10000000

/-- Station k in RUN, its blocks at their values after START but for a mark, a fresh driver content and no backup. -/
def bench (k : Nat) : State :=
  { State.reset with
    now := at0
    loader := { strap := k, image := imageOf (words k), copy := some (copyOf k) }
    link := { Link.initial with state := .active, leftListen := some 200000, token := k }
    peers := peersInitial 4 k
    driver := { content := some cabContent, since := at0, status := .fresh }
    odo := { Odometry.initial with mark := 5000, markValid := true }
    brake := { Braking.initial 8000 with backup := false, driverLost := false, select := true }
    air := { Levelling.afterStart (copyOf k) (reading k) with air := .normal, reservoir := 800 }
    doors := { DoorInterlock.afterStart (copyOf k) closedDoors with tractionInhibit := .released, speedLimit := .released }
    sup := { Supervisor.initial with
      power := .on, mode := .run, runFrom := some 3000000, syncFrom := some 1000000 } }

/-- The state after a command. -/
def after (i : Instr) (s : State) : State :=
  match exec i s with
  | .next t => t
  | .fault _ | .refused _ => s

/-- The bench with one peer record, one block, or one field of a block changed. -/
def withPeer (k : Nat) (r : PeerRecord) (s : State) : State := s.updatePeer k (fun _ => r)
def withMode (m : Mode) (s : State) : State := s.setSup { s.sup with mode := m }

/-! ## Well-formedness: each check refuses an ill-formed command -/

theorem test_wf_start_needs_64_words : (Instr.startComplete 0 { reading 3 with words := [] }).wf = false := by decide
theorem test_wf_start_of_64_words : (Instr.startComplete 0 (reading 3)).wf = true := by decide
theorem test_wf_supply_with_65_words : (Instr.supply 0 15999 ⟨none, List.replicate 65 none⟩).wf = false := by decide
theorem test_wf_supply_low_or_good :
    (Instr.supply 0 15999 ⟨none, []⟩).wf = true ∧ (Instr.supply 0 24000 ⟨none, []⟩).wf = true := by decide
theorem test_wf_state_frame_too_long : (Instr.stateFrameReceived 0 1 (List.replicate 65 0)).wf = false := by decide
theorem test_wf_driver_frame_too_long : (Instr.driverFrameReceived 0 1 (List.replicate 65 0)).wf = false := by decide
theorem test_wf_path_frame_too_long : (Instr.pathFrameReceived 0 1 (List.replicate 65 0)).wf = false := by decide
theorem test_wf_alert_frame_too_long : (Instr.alertFrameReceived 0 1 (List.replicate 65 0)).wf = false := by decide
theorem test_wf_request_not_rejected : (Instr.serviceRequestRejected 0 7 [1, 3, 0, 0]).wf = false := by decide
theorem test_wf_request_too_long : (Instr.serviceRequestRejected 0 7 (List.replicate 65 0)).wf = false := by decide
theorem test_wf_request_of_an_unlisted_kind : (Instr.serviceRequestRejected 0 7 [6, 3, 0, 0]).wf = true := by decide
theorem test_wf_missed_of_no_station : (Instr.missed 0 7).wf = false ∧ (Instr.missed 0 0).wf = false := by decide

/-! ## No word spells a command -/

theorem test_no_word_decodes : decodeTableWord 16 0x1234 = none := rfl
theorem test_withFetchWord_changes_nothing : State.reset.withFetchWord 16 0x1234 = State.reset := rfl

/-! ## Arithmetic (Tables 1.7, 4.1, 6.3, Sections 5.8, 5.9, 7.7) -/

/-- Table 1.7: 297.16, 148.5, −148.5, −1,347.5, 2.5, −0.4. -/
theorem test_rounding_of_table_1_7 :
    roundNat 29716 100 = 297 ∧ roundNat 297 2 = 149 ∧ roundInt (-297) 2 = -149 ∧ roundInt (-2695) 2 = -1348
      ∧ roundNat 5 2 = 3 ∧ roundInt (-4) 10 = 0 := by decide

/-- Table 4.1, W1 = 590 cm. -/
theorem test_curvatures_of_table_4_1 :
    curvatureOf 1500 590 = 4542 ∧ curvatureOf (-800) 590 = -2382 ∧ curvatureOf 5500 590 = 20000 := by decide +kernel

/-- Sections 5.8 and 5.9: δ_raw at a = 470 and 480 cm. -/
theorem test_half_chord_law :
    halfChord 470 9920 = -1348 ∧ halfChord 470 13000 = -1779 ∧ halfChord 480 (-1000) = 138 ∧ halfChord 480 6300 = -870 := by
  decide

/-- Sections 5.9 and 5.10: δmax for 700, 900 and 600 cm/s; the guided law with K = 500. -/
theorem test_steer_bound_and_guided_law :
    steerBound (copyOf 4) 700 = 1720 ∧ steerBound (copyOf 4) 900 = 1380 ∧ steerBound (copyOf 3) 600 = 1889
      ∧ guidedTarget 500 2100 = -1050 := by decide

/-- Table 5.4 and Table 5.5, from s0 to s1. -/
theorem test_rate_limit :
    rateLimited 80 (-1300) (-1348) = -1348 ∧ rateLimited 80 (-1200) (-1348) = -1280
      ∧ rateLimited 80 (-1720) (-1380) = -1640 := by decide

/-- Section 6.8: φ_exp and the damper demand. -/
theorem test_expected_articulation :
    expectedArticulation 480 670 6000 5000 = 1792 ∧ damperDemand false 700 = 55 ∧ damperDemand true 700 = 100 := by
  decide +kernel

/-- Table 3.2: the cab's path increment at 15 degrees. -/
theorem test_path_increment : timesCos 96875 1500 = 93574 := by decide +kernel

/-- Section 7.7: p_d, its reduction, and a full application at 13,000 kg before the clamp. -/
theorem test_demand_pressure :
    demandPressure (copyOf 3) 250 11292 = 327 ∧ reducePressure (copyOf 3) 327 = 179
      ∧ demandPressure (copyOf 4) 650 13000 = 919 := by decide

/-- Table 7.12: λ at e1 to e6. -/
theorem test_slip :
    [slipOf 788 660, slipOf 776 600, slipOf 764 620, slipOf 752 690, slipOf 740 700, slipOf 728 705]
      = [162, 227, 188, 82, 54, 32] := by decide

/-! ## Tokens and records (Tables 2.4, 2.12, 2.13) -/

theorem test_token_sequence :
    (List.range 15).map (fun n => tokenSuccessor^[n] 4) = [4, 9, 3, 6, 13, 10, 5, 11, 7, 15, 14, 12, 8, 1, 2] := by
  decide

/-- A STATE content of station k with a token. -/
def contentOf (k token : Nat) : StateContent := { (bench k).assembleState with token := token }

/-- Table 2.12: the record at 155 ms, when token 10 arrives and 13 was expected. -/
theorem test_wrong_token_while_joining :
    let r : PeerRecord := { PeerRecord.initial with
      presence := .joining, goodRun := 3, reference := some 6, acceptedAt := some 135000, deadline := some 160000 }
    let t := r.onState (some (contentOf 4 10)) 6 155000
    t.presence = .joining ∧ t.errors = 1 ∧ t.goodRun = 0 ∧ t.reference = some 10 := by decide

/-- Table 2.12: the eighth good frame, at 235 ms. -/
theorem test_eighth_good_frame :
    let r : PeerRecord := { PeerRecord.initial with
      presence := .joining, goodRun := 7, reference := some 8, acceptedAt := some 225000, deadline := some 250000 }
    let t := r.onState (some (contentOf 4 1)) 6 235000
    t.presence = .present ∧ t.errors = 0 := by decide

/-- Table 2.13: the MISSED of 85 ms finds the counter at the limit of 6. -/
theorem test_missed_at_the_limit :
    let r : PeerRecord := { PeerRecord.initial with
      presence := .present, errors := 6, acceptedAt := some 0, deadline := some 85000 }
    (r.miss 6 85000).presence = .lost ∧ (r.miss 6 85000).errors = 7 ∧ (r.miss 6 85000).stale = true := by decide

/-! ## Frames: fields set by hand in the bits of Tables 2.5 to 2.8 -/

/-- A PATH frame of mark 60,000 = 0x0000EA60, curvature −2,382 = 0xF6B2, GAP_BEFORE. -/
theorem test_path_bytes :
    encodePath ⟨60000, -2382, false, true⟩ = [0x60, 0xEA, 0, 0, 0xB2, 0xF6, 2, 0]
      ∧ decodePath [0x60, 0xEA, 0, 0, 0xB2, 0xF6, 2, 0] = some ⟨60000, -2382, false, true⟩ := by decide

/-- ALERT JACKKNIFE of station 3, value 968 = 0x03C8 (Section 6.8). -/
theorem test_alert_bytes : encodeAlert ⟨.jackknife, 3, 255, 968⟩ = [4, 3, 0xFF, 0, 0xC8, 0x03, 0, 0] := by decide

/-- A DRIVER frame: demand 250, REVERSE, KNEEL, drive intent; doors bit 4; angle valid; κ = 4,542 = 0x11BE, δ1 = 1,500 = 0x05DC. -/
theorem test_driver_bytes :
    decodeDriver [0xFA, 0x68, 0x10, 0x20, 0xBE, 0x11, 0xDC, 0x05, 0, 0, 0, 0] =
      some { demand := 250, direction := .reverse, level := .kneel, driveIntent := true, haltSwitch := false,
             doorMask := 16, docking := false, angleValid := true, curvature := 4542, frontAngle := 1500 } := by
  decide

/-- A DRIVER frame whose direction code is 3 is malformed (R27). -/
theorem test_driver_bad_direction : decodeDriver [0x00, 0x0C, 0, 0, 0, 0, 0, 0, 0, 0, 0, 0] = none := by decide

/-- A STATE frame of token 0 is malformed (R27), and so is one whose station is not the sender's. -/
theorem test_state_malformed :
    decodeState 3 (encodeState (contentOf 3 0)) = none ∧ decodeState 2 (encodeState (contentOf 3 5)) = none
      ∧ (decodeState 3 (encodeState (contentOf 3 5))).isSome = true := by decide

/-! ## Parameters (Section 11.1) -/

theorem test_reference_block_loads :
    loadParameters (imageOf (words 3)) 3 = { copy := some (copyOf 3), config := false, clampedAny := false }
      ∧ loadParameters (imageOf (words 4)) 4 = { copy := some (copyOf 4), config := false, clampedAny := false } := by
  decide +kernel

/-- Table 11.2: two values change. -/
theorem test_two_clamps :
    let p : Params := { copyOf 4 with slipEntry := 150, slipExit := 190, protectAt := 700, releaseAt := 690, prewarnAt := 720 }
    p.clamped.dependent = { p with slipExit := 130, releaseAt := 710 } := by decide

/-- A sum that is not 0 raises CONFIG and leaves no working copy (R184). -/
theorem test_bad_sum :
    loadParameters (imageOf ((words 3).set 0 5)) 3 = { copy := none, config := true, clampedAny := false } := by
  decide +kernel

/-! ## Commands, each on one small state -/

/-- R22: a STATE frame of station 3 carries token 3, and the next carries 6. -/
theorem test_state_emission :
    ((after (.stateEmission 0) (bench 3)).link.stateFrame.map (fun q => (q.frame.identifier, byteAt q.frame.payload 0)))
      = some (27, 0x33)
      ∧ (after (.stateEmission 0) (bench 3)).link.token = 6 := by decide

/-- Section 7.7: a pedal travel of 415 per mille is sent as 250. -/
theorem test_pedal_of_415 :
    ((after (.driverEmission 0 ⟨.reading 415, .forward, .drive, true, false, false, 0⟩) (bench 1)).driver.content.map
      DriverContent.demand) = some 250 := by decide

/-- R185: a release of 910 and a prewarn of 920 are clamped to 900 by step 2 and put back by step 3. -/
theorem test_clamps_that_are_put_back :
    let p : Params := { copyOf 3 with protectAt := 900, releaseAt := 910, prewarnAt := 920 }
    p.changedBySteps = true ∧ p.clamped.dependent = p ∧ (copyOf 3).changedBySteps = false := by decide

/-- Section 3.3: a period of 4,000 µs, and 38,750 µm for each tooth of 3,100 mm / 80. -/
theorem test_tooth_edge :
    let p : Params := { copyOf 3 with teeth := 80, circumference := 3100 }
    let w := ({ Wheel.initial with lastEdge := some 1000 } : Wheel).edge (some p) 5000
    w.capture = some 4000 ∧ w.accumulator / 80 = 38750 ∧ (w.measure p 5000).speed = 969 := by decide

/-- Table 3.2: the accumulator and the mark after the period. -/
theorem test_mark_advances :
    let s := (bench 1).setOdo { (bench 1).odo with mark := 12340, markAccumulator := 7200 }
    (s.addDistance 93574).odo.mark = 12350 ∧ (s.addDistance 93574).odo.markAccumulator = 774 := by decide

/-- Table 3.1: v_ref at the three expiries. -/
theorem test_reference_speed :
    let peer (v : Nat) : PeerRecord := { PeerRecord.initial with
      presence := .present, content := some { contentOf 1 1 with axleSpeed := v, speedValid := true } }
    let s (l r v1 v2 before : Nat) : State :=
      (withPeer 1 (peer v1) (withPeer 2 (peer v2) (bench 3))).setOdo
        { (bench 3).odo with
          left := { Wheel.initial with speed := l }, right := { Wheel.initial with speed := r }, reference := before }
    (s 520 505 640 630 700).newReference = 688 ∧ (s 480 500 620 625 688).newReference = 676
      ∧ (s 470 490 690 610 676).newReference = 690 := by decide

/-- Table 3.3: the cab adopts 812,560. -/
theorem test_cab_adoption :
    let peer (m l : Nat) : PeerRecord := { PeerRecord.initial with
      presence := .joining, content := some { contentOf 2 1 with mode := .degraded, markValid := true, mark := m, lag := l } }
    (withPeer 2 (peer 812455 0) (withPeer 3 (peer 811310 1150) (withPeer 4 (peer 810162 2290) (bench 1)))).cabMark
      = 812560 := by decide

/-- Section 5.8: the tracking target at station 4, and the applied demand from −1,200. -/
theorem test_tracking_target :
    let s := { bench 4 with
      odo := { (bench 4).odo with mark := 19777, reference := 400 }
      track := { TrackMemory.initial with
        entries := [⟨20000, 8000, false⟩, ⟨20025, 12000, false⟩], status := .valid, starvingSoon := false }
      steer := { Steering.initial with mode := .tracking, solenoid := true, applied := -1200, staged := -1200, line := -1200 } }
    let t := after (.steeringExpiry 0 (.reading (-1200))) s
    t.steer.target = -1348 ∧ t.steer.applied = -1280 ∧ t.steer.line = -1200 := by decide +kernel

/-- Table 7.9: 327 kPa is staged for z = 250 and 11,292 kg; the relay line takes what was staged before. -/
theorem test_commanded_pressure :
    let s := { bench 3 with
      driver := { (bench 3).driver with content := some { cabContent with demand := 250 } }
      brake := { (bench 3).brake with load := 11292, staged := 300 } }
    let t := after (.brakingExpiry 0 (.reading 310)) s
    t.brake.commanded = 327 ∧ t.brake.staged = 327 ∧ t.brake.line = 300 := by decide

/-- Table 7.11: h0 to h1, with the doors in RELEASING. -/
theorem test_halt_ramp :
    let s := { bench 2 with
      doors := { (bench 2).doors with halt := .releasing }
      brake := { (bench 2).brake with halt := 350, staged := 350, commanded := 350, line := 350 } }
    (after (.brakingExpiry 0 (.reading 350)) s).brake.halt = 300 := by decide

/-- Table 7.12: e0 to e1, the left wheel dumps. -/
theorem test_wheel_dumps :
    let r : SlipRecord := { SlipRecord.initial with previous := 760 }
    let t := r.move (copyOf 3) (slipOf 788 660) 660 327
    t.state = .dump ∧ t.holdLine = true ∧ t.dumpLine = true := by decide

/-- Section 7.7: 320 and 340 kPa weigh 11,292 kg. -/
theorem test_axle_load :
    (after (.levellingExpiry 0 ⟨.reading 800, .reading 250, .reading 250, .reading 320, .reading 340⟩)
      (bench 3)).air.axleLoad = 11292 := by decide

/-- Table 8.5: at p0 the kerb corner of station 2 begins three pulses with the fill valve open. -/
theorem test_pulsed_correction :
    let t := after (.levellingExpiry 0 ⟨.reading 800, .reading 250, .reading 238, .reading 320, .reading 340⟩) (bench 2)
    t.air.channelR.state = .filling ∧ t.air.channelR.pulses = 3 ∧ t.air.channelR.valveOpen = true
      ∧ (after (.pulseEnd 60000 .right) t).air.channelR.pulses = 2
      ∧ (after (.pulseEnd 60000 .right) t).air.channelR.valveOpen = false := by decide

/-- Table 10.5: the dip at a counter of 3 enters LIMP with the ALERT of value 2. -/
theorem test_third_dip :
    let s := (bench 4).setSup { (bench 4).sup with restartCounter := 3 }
    let t := after (.supply 5000 15000 ⟨none, []⟩) (after (.supply 0 15000 ⟨none, []⟩) s)
    (after (.supply 4999 15000 ⟨none, []⟩) (after (.supply 0 15000 ⟨none, []⟩) s)).sup.mode = .run
      ∧ t.sup.mode = .limp ∧ t.sup.restartCounter = 3
      ∧ t.link.alerts.map (fun q => q.frame.payload) = [[5, 4, 255, 0, 2, 0, 0, 0]] := by decide

/-- Table 10.7: the window closes at its 4 s. WHEEL_SENSOR_R, whose line was restored, is PASSIVE; RESERVOIR_SENSOR is ACTIVE. -/
theorem test_window_closes :
    let s0 := { bench 4 with
      air := { (bench 4).air with level := .returning, channelR := { Channel.initial with state := .filling, kind := .continuous, valveOpen := true } } }
    let s1 := after (.wheelSensorOpenShort 800000 .right true) s0
    let s2 := after (.levellingExpiry 700000 ⟨.openShort, .reading 200, .reading 200, .reading 320, .reading 340⟩) s1
    let s3 := after (.wheelSensorOpenShort 1500000 .right false) s2
    let t := after (.deferralWindowTimeout 1800000) s3
    s3.sup.faults.map (fun r => (r.code, r.state)) = [(.wheelSensorR, .deferred), (.reservoirSensor, .deferred)]
      ∧ t.sup.faults.map (fun r => (r.code, r.state)) = [(.wheelSensorR, .passive), (.reservoirSensor, .active)]
      ∧ t.odo.right.excluded = true ∧ t.air.air = .protect ∧ t.air.channelR.state = .suspended ∧ t.sup.mode = .degraded := by
  decide

/-- Section 11.2: CLEAR_FAULTS with tag 18 answers 4 removed and 2 remaining. -/
theorem test_clear_faults :
    let r (c : FaultCode) (x : RecordState) : FaultRecord := ⟨c, x, 1, 0, 0⟩
    let s := { bench 4 with
      odo := { (bench 4).odo with standstill := true }
      sup := { (bench 4).sup with
        faults := [r .kneelTimeout .passive, r .peerLost .passive, r .linkSilent .passive, r .wheelSensorR .passive,
          r .reservoirSensor .active, r .bellowsSensor .active] } }
    let t := after (.clearFaults 0 7 4 18 0) s
    (t.link.answer.map (fun q => q.frame)) = some ⟨52, [3, 4, 18, 0, 4, 2, 0, 0]⟩ ∧ t.sup.faults.length = 2 := by
  decide

/-- Section 9.7: a locked door whose grant is held and whose gate holds is RELEASED at the output update. -/
theorem test_door_released :
    let d : DoorSlot := { DoorSlot.unfitted with state := .locked, closed := true, grant := true }
    (d.output true).release = true ∧ (d.output true).state = .released ∧ (d.output false).release = false := by decide

/-! ## Witnesses: states and operands that meet the hypotheses of each obligation, clause by clause, at their boundaries -/

/-- A PRESENT peer, and the bench with every peer PRESENT. -/
def presentRecord (k : Nat) : PeerRecord :=
  { PeerRecord.initial with
    presence := .present, reference := some 1, content := some (contentOf k 1), acceptedAt := some at0,
    deadline := some (at0 + 25000) }

def convoy (k : Nat) : State :=
  (bench k).setPeers ((bench k).peers.map (fun x => (x.1, presentRecord x.1)))

/-- A part in its power-up wait, in START, in RESTART and in LIMP. -/
def waiting : State := after (.powerUp 100) State.reset
def starting : State := after (.powerUpWaitEnd 50000) waiting
def lowSupply (s : State) : State := after (.supply 0 15999 ⟨none, []⟩) s
def restarting : State := after (.supply 5000 15999 ⟨none, []⟩) (lowSupply (bench 3))
def limping : State :=
  after (.supply 5000 24000 ⟨none, []⟩) (lowSupply ((bench 3).setSup { (bench 3).sup with restartCounter := 3 }))

/-- RESTART with the supply good again. -/
def recovering : State := after (.supply 0 24000 ⟨none, []⟩) restarting

/-- R177: a dip to 17.0 V starts the 50 ms again, and RESTART ends 50 ms after it. -/
theorem test_dip_holds_back_restart :
    let s := after (.supply 10000 24000 ⟨none, []⟩) (after (.supply 30000 17000 ⟨none, []⟩) recovering)
    (after (.supplyGoodRun 49999) s).sup.mode = .restart ∧ (after (.supplyGoodRun 50000) s).sup.mode = .start
      ∧ (after (.supplyGoodRun 50000) recovering).sup.mode = .start := by decide

theorem witness_step_runs_front_command : State.reset.pending = [] := rfl

theorem witness_commands_pass_their_time :
    exec (.toothEdge 5 .left) (bench 3) = .next (after (.toothEdge 5 .left) (bench 3)) := rfl

/-- A state for each clause: RESTART, LIMP, the cab and station 2, which is neither steered nor owns a joint. -/
theorem witness_commands_out_of_turn_do_nothing :
    restarting.timersRun = false ∧ limping.working = false ∧ (bench 2).isSteered = false ∧ (bench 2).ownsJoint = false
      ∧ (bench 2).keepsTrack = false ∧ (bench 2).isCab = false ∧ (bench 3).sup.power = .on ∧ (bench 3).sup.mode = .run
      ∧ State.reset.sup.power = .off ∧ State.reset.sup.goodFrom = none ∧ State.reset.sup.runFrom = none
      ∧ (bench 3).sup.windowFrom = none ∧ (bench 3).link.state = .active ∧ (bench 3).link.attempt = none
      ∧ restarting.link.state ≠ .active ∧ (bench 3).peer 3 = none ∧ ((bench 3).air.channel .left).valveOpen = false
      ∧ (bench 3).air.gate = none := by decide

theorem witness_power_up_wait_and_power_off :
    State.reset.sup.power = .off ∧ waiting.sup.power = .waiting ∧ waiting.sup.goodFrom = some 100
      ∧ 50000 ≤ waiting.now + 50000 - 100 ∧ waiting.now + 49999 - 100 < 50000 := by decide

theorem witness_start_enters_sync :
    starting.sup.power = .on ∧ starting.sup.mode = .start
      ∧ loadParameters (reading 3).words (reading 3).strap.toNat
        = { copy := some (copyOf 3), config := false, clampedAny := false } := by decide +kernel

theorem witness_start_config_enters_limp :
    starting.sup.power = .on ∧ starting.sup.mode = .start
      ∧ (loadParameters { reading 3 with strap := 5 }.words 5).config = true
      ∧ (loadParameters [] 3).config = true := by decide +kernel

theorem witness_supply_fault_enters_restart_or_limp :
    (let s := lowSupply ((bench 3).setSup { (bench 3).sup with restartCounter := 2 });
      s.sup.lowRun = .counting at0 ∧ 5000 ≤ s.now + 5000 - at0 ∧ s.sup.power = .on ∧ s.sup.mode = .run
        ∧ s.sup.restartCounter < 3)
    ∧ (let s := lowSupply (starting.setSup { starting.sup with restartCounter := 3 });
      s.sup.lowRun = .counting 50100 ∧ 5000 ≤ s.now + 5000 - 50100 ∧ s.sup.power = .on ∧ s.sup.mode = .start
        ∧ s.sup.restartCounter = 3)
    ∧ (let s := after (.supply 0 34001 ⟨none, []⟩) limping;
      s.sup.highRun = .counting 10005000 ∧ s.sup.power = .on ∧ s.sup.mode = .limp)
    ∧ (lowSupply waiting).sup.power = .waiting ∧ (lowSupply waiting).sup.lowRun = .counting 100 := by decide

theorem witness_supply_good_run_ends_supply :
    recovering.sup.goodFrom = some 10005000 ∧ recovering.sup.mode = .restart
      ∧ 50000 ≤ recovering.now + 50000 - 10005000 ∧ limping.sup.goodFrom = some 10005000 ∧ limping.sup.mode = .limp
      ∧ 50000 ≤ limping.now + 50000 - 10005000
      ∧ (bench 3).sup.power ≠ .off ∧ (bench 3).sup.lowRun = .clear ∧ (bench 3).sup.highRun = .clear := by
  decide

/-- A station in SYNC since 2 s, and one of which every peer is PRESENT. -/
def syncing (s : State) : State := s.setSup { s.sup with mode := .sync, syncFrom := some (at0 - 2000000) }

theorem witness_sync_time_and_run_time :
    (syncing (bench 3)).sup.syncFrom = some 8000000 ∧ 2000000 ≤ (syncing (bench 3)).now + 0 - 8000000
      ∧ (syncing (bench 3)).degradedCause = true ∧ (syncing (convoy 3)).degradedCause = false
      ∧ (syncing (convoy 3)).sup.mode = .sync ∧ (syncing (convoy 3)).sup.windowFrom = none
      ∧ (bench 3).sup.runFrom = some 3000000 ∧ 60000000 ≤ (bench 3).now + 53000000 - 3000000 := by decide

/-- The window open since 4 s with all seven consequences pending. -/
def deferring : State :=
  (bench 3).setSup { (bench 3).sup with
    windowFrom := some 6000000
    deferred := [.wheelSensorL, .wheelSensorR, .jointSensor, .heightSensorL, .heightSensorR, .reservoirSensor, .odometerSaturated] }

theorem witness_window_timeout_applies_consequences :
    deferring.sup.windowFrom = some 6000000 ∧ 4000000 ≤ deferring.now + 0 - 6000000
      ∧ (∀ c ∈ deferring.sup.deferred, c.deferrable = true) ∧ .wheelSensorL ∈ deferring.sup.deferred
      ∧ .wheelSensorR ∈ deferring.sup.deferred ∧ .jointSensor ∈ deferring.sup.deferred
      ∧ .heightSensorL ∈ deferring.sup.deferred ∧ .heightSensorR ∈ deferring.sup.deferred
      ∧ .reservoirSensor ∈ deferring.sup.deferred := by decide

theorem witness_limp_is_left_by_power_off_only :
    (limping.sup.power = .on ∧ limping.sup.mode = .limp)
      ∧ exec (.supplyGoodRun 50000) limping = .next (after (.supplyGoodRun 50000) limping) :=
  ⟨by decide, rfl⟩

/-- The engine in LISTEN, or in SILENT, for 100 ms. -/
def inLinkState (x : LinkState) : State :=
  (bench 3).setLink { (bench 3).link with state := x, since := at0 - 100000 }

/-- A STATE frame and an ALERT wait. -/
def queueing : State := after (.stateEmission 0) ((bench 3).queueAlert .jackknife 255 968)

theorem witness_attempt_takes_lowest_class :
    queueing.link.sound ∧ queueing.link.state = .active ∧ queueing.link.attempt = none ∧ queueing.link.waiting ≠ [] := by
  have h : (queueing.link.alerts.length ≤ 2 ∧ queueing.link.paths.length ≤ 4 ∧ queueing.link.errors ≤ 32)
      ∧ (ofClass 0 queueing.link.alerts ∧ ofClass 1 queueing.link.driver.toList ∧ ofClass 2 queueing.link.paths
        ∧ ofClass 3 queueing.link.stateFrame.toList ∧ ofClass 6 queueing.link.answer.toList)
      ∧ queueing.link.state = .active ∧ queueing.link.attempt = none ∧ queueing.link.waiting ≠ [] := by
    unfold ofClass
    decide
  obtain ⟨⟨h1, h2, h3⟩, ⟨h4, h5, h6, h7, h8⟩, h9⟩ := h
  exact ⟨⟨h1, h2, h3, h4, h5, h6, h7, h8⟩, h9⟩

/-- The attempt of that ALERT is on the wires, with an error count. -/
def attempting (errors : Nat) : State :=
  let t := after (.transmitAttemptStart 0) queueing
  t.setLink { t.link with errors := errors }

theorem witness_attempts_listen_and_silent_end :
    (inLinkState .listen).link.state = .listen ∧ (inLinkState .silent).link.state = .silent
      ∧ 100000 ≤ (inLinkState .listen).now + 0 - (inLinkState .listen).link.since
      ∧ (attempting 30).link.attempt.isSome = true ∧ (attempting 30).link.errors < 31
      ∧ (attempting 31).link.attempt.isSome = true ∧ (attempting 31).link.errors = 31 := by decide

/-- A record of the cab whose last frame carried token 1, tracked in two presences. -/
def cabRecord (presence : Presence) (good errors : Nat) (accepted : Micros) : PeerRecord :=
  { presentRecord 1 with presence := presence, goodRun := good, errors := errors, acceptedAt := some accepted }

/-- The hypotheses of a STATE frame that arrives for a tracked record. -/
def Classified (r : PeerRecord) (token : Nat) : Prop :=
  (withPeer 1 r (bench 3)).hearsPeer 1 ∧ (withPeer 1 r (bench 3)).peer (1 : BitVec 3).toNat = some r
    ∧ (r.presence = .joining ∨ r.presence = .present)
    ∧ decodeState (1 : BitVec 3).toNat (encodeState (contentOf 1 token)) = some (contentOf 1 token)

/-- EARLY at 4,999 µs; good in JOINING with a good run of 6 and of 7, and in PRESENT; a wrong token below the limit and at it. -/
theorem witness_state_frame_is_classified :
    (Classified (cabRecord .present 8 0 (at0 - 4999)) 2
      ∧ (cabRecord .present 8 0 (at0 - 4999)).acceptedAt.any (fun a => at0 - a < 5000) = true)
    ∧ (Classified (cabRecord .joining 6 0 (at0 - 5000)) 2
      ∧ (cabRecord .joining 6 0 (at0 - 5000)).acceptedAt.any (fun a => at0 - a < 5000) = false
      ∧ some (tokenSuccessor 1) = some (contentOf 1 2).token)
    ∧ Classified (cabRecord .joining 7 0 (at0 - 5000)) 2 ∧ Classified (cabRecord .present 8 1 (at0 - 5000)) 2
    ∧ (Classified (cabRecord .present 8 5 (at0 - 5000)) 3 ∧ 5 < (bench 3).errorLimit
      ∧ some (tokenSuccessor 1) ≠ some (contentOf 1 3).token)
    ∧ Classified (cabRecord .present 8 6 (at0 - 5000)) 3 ∧ ¬ 6 < (bench 3).errorLimit := by
  have hears : ∀ r : PeerRecord, (withPeer 1 r (bench 3)).hearsPeer 1 := fun r => by
    show (bench 3).hearsPeer 1
    unfold State.hearsPeer
    decide
  have held : ∀ r : PeerRecord, (withPeer 1 r (bench 3)).peer (1 : BitVec 3).toNat = some r := fun _ => rfl
  have read : decodeState (1 : BitVec 3).toNat (encodeState (contentOf 1 2)) = some (contentOf 1 2)
      ∧ decodeState (1 : BitVec 3).toNat (encodeState (contentOf 1 3)) = some (contentOf 1 3)
      ∧ (bench 3).errorLimit = 6 := by
    decide
  refine ⟨⟨⟨hears _, held _, .inr rfl, read.1⟩, by decide⟩,
    ⟨⟨hears _, held _, .inl rfl, read.1⟩, by decide, by decide⟩, ⟨hears _, held _, .inl rfl, read.1⟩,
    ⟨hears _, held _, .inr rfl, read.1⟩, ⟨⟨hears _, held _, .inr rfl, read.2.1⟩, by rw [read.2.2]; decide, by decide⟩,
    ⟨hears _, held _, .inr rfl, read.2.1⟩, by rw [read.2.2]; decide⟩

/-- An ABSENT and a LOST record meet a sound frame; a PRESENT one a payload of no bytes. -/
theorem witness_state_frame_joins_or_is_malformed :
    (bench 3).hearsPeer 1 ∧ (bench 3).peer (1 : BitVec 3).toNat = some PeerRecord.initial
      ∧ PeerRecord.initial.presence = .absent ∧ (cabRecord .lost 0 7 0).presence = .lost
      ∧ (withPeer 1 (cabRecord .lost 0 7 0) (bench 3)).peer (1 : BitVec 3).toNat = some (cabRecord .lost 0 7 0)
      ∧ decodeState (1 : BitVec 3).toNat (encodeState (contentOf 1 5)) = some (contentOf 1 5)
      ∧ decodeState (1 : BitVec 3).toNat [] = none
      ∧ (∀ x ∈ (bench 3).peers, x.1 ≠ (1 : BitVec 3).toNat → x.2.presence ≠ .lost)
      ∧ (∃ x ∈ (withPeer 2 (cabRecord .lost 0 7 0) (bench 3)).peers, x.1 ≠ (1 : BitVec 3).toNat ∧ x.2.presence = .lost)
      ∧ (presentRecord 1).presence = .present ∧ (bench 3).errorLimit ≤ ({ presentRecord 1 with errors := 15 }).errors := by
  unfold State.hearsPeer
  decide

/-- R39: PEER_LOST, raised at the loss of the cab and of station 2, ends when the second of them is heard again. -/
theorem test_peer_lost_ends :
    let lose (k : Nat) (s : State) := withPeer k { presentRecord k with errors := 15 } s
    let gone := after (.missed 0 2) (after (.missed 25000 1) (lose 1 (lose 2 (convoy 3))))
    let hear (k : BitVec 3) (s : State) := after (.stateFrameReceived 0 k (encodeState (contentOf k.toNat 5))) s
    gone.hasCondition .peerLost = true ∧ (hear 1 gone).hasCondition .peerLost = true
      ∧ (hear 2 (hear 1 gone)).hasCondition .peerLost = false
      ∧ (hear 2 (hear 1 gone)).sup.faults.map (fun f => (f.code, f.state)) = [(.peerLost, .passive)] := by decide

theorem witness_missed_deadline_counts_an_error :
    (convoy 3).timersRun = true ∧ (convoy 3).peer 1 = some (presentRecord 1) ∧ (presentRecord 1).presence = .present
      ∧ (presentRecord 1).deadline = some (at0 + 25000) ∧ at0 + 25000 ≤ (convoy 3).now + 25000
      ∧ (convoy 3).now + 24999 < at0 + 25000 := by decide

theorem witness_driver_frame_is_taken_from_station_1 :
    (bench 3).hearsPeer 1 ∧ (1 : BitVec 3).toNat = 1 ∧ decodeDriver (encodeDriver cabContent) = some cabContent
      ∧ (bench 3).hearsPeer 2 ∧ (2 : BitVec 3).toNat ≠ 1 ∧ decodeDriver [] = none := by
  unfold State.hearsPeer
  decide

/-- FRESH at an age just above 30 ms and at 30 ms, HOLDING just above 80 ms, and NONE 2 s after LISTEN. -/
theorem witness_driver_status_follows_age :
    (bench 3).timersRun = true ∧ (bench 3).driver.status = .fresh
      ∧ 30000 < (bench 3).now + 30001 - (bench 3).driver.since ∧ (bench 3).now + 30001 - (bench 3).driver.since ≤ 80000 ∧ (bench 3).now + 30000 - (bench 3).driver.since ≤ 30000
      ∧ ((bench 3).setStatus .holding).driver.status = .holding
      ∧ 80000 < (bench 3).now + 80001 - (bench 3).driver.since ∧ (bench 3).now + 80000 - (bench 3).driver.since ≤ 80000
      ∧ ((bench 3).setStatus .none).driver.status = .none ∧ (bench 3).link.leftListen = some 200000
      ∧ 2000000 ≤ (bench 3).now + 0 - 200000 ∧ (bench 3).hasCondition .cabLost = false := by decide

theorem witness_alert_sets_its_latch :
    (bench 3).hearsPeer 1 ∧ (bench 3).peer (1 : BitVec 3).toNat = some PeerRecord.initial
      ∧ decodeAlert (1 : BitVec 3).toNat (encodeAlert ⟨.edge, 1, 1, 0⟩) = some ⟨.edge, 1, 1, 0⟩ := by
  unfold State.hearsPeer
  decide

/-- A stopped engine, the station's own number, the tool, a peer, and the unexpected senders 0 and 5. -/
theorem witness_frames_of_other_senders :
    restarting.link.state = .stopped ∧ (3 : BitVec 3).toNat = (bench 3).station ∧ (7 : BitVec 3).toNat = 7
      ∧ (bench 3).hearsPeer 4 ∧ (bench 3).link.state ≠ .stopped ∧ (0 : BitVec 3).toNat ≠ (bench 3).station
      ∧ (0 : BitVec 3).toNat = 0 ∧ (bench 3).axles < (5 : BitVec 3).toNat ∧ (5 : BitVec 3).toNat ≠ 7
      ∧ (bench 3).link.unexpectedSeen = false
      ∧ ((bench 3).setLink { (bench 3).link with unexpectedSeen := true }).link.unexpectedSeen = true := by
  unfold State.hearsPeer
  decide

/-- A track memory of `n` entries, one every 25 cm from mark 5,000. -/
def trackOf (n : Nat) : TrackMemory :=
  { TrackMemory.initial with entries := (List.range n).map (fun i => ⟨5000 + 25 * i, 100, false⟩) }

theorem witness_path_sample_is_admitted_or_discarded :
    (bench 3).hearsPeer 1 ∧ (bench 3).keepsTrack = true
      ∧ decodePath (encodePath ⟨5025, 100, false, false⟩) = some ⟨5025, 100, false, false⟩
      ∧ ((bench 3).setOdo { (bench 3).odo with direction := .reverse }).odo.direction = .reverse
      ∧ (trackOf 2).entries.getLast?.any (fun e => 5025 ≤ e.mark) = true
      ∧ (trackOf 111).entries.length = 111 ∧ (bench 3).sup.faults.length < 16
      ∧ 128 ≤ (trackOf 128).entries.length ∧ (trackOf 128).entries.getLast?.any (fun e => 8200 ≤ e.mark) = false := by
  unfold State.hearsPeer
  decide +kernel

theorem witness_reading_and_fault_requests :
    (bench 3).hearsTool ∧ (3 : Byte).toNat = (bench 3).station ∧ (bench 3).odo.standstill = false
      ∧ ((bench 3).setOdo { (bench 3).odo with standstill := true }).odo.standstill = true := by
  unfold State.hearsTool
  decide

/-- A request of 2 bytes, one for another station, one of 5 bytes, and kinds 0 and 6. -/
theorem witness_rejected_requests :
    (bench 3).hearsTool ∧ (4 : Byte).toNat ≠ (bench 3).station ∧ ([1, 3] : Payload).length < 3 ∧ (([1, 4, 0, 0] : Payload).getD 1 0).toNat ≠ (bench 3).station
      ∧ (([1, 3, 0, 0, 0] : Payload).getD 1 0).toNat = (bench 3).station ∧ ([1, 3, 0, 0, 0] : Payload).length ≠ 4
      ∧ (([0, 3, 0, 0] : Payload).getD 0 0).toNat = 0 ∧ 5 < (([6, 3, 0, 0] : Payload).getD 0 0).toNat := by
  unfold State.hearsTool
  decide

/-- R43: without a working copy, in LIMP, an edge is captured all the same. -/
theorem test_tooth_edge_without_a_copy :
    let s := (withMode .limp (bench 3)).setLoader { (bench 3).loader with copy := none }
    let t := after (.toothEdge 4000 .left) (after (.toothEdge 0 .left) s)
    t.odo.left.capture = some 4000 ∧ t.odo.left.accumulator = 0 := by decide

theorem witness_tooth_edge_captures_and_adds :
    (bench 3).timersRun = true ∧ (bench 3).loader.copy = some (copyOf 3)
      ∧ (withMode .limp (bench 3)).timersRun = true := by decide

/-- Table 12.4: BORROWED and 0, and 10 ms more at the next expiry. -/
theorem test_borrow_time :
    let s := (bench 3).setBrake { (bench 3).brake with slipR := { SlipRecord.initial with state := .dump } }
    let t := after (.speedOdometryExpiry 0) s
    t.odo.source = .borrowed ∧ t.odo.borrowTime = 0
      ∧ (after (.speedOdometryExpiry 10000) t).odo.borrowTime = 10 := by decide

/-- The right wheel's fault pending in CENTRING, its line open. -/
def rightPending : State := after (.wheelSensorOpenShort 0 .right true) ((bench 3).setSteer (bench 3).steer.toCentring)

/-- R47, R180: the left line opens too: both wheels are excluded in the middle of the manoeuvre. -/
theorem test_both_wheels_at_once :
    let t := after (.wheelSensorOpenShort 0 .left true) rightPending
    rightPending.odo.right.excluded = false ∧ t.odo.left.excluded = true ∧ t.odo.right.excluded = true
      ∧ t.sup.deferred = [] ∧ t.sup.faults.map (fun f => (f.code, f.state)) =
        [(.wheelSensorR, .active), (.wheelSensorL, .active), (.wheelSensorsBoth, .active)] := by decide

theorem witness_wheel_open_short_excludes_both :
    rightPending.timersRun = true ∧ rightPending.sup.power ≠ .off
      ∧ rightPending.hasCondition (wheelFault .left) = false
      ∧ rightPending.hasCondition (wheelFault (otherSide .left)) = true ∧ rightPending.hasCondition .wheelSensorsBoth = false
      ∧ rightPending.inEffect (wheelFault .left) = false ∧ rightPending.protectedManoeuvre = true
      ∧ wheelFault (otherSide .left) ∈ rightPending.sup.deferred
      ∧ ∀ f ∈ rightPending.sup.faults, f.code ∈ rightPending.sup.deferred → f.state = .deferred := by decide

/-- Outside a protected manoeuvre and, in CENTRING, in one. -/
theorem witness_wheel_open_short_excludes :
    (bench 3).timersRun = true ∧ (bench 3).sup.power ≠ .off ∧ (bench 3).hasCondition (wheelFault .left) = false
      ∧ (bench 3).hasCondition (wheelFault (otherSide .left)) = false ∧ (bench 3).inEffect (wheelFault .left) = false
      ∧ (bench 3).sup.windowFrom = none ∧ (bench 3).protectedManoeuvre = false
      ∧ ((bench 3).setSteer (bench 3).steer.toCentring).protectedManoeuvre = true
      ∧ ((bench 3).odo.wheel .left).implausible ≠ 200 ∧ ((bench 3).odo.wheel .left).openShort = false := by decide

/-- The cab of Table 3.2: three and two edges of 38,750 µm (teeth 80), δ1 at 1,500 cd, and a mark with its accumulator. -/
def rolling (mark : Nat) (direction : Direction) : State :=
  { bench 1 with
    driver := { (bench 1).driver with content := some { cabContent with direction := direction } }
    path := { (bench 1).path with frontAngle := 1500 }
    odo := { (bench 1).odo with
      left := { Wheel.initial with accumulator := 116250 * (copyOf 1).teeth }
      right := { Wheel.initial with accumulator := 77500 * (copyOf 1).teeth }
      mark := mark, markAccumulator := 7200 } }

/-- Table 3.2, R53, R54: the mark and the accumulator of one period, none in REVERSE, and the end of the mark. -/
theorem test_period_of_the_cab :
    let next (m : Nat) (d : Direction) := (after (.speedOdometryExpiry 0) (rolling m d)).odo
    (next 12340 .forward).mark = 12350 ∧ (next 12340 .forward).markAccumulator = 774
      ∧ (next 12340 .reverse).mark = 12340 ∧ (next 12340 .reverse).markAccumulator = 7200
      ∧ (next 3999999991 .neutral).mark = 4000000000 ∧ (next 3999999991 .neutral).markAccumulator = 0
      ∧ (next 3999999991 .neutral).saturated = true ∧ (next 3999999990 .neutral).saturated = false := by decide +kernel

theorem witness_speed_expiry_sets_speeds_and_counts_distance :
    let s := rolling 12340 .forward
    let slipping := s.setBrake { s.brake with slipR := { SlipRecord.initial with state := .dump } }
    let source (x : State) := (after (.speedOdometryExpiry 0) x).odo.source
    (s.timersRun = true ∧ s.loader.copy = some (copyOf 1) ∧ s.sup.windowFrom = none ∧ s.odo.markValid = true
      ∧ s.odo.saturated = false ∧ s.isCab = true ∧ s.hasCondition .steerInput = false)
    ∧ rightPending.protectedManoeuvre = true ∧ source s = .own ∧ source slipping = .borrowed
    ∧ ((after (.speedOdometryExpiry 0) (rolling 12340 .reverse)).odo.direction = .reverse
      ∧ (rolling 12340 .reverse).odo.direction ≠ .reverse)
    ∧ ((bench 3).setOdo { (bench 3).odo with markValid := false }).odo.markValid = false := by
  decide +kernel

/-- A left wheel whose last edge lies 250 ms back, and one whose run stands at 199 beside a wheel at 969 cm/s. -/
def lateWheel : State := (bench 3).setOdo { (bench 3).odo with left := { Wheel.initial with lastEdge := some (at0 - 250000) } }
def implausibleWheel : State :=
  (bench 3).setOdo { (bench 3).odo with
    left := { Wheel.initial with implausible := 199 }
    right := { Wheel.initial with lastEdge := some at0, capture := some 3097 } }

theorem witness_wheel_timeout_and_plausibility :
    (lateWheel.odo.wheel .left).lastEdge = some 9750000 ∧ 250000 ≤ lateWheel.now + 0 - 9750000
      ∧ lateWheel.timersRun = true ∧ implausibleWheel.loader.copy = some (copyOf 3)
      ∧ ((implausibleWheel.odo.wheel .left).measure (copyOf 3) (implausibleWheel.now + 0)).speed = 0
      ∧ 500 < ((implausibleWheel.odo.wheel (otherSide .left)).measure (copyOf 3) (implausibleWheel.now + 0)).speed
      ∧ (implausibleWheel.odo.wheel .left).implausible = 199 := by decide

def restingRun : State := (bench 3).setOdo { (bench 3).odo with setRun := 19 }

/-- Station 2 at standstill with a grant on slot 0, and PRESENT station 3 reporting a speed. -/
def grantedAt (v : Nat) : State :=
  withPeer 3 { PeerRecord.initial with
      presence := .present, content := some { contentOf 3 1 with axleSpeed := v, speedValid := true } }
    { bench 2 with
      odo := { (bench 2).odo with standstill := true, setRun := 20 }
      doors := { (bench 2).doors with slot0 := { (bench 2).doors.slot0 with grant := true } } }

/-- R57, R58: 31 clears the flag with its ALERT, 30 keeps it and restarts the run. -/
theorem test_standstill_lost :
    let t := after (.speedOdometryExpiry 0) (grantedAt 31)
    let u := after (.speedOdometryExpiry 0) (grantedAt 30)
    t.odo.standstill = false ∧ t.link.alerts.map (fun q => q.frame.payload) =
        [encodeAlert { kind := .standstillLost, station := 2, slot := 255, value := 31 }]
      ∧ u.odo.standstill = true ∧ u.odo.setRun = 0 ∧ u.link.alerts = [] := by decide

theorem witness_standstill_is_set_and_cleared_at_a_grant :
    (grantedAt 31).timersRun = true ∧ (grantedAt 31).loader.copy = some (copyOf 2)
      ∧ (grantedAt 31).odo.standstill = true ∧ (grantedAt 31).doors.slot0.grant = true
      ∧ (after (.speedOdometryExpiry 0) (grantedAt 31)).odo.terms (grantedAt 31).peerSpeeds = [0, 31]
      ∧ (after (.speedOdometryExpiry 0) (grantedAt 30)).odo.terms (grantedAt 30).peerSpeeds = [0, 30] := by decide

theorem witness_standstill_is_set_and_cleared :
    restingRun.timersRun = true ∧ restingRun.loader.copy = some (copyOf 3) ∧ restingRun.odo.standstill = false
      ∧ restingRun.odo.setRun = 19
      ∧ (State.wheelWork (copyOf 3) (restingRun.advance 0)).speedWork.speedTerms.all (fun v => v < 10) = true
      ∧ (State.wheelWork (copyOf 3) (restingRun.advance 0)).speedWork.odo.speedValid = true := by decide

/-- A station without a mark, in SYNC since a span; the cab's report reaches station 3 in the last. -/
def unmarked (k : Nat) (span : Micros) (s : State) : State :=
  { s with
    loader := (bench k).loader
    odo := { s.odo with markValid := false, mark := 0 }, sup := { s.sup with syncFrom := some (at0 - span) } }

theorem witness_marks_are_adopted :
    (unmarked 1 200000 (bench 1)).working = true ∧ (unmarked 1 200000 (bench 1)).loader.copy = some (copyOf 1)
      ∧ (unmarked 1 200000 (bench 1)).odo.markValid = false ∧ (unmarked 1 200000 (bench 1)).isCab = true
      ∧ (unmarked 1 200000 (bench 1)).sup.syncFrom = some 9800000 ∧ 200000 ≤ at0 + 0 - 9800000
      ∧ (unmarked 3 2000000 (bench 3)).isCab = false ∧ (unmarked 3 2000000 (bench 3)).sup.syncFrom = some 8000000
      ∧ ((unmarked 3 2000000 (bench 3)).peer 1).bind PeerRecord.adoptable = none
      ∧ (unmarked 3 2000000 (bench 3)).working = true ∧ (unmarked 3 2000000 (bench 3)).odo.markValid = false
      ∧ ((unmarked 3 2000000 (convoy 3)).peer 1).bind PeerRecord.adoptable = some (contentOf 1 1) := by decide

/-- The cab's next sample mark, and its PATH slots. -/
def emitting (next : Option Nat) (slots : Nat) : State :=
  { bench 1 with
    path := { PathGenerator.initial with nextMark := next, breakPending := false }
    link := { (bench 1).link with paths := List.replicate slots ⟨0, ⟨17, []⟩⟩ } }

/-- The cab's mark at its end: clamped when it was adopted from peers that stand 41 cm before it, or carried there. -/
def clamped : State :=
  let s := convoy 1
  after (.cabMarkAdoption 0) (unmarked 1 200000 (s.setPeers (s.peers.map (fun x =>
    (x.1, { x.2 with content := some { contentOf x.1 1 with markValid := true, mark := 3999999959, lag := 0 } })))))
def saturated : State := clamped.setOdo { clamped.odo with saturated := true }

/-- R55, R63, R64: the first sample follows a clamped adoption; once an increment has saturated the mark none is queued. -/
theorem test_samples_at_the_end_of_the_mark :
    let paths (s : State) := (after (.pathGeneratorExpiry 0 (.reading 0)) s).link.paths.map (fun q => q.frame.payload)
    clamped.odo.mark = 4000000000 ∧ clamped.hasCondition .odometerSaturated = true
      ∧ paths clamped = [encodePath ⟨4000000000, 0, true, false⟩] ∧ paths saturated = [] := by decide +kernel

theorem witness_path_expiry_emits_samples :
    (bench 1).working = true ∧ (bench 1).isCab = true ∧ (bench 1).loader.copy = some (copyOf 1)
      ∧ (bench 1).odo.markValid = true ∧ (bench 1).odo.direction ≠ .reverse
      ∧ (unmarked 1 0 (bench 1)).odo.markValid = false
      ∧ ((bench 1).path.nextMark = none ∧ (bench 1).link.paths.length < 4)
      ∧ ((emitting (some 5001) 0).path.nextMark = some 5001 ∧ (emitting (some 5001) 0).odo.mark < 5001)
      ∧ ((emitting (some 5000) 3).path.nextMark = some 5000 ∧ 5000 ≤ (emitting (some 5000) 3).odo.mark
          ∧ (emitting (some 5000) 3).odo.mark < 5025 ∧ (emitting (some 5000) 3).link.paths.length < 4)
      ∧ (4976 ≤ (emitting (some 4976) 4).odo.mark ∧ (emitting (some 4976) 4).odo.mark < 4976 + 25
          ∧ 4 ≤ (emitting (some 4976) 4).link.paths.length)
      ∧ ((emitting none 4).path.nextMark = none ∧ 4 ≤ (emitting none 4).link.paths.length)
      ∧ 4975 + 25 ≤ (emitting (some 4975) 3).odo.mark ∧ (bench 1).odo.saturated = false
      ∧ saturated.odo.saturated = true ∧ saturated.odo.markValid = true
      ∧ faultyReading (-9000) 9000 .openShort ∧ faultyReading (-9000) 9000 (.reading 9001) := by
  unfold faultyReading
  decide +kernel

/-- A track memory whose last look-up point lies more than 200 cm beyond its newest entry. -/
def starving : State := (bench 3).setTrack { trackOf 21 with starvedRun := 49 }

/-- R75, R77: look-ups at 240, 480 and 815 cm beyond the mark, over entries up to 6475, 5500, 5250, or none at m_mid. -/
theorem test_track_status :
    let look (entries : List TrackEntry) :=
      let t := (after (.trackMemoryExpiry 0) ((bench 3).setTrack { TrackMemory.initial with entries := entries })).track
      (t.status, t.starvingSoon)
    look (trackOf 60).entries = (.valid, false) ∧ look (trackOf 21).entries = (.starved, false)
      ∧ look (trackOf 11).entries = (.starved, true) ∧ look ((trackOf 60).entries.drop 10) = (.empty, false)
      ∧ look [] = (.empty, true) := by decide

theorem witness_track_expiry_retires_and_starves :
    starving.timersRun = true ∧ starving.keepsTrack = true ∧ starving.loader.copy = some (copyOf 3) ∧ starving.track.sound
      ∧ starving.odo.markValid = true ∧ starving.inLimp = false
      ∧ (unmarked 3 0 starving).odo.markValid = false ∧ starving.track.starvedRun = 49
      ∧ (starving.retireEntries (copyOf 3)).statusNow (copyOf 3) = .starved := by
  have h : (starving.timersRun = true ∧ starving.keepsTrack = true ∧ starving.loader.copy = some (copyOf 3))
      ∧ (starving.track.entries.length ≤ Config.trackCapacity
        ∧ starving.track.entries.Pairwise (fun e f => e.mark < f.mark)
        ∧ starving.track.gapCount = gapsIn starving.track.entries)
      ∧ starving.odo.markValid = true ∧ starving.inLimp = false
      ∧ (unmarked 3 0 starving).odo.markValid = false ∧ starving.track.starvedRun = 49
      ∧ (starving.retireEntries (copyOf 3)).statusNow (copyOf 3) = .starved := by decide
  obtain ⟨⟨h1, h2, h3⟩, ⟨h4, h5, h6⟩, h7⟩ := h
  exact ⟨h1, h2, h3, ⟨h4, h5, h6⟩, h7⟩

theorem witness_steering_outputs_and_fails :
    (bench 3).working = true ∧ (bench 3).isSteered = true ∧ (-9000 : Int) ≤ 9000
      ∧ faultyReading (-9000) 9000 .openShort ∧ faultyReading (-9000) 9000 (.reading (-9001))
      ∧ (bench 3).hasCondition .steerSensor = false := by
  unfold faultyReading
  decide

/-- Station 3 steering in a mode, over a track that a look-up at m_mid finds or not, with the docking request set. -/
def targeting (mode : SteerMode) (entries : List TrackEntry) : State :=
  { bench 3 with
    driver := { (bench 3).driver with content := some { cabContent with docking := true } }
    steer := { Steering.initial with mode := mode, solenoid := true }
    track := { TrackMemory.initial with
      entries := entries, status := if entries = [] then .empty else .valid, starvingSoon := false } }

theorem witness_steer_target_and_demand_follow_their_laws :
    let p := copyOf 3
    let path : List TrackEntry := [⟨5000, 1000, false⟩, ⟨7000, 1000, false⟩]
    let mode (m : SteerMode) (es : List TrackEntry) := (after (.steeringExpiry 0 (.reading 0)) (targeting m es)).steer.mode
    (∀ m ∈ [SteerMode.locked, .tracking, .guided, .centring, .failed], (targeting m path).working = true
      ∧ (targeting m path).isSteered = true ∧ (targeting m path).loader.copy = some p)
    ∧ mode .locked [] = .locked ∧ mode .failed path = .failed ∧ mode .centring path = .centring ∧ mode .guided path = .guided
    ∧ mode .tracking path = .tracking ∧ mode .tracking [] = .tracking
    ∧ (targeting .tracking path).lookAhead (roundNat p.steerLever 2) = some ⟨1000, 0⟩
    ∧ (targeting .tracking []).lookAhead (roundNat p.steerLever 2) = none := by
  decide

/-- R90: with no sample to look up the target stays as it was before the speed limit, and a higher limit widens it. -/
theorem test_underrun_keeps_the_unlimited_target :
    let s : State := (bench 4).setSteer { Steering.initial with
      mode := .tracking, solenoid := true, unlimited := -2000, target := -1720, applied := -1700, staged := -1700, line := -1700 }
    let t := after (.steeringExpiry 0 (.reading (-1700))) s
    t.steer.unlimited = -2000 ∧ t.steer.target = -2000 ∧ t.steer.applied = -1780 := by decide

/-- Table 1.1: at stations 1 and 2 neither word of the copy makes a role; R89, R51: in LIMP the steer mode goes by the
word, and the mark stays. -/
theorem test_no_role_in_front :
    let s (k : Nat) : State := (bench 3).setLoader { (bench 3).loader with strap := k }
    (∀ k ∈ [1, 2], (s k).isSteered = false ∧ (s k).ownsJoint = false ∧ (s k).keepsTrack = false)
      ∧ (s 4).isSteered = true ∧ (s 4).ownsJoint = true ∧ ((s 2).enterLimp 1).steer.mode = .failed
      ∧ ((s 2).enterLimp 1).odo.mark = 5000 ∧ ((s 2).enterLimp 1).odo.markValid = false := by decide

/-- Station 3 steering in a mode with its runs, over a VALID track or not. -/
def steering (t : Steering) (status : TrackStatus) : State :=
  { bench 3 with steer := t, track := { trackOf 60 with status := status, starvingSoon := false } }

/-- R83 to R86: LOCKED enters TRACKING over a VALID track, not at a borrow time above 3 s; from TRACKING and GUIDED, a
borrow time above 3 s, REVERSE, and a joint that is not usable. -/
theorem test_steer_rows :
    let next (m : SteerMode) (change : State → State) :=
      (after (.steeringExpiry 0 (.reading 0)) (change (steering { Steering.initial with mode := m } .valid))).steer.mode
    let borrowed (t : Nat) (s : State) : State := s.setOdo { s.odo with borrowTime := t }
    let reverse (s : State) : State := s.setOdo { s.odo with direction := .reverse }
    let jointless (s : State) : State := s.setSup { s.sup with effects := [.jointSensor] }
    [next .locked id, next .locked (borrowed 3000), next .locked (borrowed 3010), next .locked reverse, next .tracking id,
      next .tracking (borrowed 3010), next .tracking reverse, next .tracking (borrowed 3010 ∘ jointless), next .guided id,
      next .guided jointless, next .guided reverse, next .centring id]
      = [.tracking, .tracking, .locked, .locked, .tracking, .guided, .centring, .centring, .guided, .centring, .centring,
        .centring] := by decide

theorem witness_steer_mode_moves_by_its_rows_at_an_expiry :
    ∀ m ∈ [SteerMode.locked, .tracking, .guided, .centring],
      let s := steering { Steering.initial with mode := m } .valid
      s.working = true ∧ s.isSteered = true ∧ s.steer.failedLatch = false ∧ s.steer.mode = m
        ∧ (s.steer.staged - 50).natAbs ≤ 300 ∧ s.steer.travel < 199 := by decide

theorem witness_steer_mode_moves_by_its_rows :
    let locked := steering { Steering.initial with lockLoss := 9 } .empty
    let tracking := steering { Steering.initial with mode := .tracking, notValid := 49, staged := 300 } .starved
    let guided := steering { Steering.initial with mode := .guided, guidedExit := 99 } .valid
    let centring := steering { Steering.initial with mode := .centring, centred := 9, travel := 198 } .valid
    (locked.working = true ∧ locked.isSteered = true ∧ locked.steer.failedLatch = false ∧ locked.steer.mode = .locked
      ∧ locked.steer.lockLoss = 9 ∧ 50 < (51 : Int).natAbs)
    ∧ (tracking.steer.mode = .tracking ∧ tracking.steer.notValid = 49 ∧ tracking.track.status ≠ .valid
      ∧ (tracking.steer.staged - 0).natAbs ≤ 300 ∧ tracking.steer.failedLatch = false)
    ∧ (guided.steer.mode = .guided ∧ guided.steer.guidedExit = 99 ∧ guided.track.status = .valid
      ∧ guided.odo.borrowTime = 0 ∧ guided.ownAlert = false ∧ guided.mustCentre = false ∧ guided.jointUsable = true
      ∧ (guided.steer.staged - 300).natAbs ≤ 300)
    ∧ (centring.steer.mode = .centring ∧ centring.steer.centred = 9 ∧ centring.steer.applied = 0
      ∧ centring.steer.staged = 0 ∧ centring.steer.travel < 199 ∧ (-50 : Int).natAbs ≤ 50) := by decide

theorem witness_steer_mismatch_ends_in_failed :
    let guided := steering { Steering.initial with mode := .guided, mismatch := 19 } .valid
    let centring := steering { Steering.initial with mode := .centring, travel := 199 } .valid
    guided.working = true ∧ guided.isSteered = true ∧ guided.steer.mode = .guided ∧ guided.steer.mismatch = 19
      ∧ 300 < (guided.steer.staged - 301).natAbs ∧ guided.sup.faults.length < 15
      ∧ centring.steer.mode = .centring ∧ centring.steer.travel = 199 := by decide

/-- Station 3 on a straight track at 501 cm/s with a set run of 2, and with an alert at 300 cm/s and a clear run of 19. -/
def jackknifing (speed : Nat) (j : JointMonitor) : State :=
  { bench 3 with
    odo := { (bench 3).odo with reference := speed }
    track := { TrackMemory.initial with entries := [⟨5000, 0, false⟩, ⟨7000, 0, false⟩, ⟨7025, 0, false⟩], status := .valid, starvingSoon := false }
    joint := j }

/-- The six steps with all three look-ups answered, in RUN; the reading alone, in LIMP. -/
theorem witness_joint_expiry_measures_expects_and_damps :
    let run := jackknifing 501 JointMonitor.initial
    let limp := withMode .limp run
    (run.loader.copy = some (copyOf 3) ∧ run.ownsJoint = true ∧ run.sup.windowFrom = none ∧ run.working = true
      ∧ ((-9000 : Int) ≤ 5200 ∧ (5200 : Int) ≤ 9000) ∧ faultyReading (-9000) 9000 .openShort
      ∧ faultyReading (-9000) 9000 (.reading 9001) ∧ run.hasCondition .jointSensor = false
      ∧ run.protectedManoeuvre = false ∧ run.inEffect .jointSensor = false)
    ∧ ([(copyOf 3).steerLever / 2, (copyOf 3).steerLever, (copyOf 3).steerLever + (copyOf 3).jointLever / 2].map run.lookAhead
        = [some ⟨0, 0⟩, some ⟨0, 0⟩, some ⟨0, 0⟩] ∧ run.track.starvingSoon = false)
    ∧ (limp.loader.copy = some (copyOf 3) ∧ limp.ownsJoint = true ∧ limp.sup.windowFrom = none ∧ limp.sup.mode = .limp) := by
  unfold faultyReading
  decide

theorem witness_jack_alert_sets_and_clears :
    let building := jackknifing 501 { JointMonitor.initial with setRun := 2 }
    let easing := jackknifing 300 { JointMonitor.initial with jackAlert := true, clearRun := 19 }
    (building.working = true ∧ building.ownsJoint = true ∧ building.loader.copy = some (copyOf 3)
      ∧ building.sup.windowFrom = none ∧ building.joint.protectionOff = false ∧ building.joint.jackAlert = false
      ∧ building.joint.setRun = 2 ∧ building.expectedNow (copyOf 3) = some 0 ∧ 500 < building.odo.reference
      ∧ (copyOf 3).jackThreshold < (max (-9000) (min 9000 ((801 : Int) - 0))).natAbs)
    ∧ (easing.working = true ∧ easing.ownsJoint = true ∧ easing.joint.protectionOff = false
      ∧ easing.joint.jackAlert = true ∧ easing.joint.clearRun = 19 ∧ easing.odo.reference ≤ 300)
    ∧ (let fast := jackknifing 301 { JointMonitor.initial with jackAlert := true, clearRun := 19 };
      fast.expectedNow (copyOf 3) = some 0
        ∧ (max (-9000) (min 9000 ((399 : Int) - 0))).natAbs < roundNat (copyOf 3).jackThreshold 2) := by decide

theorem witness_brake_pressure_law :
    (bench 3).working = true ∧ (bench 3).loader.copy = some (copyOf 3) ∧ (bench 3).brake.backup = false
      ∧ (bench 3).driverContent = some cabContent ∧ 80 ≤ (bench 3).brake.staged + 80 ∧ (bench 3).brake.staged ≤ 80 + 80 := by
  decide

def notFollowing : State := (bench 3).setBrake { (bench 3).brake with mismatchRun := 29 }

theorem witness_brake_faults_latch_backup :
    (bench 3).working = true ∧ (bench 3).hasCopy = true ∧ (bench 3).brake.backup = false
      ∧ (bench 3).brake.latched = none ∧ faultyReading 0 1000 .openShort ∧ faultyReading 0 1000 (.reading (-1))
      ∧ faultyReading 0 1000 (.reading 1001)
      ∧ (bench 3).hasCondition .brakeSensor = false ∧ notFollowing.brake.mismatchRun = 29
      ∧ 80 < ((81 : Int) - notFollowing.brake.staged).natAbs
      ∧ ((notFollowing.brake.staged : Int) - notFollowing.brake.mismatchReference).natAbs ≤ 20 := by
  unfold faultyReading
  decide

def reapplying : State := (bench 3).setBrake { (bench 3).brake with slipL := { SlipRecord.initial with state := .reapply, steps := 10 } }
def leavingBackup : State := (bench 3).setBrake { Braking.initial 8000 with exitRun := 99 }

/-- Station 3 at 700 cm/s, its relay at 300 kPa, and the left wheel with a speed and a record. -/
def slipping (wheel : Nat) (r : SlipRecord) : State :=
  { bench 3 with
    driver := { (bench 3).driver with content := some { cabContent with demand := 250 } }
    odo := { (bench 3).odo with reference := 700, left := { Wheel.initial with speed := wheel } }
    brake := { (bench 3).brake with load := 11292, staged := 300, line := 300, slipL := r } }

/-- R122, R123: the rows of Table 7.6 at entry 150 and exit 80, and the phases of a REAPPLY. -/
theorem test_slip_moves :
    let next (v : Nat) (r : SlipRecord) : SlipRecord :=
      (after (.brakingExpiry 0 (.reading 300)) (slipping v r)).brake.slipL
    let r (x : SlipState) (before : Nat) : SlipRecord := { SlipRecord.initial with state := x, previous := before }
    (next 595 (r .free 600)).state = .dump ∧ (next 596 (r .free 600)).state = .free
      ∧ (next 596 (r .dump 600)).state = .dump ∧ (next 601 (r .dump 600)).state = .hold
      ∧ (next 595 (r .hold 595)).state = .dump ∧ (next 595 (r .hold 594)).state = .hold
      ∧ (next 645 (r .hold 640)).state = .reapply ∧ (next 645 (r .hold 640)).steps = 1
      ∧ (next 645 { r .reapply 640 with steps := 3, phase := 2 }).phase = 0 := by decide

theorem witness_slip_records_move_and_backup_ends :
    (∀ x ∈ [SlipState.free, .dump, .hold, .reapply],
      let s := slipping 595 { SlipRecord.initial with state := x, previous := 600 }
      let t := after (.brakingExpiry 0 (.reading 300)) s
      s.working = true ∧ s.loader.copy = some (copyOf 3) ∧ t.brake.backup = false ∧ 0 < t.brake.commanded
        ∧ 150 ≤ s.odo.reference ∧ (s.odo.wheel .left).excluded = false)
    ∧ (reapplying.brake.slip .left).state = .reapply ∧ (reapplying.brake.slip .left).phase = 0
      ∧ 10 ≤ (reapplying.brake.slip .left).steps ∧ reapplying.working = true
      ∧ slipOf reapplying.odo.reference (reapplying.odo.wheel .left).speed < (copyOf 3).slipEntry
      ∧ leavingBackup.brake.backup = true ∧ leavingBackup.brake.driverLost = true ∧ leavingBackup.brake.latched = none
      ∧ leavingBackup.driverUsable = true ∧ leavingBackup.brake.exitRun = 99 ∧ leavingBackup.working = true := by
  decide

theorem witness_token_sequence : (1 ≤ 15 ∧ 15 ≤ 15) ∧ starting.sup.power = .on ∧ starting.sup.mode = .start := by decide

theorem witness_state_emission_queues_and_advances :
    (bench 3).timersRun = true ∧ (bench 3).link.state = .active ∧ (inLinkState .silent).link.state = .silent
      ∧ restarting.timersRun = false ∧ (inLinkState .listen).link.state = .listen := by decide

/-- R114: the pedal is tested in LIMP, where R24 queues no frame. -/
theorem test_pedal_in_limp :
    let s := withMode .limp (bench 1)
    let t := after (.driverEmission 0 ⟨.reading 1001, .forward, .drive, true, false, false, 0⟩) s
    let u := after (.driverEmission 0 ⟨.reading 415, .forward, .drive, true, false, false, 0⟩) t
    t.hasCondition .pedalInput = true ∧ u.hasCondition .pedalInput = false ∧ u.link = s.link ∧ u.driver = s.driver := by
  decide

theorem witness_driver_emission_sends_or_tests :
    (bench 1).working = true ∧ (bench 1).isCab = true ∧ (bench 1).link.state = .active
      ∧ (withMode .limp (bench 1)).isCab = true ∧ (withMode .limp (bench 1)).timersRun = true
      ∧ faultyReading 0 1000 (.reading 1001) ∧ faultyReading 0 1000 .openShort := by
  unfold faultyReading
  decide

/-- Station 2 of the convoy at a stop, its halt APPLIED and its peers held, both its doors requested and alike. -/
def atStop (slot : DoorSlot) : State :=
  { convoy 2 with
    peers := (convoy 2).peers.map (fun x => (x.1, { x.2 with content := some { contentOf x.1 1 with halt := .applied } }))
    driver := { content := some { cabContent with doorMask := 12, driveIntent := false }, since := at0, status := .fresh }
    odo := { (bench 2).odo with standstill := true }
    doors := { (bench 2).doors with halt := .applied, slot0 := slot, slot1 := slot } }

/-- R157: a door that stood open at START and is read closed at the first expiry has its fault recorded, PASSIVE. -/
theorem test_door_closed_at_first_expiry :
    let open0 : DoorSlot := { DoorSlot.unfitted with state := .unreleasedOpen }
    let t := after (.doorInterlockExpiry 0 closedDoors) ((bench 2).setDoors { (bench 2).doors with slot0 := open0 })
    t.sup.faults.map (fun r => (r.code, r.state)) = [(.doorUnreleased, .passive)] ∧ t.doors.slot0.state = .locked
      ∧ t.link.alerts = [] := by decide

/-- A locked door in LIMP, its edge inactive. -/
def limpDoors : State := withMode .limp (atStop { DoorSlot.unfitted with state := .locked, closed := true })

/-- R157, R169: the door opens with its edge active, which queues both ALERTs; in LIMP nothing but the doors moves. -/
theorem test_door_alerts :
    let read (s : State) := after (.doorInterlockExpiry 0 ⟨.openShort, .openShort, .on, .off⟩) s
    let slot : DoorSlot := { DoorSlot.unfitted with state := .unreleasedOpen, edge := true }
    let frames : List Frame :=
      [⟨2, encodeAlert ⟨.doorUnreleased, 2, 0, 0⟩⟩, ⟨2, encodeAlert ⟨.edge, 2, 0, 0⟩⟩]
    (read limpDoors).link.alerts.map (fun q => q.frame) = frames
      ∧ (read limpDoors).doors = { limpDoors.doors with slot0 := slot }
      ∧ (read (withMode .run limpDoors)).link.alerts.map (fun q => q.frame) = frames := by decide

theorem witness_door_expiry_in_limp :
    limpDoors.loader.copy = some (copyOf 2) ∧ limpDoors.sup.mode = .limp
      ∧ (∀ j : Fin 2, (limpDoors.doors.slot j).release = false ∧ (limpDoors.doors.slot j).state ≠ .none)
      ∧ limpDoors.link.alerts.length ≤ 2 ∧ (DoorSlot.unfitted).state = .none := by decide

/-- Table 9.2, R165: a door's record and its line after an expiry, by its line, its grant and its inputs then and now. -/
theorem test_door_rows :
    let next (x : DoorState) (release grant closed : Bool) (input : SwitchIn) :=
      let d : DoorSlot := { DoorSlot.unfitted with state := x, release := release, grant := grant, closed := closed }
      let t := after (.doorInterlockExpiry 0 ⟨input, .off, .on, .off⟩) ((atStop d).setDoors { (atStop d).doors with slot0 := d })
      (t.doors.slot0.state, t.doors.slot0.release)
    next .released true true true .off = (.opened, true) ∧ next .opened true true false .on = (.released, true)
      ∧ next .released true false true .on = (.locked, false) ∧ next .opened true false false .off = (.closingWait, false)
      ∧ next .closingWait false false false .on = (.locked, false)
      ∧ next .unreleasedOpen false false false .on = (.locked, false) := by decide

/-- R157, R183: two doors that open unreleased at one expiry, on a full list with nothing PASSIVE, overflow it twice. -/
def fullList : State :=
  let s := atStop { DoorSlot.unfitted with state := .locked, closed := true }
  s.setSup { s.sup with faults := (List.range 16).map (fun n => ⟨.config, .active, 1, n, n⟩) }

theorem test_two_doors_overflow_twice :
    (after (.doorInterlockExpiry 0 ⟨.off, .off, .off, .off⟩) fullList).sup.overflow = 2 := by decide

/-- A station 2 at a stop in a halt state: held by its halt switch, or free to go. -/
def halting (h : HaltState) (switch : Bool) : State :=
  let s := atStop { DoorSlot.unfitted with state := .locked, closed := true }
  { s with
    driver := { s.driver with content := some { cabContent with haltSwitch := switch } }
    doors := { s.doors with halt := h } }

/-- R160 to R162: every halt state, with a hold reason and with none. -/
theorem test_halt_moves :
    let next (h : HaltState) (switch : Bool) := (after (.doorInterlockExpiry 0 closedDoors) (halting h switch)).doors.halt
    [HaltState.off, .applying, .applied, .releasing].map (fun h => (next h true, next h false))
      = [(.applying, .off), (.applying, .releasing), (.applied, .releasing), (.applying, .off)] := by decide

theorem halting_held (h : HaltState) : (((halting h true).advance 0).outputDoors.readDoors closedDoors).heldStill (copyOf 2) :=
  .inl (by cases h <;> decide)

theorem halting_free (h : HaltState) : (((halting h false).advance 0).outputDoors.readDoors closedDoors).freeToGo (copyOf 2) := by
  refine ⟨of_decide_eq_false ?_, ?_, ?_, ?_⟩ <;> cases h <;> decide

theorem witness_doors_open_by_grant_and_halt_brake_moves_faults :
    (∀ j : Fin 2, (fullList.doors.slot j).state = .locked ∧ (fullList.doors.slot j).release = false
      ∧ (fullList.doors.slot j).grant = false ∧ doorInput ⟨.off, .off, .off, .off⟩ j ≠ .on)
    ∧ fullList.sup.faults.length = 16 ∧ (∀ x ∈ fullList.sup.faults, x.state ≠ .passive ∧ x.code ≠ .doorUnreleased)
    ∧ fullList.working = true ∧ fullList.loader.copy = some (copyOf 2)
    ∧ ∀ h ∈ [HaltState.off, .applying, .applied, .releasing], (halting h true).working = true
      ∧ (halting h true).loader.copy = some (copyOf 2) ∧ (halting h true).doors.halt = h
      ∧ (halting h true).odo.standstill = true ∧ (halting h true).brake.backup = false := by decide

theorem witness_doors_open_by_grant_and_halt_brake_moves :
    let locked : DoorSlot := { DoorSlot.unfitted with state := .locked, closed := true }
    let idle := atStop locked
    let granted := atStop { locked with grant := true }
    (idle.working = true ∧ idle.loader.copy = some (copyOf 2) ∧ idle.runOrDegraded = true ∧ idle.odo.standstill = true
      ∧ idle.doors.halt = .applied ∧ idle.cabPresent = true ∧ idle.driverUsable = true
      ∧ (∀ x ∈ idle.presentContents, x.2.held = true) ∧ 1 ≤ idle.station ∧ idle.station ≤ (copyOf 2).axles
      ∧ SwitchIn.openShort ≠ .on ∧ granted.releaseGate = true ∧ (bench 2).releaseGate = false)
    ∧ ∀ k : Fin 2, granted.energises k ∧ ¬idle.energises k ∧ (idle.doors.slot k).state = .locked ∧ (idle.doors.slot k).release = false
      ∧ (idle.doors.slot k).grant = false
      ∧ (idle.driverField DriverContent.doorMask 0).testBit (2 * (idle.station - 1) + k) = true
      ∧ (granted.doors.slot k).grant = true ∧ (granted.doors.slot k).gatedOff = false
      ∧ (granted.doors.slot k).state = .locked ∧ doorInput closedDoors k = .on := by decide

/-- The reservoir at the prewarn threshold's edge, with the demand 0 and not 0, the latch clear and set. -/
theorem witness_levelling_weighs_and_judges_air :
    (bench 3).timersRun = true ∧ (bench 3).loader.copy = some (copyOf 3) ∧ (bench 3).sup.windowFrom = none
      ∧ (bench 3).sup.deferred = []
      ∧ (bench 3).brake.demand = 0 ∧ ((bench 3).setBrake { (bench 3).brake with demand := 250 }).brake.demand ≠ 0
      ∧ (bench 3).air.reservoirLatch = false
      ∧ ((bench 3).setAir { (bench 3).air with reservoirLatch := true }).air.reservoirLatch = true
      ∧ (719 < (copyOf 3).prewarnAt ∧ 649 < (copyOf 3).protectAt ∧ 689 < (copyOf 3).releaseAt) := by decide

/-- An expiry whose reservoir, left height and left bellows inputs are faulty, in LEVEL and in CENTRING. -/
def faulty (s : State) : State :=
  after (.levellingExpiry 0 ⟨.openShort, .reading 401, .reading 250, .reading (-1), .reading 340⟩) s
def inCentring : State := (bench 3).setSteer (bench 3).steer.toCentring

/-- R133, R137, R149, R180: each input's fault, its value, and its consequence at once or pending. -/
theorem test_faulty_level_inputs :
    let t := faulty (bench 3)
    let u := faulty inCentring
    (t.air.reservoir = 0 ∧ t.air.air = .protect ∧ t.air.reservoirLatch = true)
      ∧ (t.air.cornerL.condition = some .range ∧ t.air.cornerL.height = 250 ∧ t.air.cornerL.excluded = true)
      ∧ (t.air.cornerL.bellowsCondition = true ∧ t.hasCondition .bellowsSensor = true
        ∧ t.air.axleLoad = axleLoadOf (copyOf 3) 340 340)
      ∧ (u.air.air = .normal ∧ u.air.cornerL.excluded = false ∧ u.sup.deferred = [.reservoirSensor, .heightSensorL]) := by
  decide

theorem witness_faulty_level_inputs :
    (bench 3).timersRun = true ∧ (bench 3).loader.copy = some (copyOf 3) ∧ inCentring.timersRun = true
      ∧ (bench 3).hasCondition .reservoirSensor = false ∧ (bench 3).inEffect .reservoirSensor = false
      ∧ (bench 3).protectedManoeuvre = false ∧ (bench 3).sup.windowFrom = none
      ∧ inCentring.protectedManoeuvre = true ∧ (faulty inCentring).protectedManoeuvre = true
      ∧ (faulty inCentring).hasCondition .reservoirSensor = true
      ∧ (faulty (faulty inCentring)).protectedManoeuvre = true
      ∧ (bench 3).hasCondition .heightSensorL = false ∧ (bench 3).inEffect .heightSensorL = false
      ∧ (bench 3).air.cornerL.condition ≠ some .stuck ∧ (bench 3).air.cornerL.stuckCount < 29
      ∧ (bench 3).sup.deferred = [] ∧ (bench 3).brake.demand = 0
      ∧ faultyReading 0 1000 .openShort ∧ faultyReading 0 400 (.reading 401) ∧ faultyReading 0 1000 (.reading (-1)) := by
  unfold faultyReading
  decide

/-- A continuous fill of the left corner with its valve open, and a stuck count. -/
def filling (count : Nat) : State :=
  (bench 3).setAir { (bench 3).air with
    level := .returning
    cornerL := { (bench 3).air.cornerL with height := 200, stuckReference := 200, stuckCount := count }
    channelL := { Channel.initial with state := .filling, kind := .continuous, valveOpen := true } }

theorem witness_height_stuck_ends_the_run :
    (filling 29).timersRun = true ∧ ((filling 29).air.channel .left).state = .filling
      ∧ ((filling 29).air.channel .left).kind = .continuous ∧ ((filling 29).air.channel .left).valveOpen = true
      ∧ ((filling 29).air.corner .left).condition = none ∧ ((filling 29).air.corner .left).stuckCount = 29
      ∧ 202 < ((filling 29).air.corner .left).stuckReference + 3
      ∧ ((filling 29).air.corner .left).stuckReference < 202 + 3 ∧ (filling 29).loader.copy = some (copyOf 3) := by
  decide

/-- Readings of a sound reservoir and bellows, with two heights. -/
def heights (left right : Nat) : LevelInputs := ⟨.reading 800, .reading left, .reading right, .reading 320, .reading 340⟩

/-- Station 3 in LEVEL: a corner that starts a pulsed run, one in a run, and one in a run under a hold. -/
def pulsed (ch : Channel) (demand : Nat) : State :=
  { bench 3 with
    brake := { (bench 3).brake with demand := demand }
    air := { (bench 3).air with channelL := ch } }

theorem witness_pulses_start :
    let running : Channel := { Channel.initial with state := .filling, pulses := 3 }
    let s := pulsed Channel.initial 0
    let stays (x : State) := (after (.levellingExpiry 0 (heights 238 250)) x).air.level
    (s.working = true ∧ s.loader.copy = some (copyOf 3) ∧ s.sup.windowFrom = none ∧ s.sup.deferred = []
      ∧ s.air.level = .level ∧ heightInput (heights 238 250) .left = .reading 238
      ∧ (s.air.corner .left).excluded = false ∧ (s.air.corner .left).condition = none
      ∧ (s.air.corner .left).stuckCount < 29 ∧ (12 : Int) = ((s.air.corner .left).target : Int) - 238)
    ∧ (stays s = .level ∧ stays (pulsed running 0) = .level ∧ stays (pulsed running 101) = .level)
    ∧ (s.pulseHold (copyOf 3) = false ∧ (pulsed running 101).pulseHold (copyOf 3) = true
      ∧ (pulsed running 0).air.air ≠ .protect
      ∧ (after (.levellingExpiry 0 (heights 238 250)) (pulsed running 0)).air.air ≠ .protect
      ∧ (running.direction = .fill ∧ running.kind = .pulsed ∧ (copyOf 3).deadband < (12 : Int).natAbs)) := by decide

/-- A pulse 60 ms old; a fill at its stop, 245 mm; the kerb corner exhausting in KNEELING, and filling in RETURNING, at its gate. -/
theorem witness_pulses_start_and_valves_close :
    let pulsing := (bench 3).setAir { (bench 3).air with
      channelL := { Channel.initial with state := .filling, pulses := 1, valveOpen := true, pulseFrom := at0 - 60000 } }
    let kneeling := (bench 3).setAir { (bench 3).air with
      level := .kneeling, gate := some 210
      channelR := { Channel.initial with state := .exhausting, kind := .continuous, direction := .exhaust, valveOpen := true } }
    let returning := (bench 3).setAir { (bench 3).air with
      level := .returning, gate := some 210
      channelR := { Channel.initial with state := .filling, kind := .continuous, valveOpen := true } }
    ((pulsing.air.channel .left).state = .filling ∧ (pulsing.air.channel .left).valveOpen = true
      ∧ (pulsing.air.channel .left).kind = .pulsed ∧ pulsing.loader.copy = some (copyOf 3)
      ∧ (copyOf 3).pulseWidth * 1000 ≤ pulsing.now + 0 - (pulsing.air.channel .left).pulseFrom)
    ∧ (((filling 0).air.channel .left).kind = .continuous ∧ ((filling 0).air.channel .left).direction = .fill
      ∧ (((filling 0).air.corner .left).target : Int) - 5 ≤ 245)
    ∧ ((kneeling.air.channel .right).kind = .continuous ∧ (copyOf 3).kerbSide ≠ 1 ∧ kneeling.air.gate = some 210
      ∧ kneeling.air.level = .kneeling ∧ (kneeling.air.channel .right).direction = .exhaust ∧ (210 : Int) ≤ 210)
    ∧ (returning.air.level = .returning ∧ (returning.air.channel .right).direction = .fill ∧ (210 : Int) ≤ 210) := by
  decide

/-- Station 3 in a level state, with a request, at standstill and halted. -/
def levelling (l : LevelState) (request : LevelRequest) : State :=
  { bench 3 with
    driver := { content := some { cabContent with level := request }, since := at0, status := .fresh }
    odo := { (bench 3).odo with standstill := true }
    doors := { (bench 3).doors with halt := .applied }
    air := Levelling.setTargets { (bench 3).air with level := l } (copyOf 3) }

/-- Station 3 of Table 8.7, its kerb corner exhausting, between the kerb heights that stations 2 and 4 report. -/
def besides (below above : Nat) (valveOpen : Bool) : State :=
  let s := levelling .kneeling .kneel
  let report (k : Nat) : StateContent :=
    { contentOf k 1 with participant := true, heightR := if k = 2 then below else above }
  { s with
    peers := (convoy 3).peers.map (fun x => (x.1, { x.2 with content := some (report x.1) }))
    air := { s.air with channelR :=
      { Channel.initial with state := .exhausting, kind := .continuous, direction := .exhaust, valveOpen := valveOpen } } }

/-- Table 8.7: the gate and its neighbours at k3; the kerb corner's run reopened there, held at the gate, and at its stop. -/
theorem test_twist_gate :
    let next (below above kerb : Nat) (valveOpen : Bool) :=
      (after (.levellingExpiry 0 (heights 200 kerb)) (besides below above valveOpen)).air
    let k3 := next 226 220 190 false
    (k3.gate = some 180 ∧ k3.gateBelow = some 2 ∧ k3.gateAbove = some 4)
      ∧ (k3.channelR.valveOpen = true ∧ k3.channelR.gated = false)
      ∧ ((next 226 230 186 true).channelR.valveOpen = false ∧ (next 226 230 186 true).channelR.gated = true)
      ∧ (next 200 200 173 false).channelR.state = .idle := by decide

theorem witness_gate_and_runs :
    let s := besides 226 220 false
    let run := s.air.channel .right
    let idle := s.setAir { s.air with channelR := Channel.initial }
    let filling (air : AirStatus) (x : ChannelState) (res : Nat) : State × Int :=
      let r := levelling .returning .kneel
      (r.setAir { r.air with air := air, channelR := { Channel.initial with state := x, kind := .continuous } }, res)
    let stays (x : State) (res : Int) :=
      (after (.levellingExpiry 0 { heights 200 185 with reservoir := .reading res }) x).air
    (s.working = true ∧ s.loader.copy = some (copyOf 3) ∧ s.peers.Pairwise (fun x y => x.1 < y.1)
      ∧ (s.sup.windowFrom = none ∧ s.air.level = .kneeling ∧ heightInput (heights 200 185) .right = .reading 185)
      ∧ ((s.air.corner .right).excluded = false ∧ (s.air.corner .right).condition = none
        ∧ (s.air.corner .right).stuckCount < 29 ∧ (-15 : Int) = ((s.air.corner .right).target : Int) - 185)
      ∧ (stays s 800).level = .kneeling ∧ run.kind = .continuous ∧ run.state = .exhausting
      ∧ ¬run.direction.against (-15) ∧ ¬run.direction.atStop (s.air.corner .right).target 185
      ∧ run.direction.against 1 ∧ run.direction.atStop (s.air.corner .right).target 175 ∧ Side.right = (copyOf 3).kerb)
    ∧ (idle.air.channelR.state = .idle ∧ (stays idle 800).level = .kneeling)
    ∧ (∀ x ∈ [filling .normal .filling 800, filling .protect .suspended 800, filling .protect .suspended 640,
          filling .normal .filling 640], (stays x.1 x.2).level = .returning)
    ∧ (stays (filling .protect .suspended 640).1 640).air = .protect
    ∧ (stays (filling .normal .filling 640).1 640).air = .protect
    ∧ (stays (filling .protect .suspended 800).1 800).air ≠ .protect := by decide

/-- R144 to R147: from each level state a move with its request, at heights of 250 mm. -/
theorem test_level_moves :
    let next (l : LevelState) (r : LevelRequest) := (after (.levellingExpiry 0 (heights 250 250)) (levelling l r)).air.level
    [next .level .raise, next .level .kneel, next .level .drive, next .raising .raise, next .raising .drive, next .raised .raise,
      next .raised .kneel, next .descending .raise, next .kneeling .kneel, next .kneeling .drive, next .kneeled .kneel,
      next .kneelHeld .raise, next .returning .kneel]
      = [.raising, .kneeling, .level, .raising, .descending, .raised, .descending, .level, .kneeling, .returning,
        .kneeled, .returning, .level] := by decide

theorem witness_level_state_moves :
    ∀ l ∈ [LevelState.level, .raising, .raised, .descending, .kneeling, .kneeled, .kneelHeld, .returning],
      let s := levelling l .kneel
      s.working = true ∧ s.loader.copy = some (copyOf 3) ∧ s.sup.windowFrom = none ∧ s.sup.deferred = [] ∧ s.air.level = l
        ∧ (heights 250 250).heightL = .reading 250 ∧ (heights 250 250).heightR = .reading 250
        ∧ (heights 250 250).reservoir = .reading 800
        ∧ s.air.cornerL.condition = none ∧ s.air.cornerR.condition = none
        ∧ s.air.cornerL.stuckCount < 29 ∧ s.air.cornerR.stuckCount < 29 := by decide

/-- A kneel at its last expiry, and a return at its 149th, with both corners away from their targets. -/
theorem witness_level_state_moves_and_times_out :
    let content := { cabContent with level := .kneel }
    let kneeling := { bench 3 with
      driver := { content := some content, since := at0, status := .fresh }
      odo := { (bench 3).odo with standstill := true }
      air := { (bench 3).air with level := .kneeling, kneelTimer := 79, cornerR := { (bench 3).air.cornerR with target := 170 } } }
    let returning := (bench 3).setAir { (bench 3).air with level := .returning, returnTime := 149 }
    (kneeling.working = true ∧ kneeling.loader.copy = some (copyOf 3) ∧ kneeling.sup.windowFrom = none
      ∧ (kneeling.air.corner .right).excluded = false ∧ (kneeling.air.corner .right).condition = none
      ∧ (kneeling.air.corner .right).stuckCount < 29 ∧ (kneeling.air.corner .right).target + 10 < 181
      ∧ kneeling.air.level = .kneeling ∧ kneeling.air.kneelTimer = 79 ∧ kneeling.levelRequest = .kneel
      ∧ kneeling.driverUsable = true ∧ kneeling.odo.standstill = true ∧ kneeling.sup.faults.length < 12)
    ∧ (returning.working = true ∧ 239 + 10 < (returning.air.corner .left).target ∧ returning.air.level = .returning
      ∧ returning.air.returnTime = 149 ∧ returning.air.reservoirLatch = false ∧ returning.air.air ≠ .protect
      ∧ (copyOf 3).protectAt ≤ 650 ∧ (returning.air.corner .left).excluded = false
      ∧ (returning.air.corner .left).condition = none ∧ (returning.air.corner .left).stuckCount < 29) := by decide

/-- Every field of a STATE content at an end of its range. -/
def extremeContent : StateContent :=
  { token := 15, station := 7, faultCount := 16, worstClass := 2, starvingSoon := true, axleSpeed := 3000, speedValid := true,
    markValid := true, slipActive := true, backup := true, mark := 4000000000, lag := 4000, mode := .limp,
    tractionInhibit := true, speedLimit := true, commanded := 1000, halt := .releasing, air := .protect,
    jackReduction := true, fillInProgress := true, measured := 1000, level := .returning, participant := true,
    axleLoad := 65535, reservoir := 1000, heightL := 400, door0 := ⟨.unreleasedOpen, true⟩, heightR := 400,
    door1 := ⟨.none, false⟩, steerMode := .failed, jackAlert := true, jointPresent := true, deviationAvailable := true,
    appliedSteer := -9000, measuredSteer := 9000, articulation := -9000, deviation := 9000 }

theorem witness_state_frame_round_trip : extremeContent.inRange := by
  constructor <;> (try unfold angleInRange) <;> decide

theorem witness_short_frames_round_trip :
    cabContent.inRange
      ∧ ((4000000000 : Nat) ≤ 4000000000 ∧ (-20000 : Int) ≤ -20000 ∧ (20000 : Int) ≤ 20000)
      ∧ (3 < 8 ∧ (-32768 : Int) ≤ -32768 ∧ (32767 : Int) ≤ 32767 ∧ ((255 : Nat) = 255)) := by
  refine ⟨?_, by decide⟩
  constructor <;> (try unfold angleInRange) <;> decide

/-- A station in LIMP that reads its joint, and the convoy's station at a stop with a release on: each meets the invariants
it is named for, and its step answers a next state. -/
def limpStep : State := { limping with pending := [.jointMonitorExpiry 10000 (.reading 100)] }
def stopStep : State :=
  { atStop { DoorSlot.unfitted with state := .released, closed := true, grant := true, release := true } with
    pending := [.doorInterlockExpiry 10000 closedDoors] }

theorem witness_steps_answer :
    (∃ t, step limpStep = .next t) ∧ (∃ t, step stopStep = .next t) := ⟨⟨_, rfl⟩, ⟨_, rfl⟩⟩

theorem witness_steps_keep_lines_safe : limpStep.linesSafe := by
  have h : limpStep.sup.mode = .limp
      ∧ (limpStep.steer.solenoid = false ∧ limpStep.steer.line = 0 ∧ limpStep.brake.select = false
        ∧ limpStep.brake.line = 0 ∧ limpStep.brake.slipL.quiet ∧ limpStep.brake.slipR.quiet
        ∧ limpStep.air.channelL.valveOpen = false ∧ limpStep.air.channelR.valveOpen = false
        ∧ limpStep.doors.slot0.release = false ∧ limpStep.doors.slot1.release = false ∧ limpStep.joint.damper = none
        ∧ limpStep.doors.tractionInhibit = .notDriven)
      ∧ limpStep.doors.speedLimit = .asserted ∧ limpStep.sup.limpLine = .asserted := by
    unfold SlipRecord.quiet
    decide
  obtain ⟨hm, ⟨h1, h2, h3, h4, h5, h6, h7, h8, h9, h10, h11, h12⟩, hs, hl⟩ := h
  refine ⟨fun e => absurd e (by rw [hm]; decide), fun _ => ⟨⟨h1, h2, h3, h4, h5, h6, h7, h8, h9, h10, h11, h12⟩, hs, hl⟩⟩

/-- A window with a consequence pending, at its end. -/
def windowStep : State := { rightPending with pending := [.deferralWindowTimeout 4000000] }

/-- R168, R174: a driver content that expires takes RUN to DEGRADED, and a new one takes it back. -/
theorem test_run_and_degraded :
    let lost := after (.driverStatusExpired 80001) (convoy 3)
    let back := after (.driverFrameReceived 0 1 (encodeDriver cabContent)) lost
    (lost.sup.mode = .degraded ∧ lost.doors.speedLimit = .asserted)
      ∧ (back.sup.mode = .run ∧ back.doors.speedLimit = .released) := by decide

theorem witness_steps_keep_supervisor_sound :
    (windowStep.counterSound ∧ windowStep.faultsSound ∧ windowStep.windowSound ∧ windowStep.deferralSound
      ∧ windowStep.modeSound) ∧ windowStep.sup.mode = .degraded ∧ (convoy 3).modeSound ∧ (convoy 3).sup.mode = .run := by
  have h : windowStep.counterSound ∧ windowStep.faultsSound ∧ windowStep.windowSound := by
    unfold State.counterSound State.faultsSound State.windowSound
    decide
  refine ⟨⟨h.1, h.2.1, h.2.2, ⟨by decide, by decide, by decide, by decide⟩, ?_⟩, by decide, ?_, by decide⟩ <;>
    (unfold State.modeSound; decide)

theorem witness_steps_keep_link_sound : { queueing with pending := [.transmitAttemptStart 0] }.linkSound :=
  ⟨by decide, witness_attempt_takes_lowest_class.1⟩

/-- The bounds of `Params.sound` hold of the reference vehicle's copies. -/
theorem reference_copy_sound : (copyOf 2).sound := by
  constructor <;> decide

theorem witness_steps_keep_peers_and_marks_sound : stopStep.peersSound ∧ stopStep.marksSound := by
  have h : stopStep.loader.copy = some (copyOf 2) ∧ (∀ x ∈ stopStep.peers, x.2.errors ≤ 15 ∧ x.2.goodRun ≤ 8)
      ∧ stopStep.peers.Pairwise (fun x y => x.1 < y.1) ∧ stopStep.odo.mark ≤ Config.maxMark
      ∧ ∀ x ∈ stopStep.peers, x.2.content.all (fun c => c.mark ≤ Config.maxMark) = true := by decide
  obtain ⟨hc, hp, ho, hm, hx⟩ := h
  refine ⟨⟨fun p e => ?_, ho, hp⟩, hm, fun x m c e => ?_⟩
  · obtain rfl := Option.some.inj (hc.symm.trans e)
    exact reference_copy_sound
  · simpa [e] using hx x m

theorem witness_steps_keep_track_sound : { starving with pending := [.trackMemoryExpiry 0] }.trackSound :=
  witness_track_expiry_retires_and_starves.2.2.2.1

theorem witness_steps_keep_actuators_sound : stopStep.steerSound ∧ stopStep.backupSound := by
  unfold State.steerSound State.backupSound
  decide

theorem witness_steps_keep_valves_sound : { filling 0 with pending := [.pulseEnd 0 .left] }.airSound := by
  unfold State.airSound Channel.sound
  decide

theorem witness_steps_keep_releases_gated : stopStep.releaseSound ∧ stopStep.doors.slot0.release = true := by
  unfold State.releaseSound
  decide

end Sys2Proof.Tests
end

section
/-! PROOFS. The token sequence and its seed (R18, R22): O42. -/

namespace Sys2Proof.Machine

/-! ## The token sequence (R22) -/

/-- A walk of fewer than fifteen steps from token 1 meets every token. -/
theorem tokenSuccessor_reaches_from_one : ∀ t, 1 ≤ t → t ≤ 15 → ∃ n < 15, tokenSuccessor^[n] 1 = t := by decide

/-- Every token lies on the cycle through token 1, so it has the period of that cycle. -/
theorem tokenSuccessor_isPeriodicPt {t : Nat} (h1 : 1 ≤ t) (h15 : t ≤ 15) :
    Function.IsPeriodicPt tokenSuccessor 15 t := by
  obtain ⟨n, -, rfl⟩ := tokenSuccessor_reaches_from_one t h1 h15
  have cycle : Function.IsPeriodicPt tokenSuccessor 15 1 := by unfold Function.IsPeriodicPt Function.IsFixedPt; decide
  exact cycle.apply_iterate n

/-- From `t`, `m` steps after 1, to `x`, `n` steps after 1: `n` and the rest of the cycle that `m` leaves. -/
theorem tokenSuccessor_reaches {t x : Nat} (ht : 1 ≤ t ∧ t ≤ 15) (hx : 1 ≤ x ∧ x ≤ 15) :
    ∃ n < 15, tokenSuccessor^[n] t = x := by
  obtain ⟨m, hm, rfl⟩ := tokenSuccessor_reaches_from_one t ht.1 ht.2
  obtain ⟨n, hn, rfl⟩ := tokenSuccessor_reaches_from_one x hx.1 hx.2
  have cycle := tokenSuccessor_isPeriodicPt (t := 1) (by decide) (by decide)
  refine ⟨(n + (15 - m)) % 15, Nat.mod_lt _ (by decide), ?_⟩
  calc tokenSuccessor^[(n + (15 - m)) % 15] (tokenSuccessor^[m] 1)
      = tokenSuccessor^[((n + (15 - m)) % 15 + m) % 15] 1 := by
        rw [← Function.iterate_add_apply, cycle.iterate_mod_apply]
    _ = tokenSuccessor^[n] 1 := by congr 2; omega

/-! ## The token's seed (R18, R22) -/

@[simp] theorem Supervisor.addEffect_mode (u : Supervisor) (c : FaultCode) : (u.addEffect c).mode = u.mode := by
  unfold Supervisor.addEffect; split <;> rfl
@[simp] theorem Supervisor.takePending_mode (u : Supervisor) (c : FaultCode) : (u.takePending c).mode = u.mode := by
  unfold Supervisor.takePending
  split
  · rw [Supervisor.addEffect_mode]; rfl
  · rfl
@[simp] theorem State.applyConsequence_mode (s : State) (c : FaultCode) :
    (s.applyConsequence c).sup.mode = s.sup.mode := by
  cases c <;> simp [State.applyConsequence]

/-- A raised fault, or a single event, leaves the mode to the block that raises it. -/
@[simp] theorem State.raiseFault_mode (s : State) (c : FaultCode) : (s.raiseFault c).sup.mode = s.sup.mode := by
  unfold State.raiseFault
  dsimp only
  split_ifs <;> simp [State.applyBothWheels]
@[simp] theorem State.raiseEvent_mode (s : State) (c : FaultCode) : (s.raiseEvent c).sup.mode = s.sup.mode :=
  s.raiseFault_mode c

@[simp] theorem State.queueAlert_token (s : State) (k : AlertKind) (slot : Nat) (v : Int) :
    (s.queueAlert k slot v).link.token = s.link.token := by
  unfold State.queueAlert; dsimp only; split_ifs <;> rfl

@[simp] theorem State.startLink_token (s : State) : s.startLink.link.token = tokenSeed s.station := rfl
@[simp] theorem State.enterSync_token (s : State) : s.enterSync.link.token = tokenSeed s.station := rfl

@[simp] theorem State.safeOutputs_loader (s : State) (limp : Bool) : (s.safeOutputs limp).loader = s.loader := rfl
@[simp] theorem State.limpBlocks_loader (s : State) : s.limpBlocks.loader = s.loader := by
  simp [State.limpBlocks]

/-- An entry to LIMP from START starts the link engine, and so seeds the token. -/
theorem State.enterLimp_token {s : State} (h : s.sup.mode = .start) (cause : Int) :
    (s.enterLimp cause).link.token = tokenSeed s.station := by
  simp [State.enterLimp, h, State.station]

/-- START gives its last move, to LIMP with CONFIG raised or to SYNC, a state with the strap value that it read. -/
theorem State.completeStart_cases (s : State) (r : StartReading) :
    ∃ v : State, (v.sup.mode = s.sup.mode ∧ v.station = r.strap.toNat)
      ∧ (s.completeStart r = (v.raiseFault .config).enterLimp 1 ∨ s.completeStart r = v.enterSync) := by
  refine ⟨_, ?_, ite_eq_or_eq ..⟩
  cases (loadParameters r.words r.strap.toNat).clampedAny <;> cases (loadParameters r.words r.strap.toNat).copy <;>
    simp [State.station, State.blocksFromCopy, State.blocksInitial]

/-- Both of START's ends start the link engine, and so seed the token. -/
theorem State.completeStart_token {s : State} (h : s.sup.mode = .start) (r : StartReading) :
    (s.completeStart r).link.token = tokenSeed r.strap.toNat := by
  obtain ⟨v, ⟨mode, station⟩, e | e⟩ := s.completeStart_cases r
  · have raised : (v.raiseFault .config).sup.mode = .start := by simp [mode, h]
    rw [e, State.enterLimp_token raised, ← station]
    simp [State.station]
  · rw [e, State.enterSync_token, station]

/-- Settles O42. The orbit of token 1 under the successor is the whole of 1..15 and closes after fifteen steps, so each
token reaches each other on it; START seeds the token at both its ends. -/
theorem tokenSequence : Obligations.token_sequence := by
  refine ⟨by decide, fun t h1 h15 x hx hx' => tokenSuccessor_reaches ⟨h1, h15⟩ ⟨hx, hx'⟩,
    fun t h1 h15 => tokenSuccessor_isPeriodicPt h1 h15, fun dt r s on start => ?_, State.startLink_token⟩
  have work : (s.advance dt).endStart r = (s.advance dt).completeStart r := if_pos ⟨on, start⟩
  refine (completes_take (work := fun u => u.endStart r) rfl).mpr ?_
  rw [work]
  exact State.completeStart_token (s := s.advance dt) start r

end Sys2Proof.Machine
end

section
/-! PROOFS. STATE emission (R23): O43. -/

namespace Sys2Proof.Machine

/-! ## STATE emission (R23) -/

/-- The engine takes periodic frames in ACTIVE and SILENT. -/
theorem Link.emits_iff (l : Link) : l.emits = true ↔ l.state = .active ∨ l.state = .silent := by
  unfold Link.emits
  cases l.state <;> simp

theorem State.emitState_of_emits {s : State} (timers : s.timersRun = true) (emits : s.link.emits = true) :
    s.emitState = (s.queueState (encodeState s.assembleState)).advanceToken := by
  simp [State.emitState, timers, emits]

/-- Where no block timer runs, or the engine takes no periodic frame, the expiry does nothing. -/
theorem State.emitState_of_idle {s : State} (h : s.timersRun = false ∨ s.link.emits = false) : s.emitState = s := by
  rcases h with h | h <;> simp [State.emitState, h]

/-- The link engine after an emission: the frame in its slot and the token moved on, the rest as it was. -/
theorem State.emitState_link {s : State} (timers : s.timersRun = true) (emits : s.link.emits = true) :
    s.emitState.link =
      { s.link with
        stateFrame := some ⟨s.link.nextTicket, ⟨24 + s.station, encodeState s.assembleState⟩⟩
        nextTicket := s.link.nextTicket + 1, token := tokenSuccessor s.link.token } := by
  rw [State.emitState_of_emits timers emits]
  rfl

theorem State.emitState_onlyChanges (s : State) : s.onlyChanges [.link] s.emitState := by
  unfold State.emitState
  split
  · exact ⟨rfl, rfl, fun b => by cases b <;> simp [State.same, State.advanceToken]⟩
  · exact s.onlyChanges_refl _

/-- Byte 0 of a STATE frame: the token below the station number (Table 2.5). -/
theorem byteAt_encodeState_zero (c : StateContent) : byteAt (encodeState c) 0 = (c.token + 16 * c.station) % 256 := by
  simp [byteAt, encodeState, toByte]

/-- Settles O43. -/
theorem stateEmissionQueuesAndAdvances : Obligations.state_emission_queues_and_advances := by
  intro dt s
  refine ⟨fun timers state => ?_, fun idle => ?_⟩
  · have emits : s.link.emits = true := s.link.emits_iff.mpr state
    refine (completes_take rfl).mpr ?_
    have link := State.emitState_link (s := s.advance dt) timers emits
    rw [link]
    exact ⟨rfl, congrArg some (byteAt_encodeState_zero _), rfl, rfl, rfl, rfl, rfl, State.emitState_onlyChanges _⟩
  · have off : s.timersRun = false ∨ s.link.emits = false := by
      rcases idle with timers | state | state
      · exact .inl timers
      · exact .inr (by simp [Link.emits, state])
      · exact .inr (by simp [Link.emits, state])
    exact congrArg Host.Outcome.next (State.emitState_of_idle (s := s.advance dt) off)

end Sys2Proof.Machine
end

section
/-! PROOFS. A STATE frame at the peer table (R25 to R27, R33 to R40): O14 and O15. -/

namespace Sys2Proof.Machine

/-! ## The supervisor's settling leaves the conditions (R166, R174, R181) -/

@[simp] theorem State.applyAll_conditions (cs : List FaultCode) :
    ∀ s : State, (s.applyAll cs).sup.conditions = s.sup.conditions := by
  induction cs with
  | nil => intro s; rfl
  | cons c rest ih => intro s; simp [State.applyAll, ih, Supervisor.undefer]

@[simp] theorem State.closeIfIdle_conditions (s : State) : s.closeIfIdle.sup.conditions = s.sup.conditions := by
  rcases s.closeIfIdle_cases with ⟨-, -, e⟩ | ⟨-, e⟩ <;> rw [e]
  exact State.applyAll_conditions ..

@[simp] theorem State.updateMode_conditions (s : State) : s.updateMode.sup.conditions = s.sup.conditions := by
  rcases s.updateMode_cases with ⟨-, -, e⟩ | ⟨-, -, e⟩ | e <;> rw [e] <;> rfl

@[simp] theorem State.hasCondition_settle (s : State) (c : FaultCode) : s.settle.hasCondition c = s.hasCondition c := by
  simp [State.hasCondition, State.settle]

theorem State.settle_onlyChanges (s : State) : s.onlyChanges [.sup, .odo, .joint, .air, .doors] s.settle := by
  refine ⟨s.settle_pending, s.settle_now, fun b => ?_⟩
  cases b
  case sup | odo | joint | air | doors => exact .inl (by decide)
  all_goals exact .inr (by simp [State.same])

/-! ## One record of the table (R33) -/

/-- A change of one record reads back at its number, and leaves the records of the other numbers. -/
theorem State.peer_updatePeer (s : State) (k j : Nat) (change : PeerRecord → PeerRecord) :
    (s.updatePeer k change).peer j = if j = k then (s.peer j).map change else s.peer j := by
  have keys : ((fun p : Nat × PeerRecord => p.1 == j) ∘ fun p => if p.1 = k then (p.1, change p.2) else p)
      = fun p => p.1 == j := by
    funext p
    simp only [Function.comp]
    split <;> rfl
  simp only [State.peer, State.updatePeer, State.setPeers_peers, List.find?_map, keys, Option.map_map]
  cases found : s.peers.find? (fun p => p.1 == j) with
  | none => simp
  | some p =>
    obtain rfl : p.1 = j := by simpa using List.find?_some found
    by_cases h : p.1 = k <;> simp [h]

theorem State.peer_updatePeer_self {s : State} {k : Nat} {r : PeerRecord} (h : s.peer k = some r)
    (change : PeerRecord → PeerRecord) : (s.updatePeer k change).peer k = some (change r) := by
  rw [State.peer_updatePeer, if_pos rfl, h]; rfl

theorem State.peer_of_peers_eq {s t : State} (h : t.peers = s.peers) (k : Nat) : t.peer k = s.peer k := by
  unfold State.peer; rw [h]

theorem State.anyLost_eq_false_iff (s : State) : s.anyLost = false ↔ ∀ x ∈ s.peers, x.2.presence ≠ .lost := by
  simp [State.anyLost]

theorem State.anyLost_of_peer {s : State} {k : Nat} {r : PeerRecord} (h : s.peer k = some r) (lost : r.presence = .lost) :
    s.anyLost = true := by
  obtain ⟨x, hx, rfl⟩ := Option.map_eq_some_iff.mp h
  exact List.any_eq_true.mpr ⟨x, List.mem_of_find?_eq_some hx, by simp [lost]⟩

/-! ## PEER_LOST (R39) -/

/-- A change of a record raises PEER_LOST as the record enters LOST; otherwise the condition goes on only while some record
is LOST. -/
theorem State.changePeer_cases {s : State} {k : Nat} {r : PeerRecord} (h : s.peer k = some r)
    (change : PeerRecord → PeerRecord) :
    ((r.presence ≠ .lost ∧ (change r).presence = .lost)
      ∧ s.changePeer k change = (s.updatePeer k change).raiseFault .peerLost)
    ∨ (¬(r.presence ≠ .lost ∧ (change r).presence = .lost) ∧ (s.updatePeer k change).anyLost = true
      ∧ s.changePeer k change = s.updatePeer k change)
    ∨ ((s.updatePeer k change).anyLost = false
      ∧ s.changePeer k change = (s.updatePeer k change).endCondition .peerLost) := by
  have after := State.peer_updatePeer_self h change
  have entry : (!(s.peer k).any (fun x => x.presence == .lost)
      && ((s.updatePeer k change).peer k).any (fun x => x.presence == .lost)) = true
      ↔ r.presence ≠ .lost ∧ (change r).presence = .lost := by simp [h, after]
  unfold State.changePeer
  by_cases enters : r.presence ≠ .lost ∧ (change r).presence = .lost
  · exact .inl ⟨enters, if_pos (entry.mpr enters)⟩
  · cases lost : (s.updatePeer k change).anyLost
    · exact .inr (.inr ⟨rfl, (if_neg (mt entry.mp enters)).trans (if_neg (by simp [lost]))⟩)
    · exact .inr (.inl ⟨enters, rfl, (if_neg (mt entry.mp enters)).trans (if_pos lost)⟩)

section
variable {s : State} {k : Nat} {r : PeerRecord} (h : s.peer k = some r) (change : PeerRecord → PeerRecord)
include h

theorem State.changePeer_peers : (s.changePeer k change).peers = (s.updatePeer k change).peers := by
  rcases State.changePeer_cases h change with ⟨-, e⟩ | ⟨-, -, e⟩ | ⟨-, e⟩ <;> rw [e]
  · simp
  · simp

theorem State.changePeer_onlyChanges : s.onlyChanges [.peers, .sup, .odo, .joint, .air, .doors] (s.changePeer k change) := by
  have update : s.onlyChanges [.peers, .sup, .odo, .joint, .air, .doors] (s.updatePeer k change) :=
    ⟨rfl, rfl, fun b => by cases b <;> simp [State.same, State.updatePeer]⟩
  rcases State.changePeer_cases h change with ⟨-, e⟩ | ⟨-, -, e⟩ | ⟨-, e⟩ <;> rw [e]
  · exact State.onlyChanges_trans update (State.onlyChanges_mono (State.raiseFault_onlyChanges _ _) (by decide))
  · exact update
  · exact State.onlyChanges_trans update ⟨rfl, rfl, fun b => by cases b <;> simp [State.same]⟩

theorem State.changePeer_raises_peerLost (before : r.presence ≠ .lost) (after : (change r).presence = .lost) :
    (s.changePeer k change).hasCondition .peerLost = true := by
  have lost : (s.updatePeer k change).anyLost = true :=
    State.anyLost_of_peer (State.peer_updatePeer_self h change) after
  rcases State.changePeer_cases h change with ⟨-, e⟩ | ⟨stays, -, -⟩ | ⟨none, -⟩
  · simp [e]
  · exact absurd ⟨before, after⟩ stays
  · exact absurd lost (by simp [none])

theorem State.changePeer_ends_peerLost (none : (s.updatePeer k change).anyLost = false) :
    (s.changePeer k change).hasCondition .peerLost = false := by
  rcases State.changePeer_cases h change with ⟨⟨-, after⟩, -⟩ | ⟨-, some, -⟩ | ⟨-, e⟩
  · exact absurd (State.anyLost_of_peer (State.peer_updatePeer_self h change) after) (by simp [none])
  · exact absurd some (by simp [none])
  · simp [e]

end

/-! ## A record at a STATE frame (R34 to R38, R40) -/

theorem latchStored_eq_latchAfter (l : Option Nat) : latchStored l = latchAfter l := by
  rcases l with _ | _ | n <;> simp [latchStored, latchAfter]

theorem PeerRecord.countError_eq_afterError (r : PeerRecord) (limit : Nat) (now : Micros) :
    r.countError limit now = r.afterError limit now := by
  have full : (if limit < 15 then limit + 1 else 15) = min 15 (limit + 1) := by split <;> omega
  unfold PeerRecord.countError PeerRecord.afterError
  by_cases h : r.errors < limit <;> simp [h, full]

theorem PeerRecord.tracked_iff (r : PeerRecord) : r.tracked = true ↔ r.presence = .joining ∨ r.presence = .present := by
  simp [PeerRecord.tracked]

theorem PeerRecord.early_eq (r : PeerRecord) (now : Micros) :
    r.early now = r.acceptedAt.any (fun a => now - a < 5000) := by
  unfold PeerRecord.early; cases r.acceptedAt <;> rfl

theorem PeerRecord.expects_iff (r : PeerRecord) (token : Nat) :
    r.expects token = true ↔ r.reference.map tokenSuccessor = some token := by
  unfold PeerRecord.expects
  cases r.reference with
  | none => simp
  | some t => simpa using eq_comm

section
variable {r : PeerRecord} {limit : Nat} {now : Micros} (c : StateContent)

/-- A sound frame joins an ABSENT or LOST record (R37). -/
theorem PeerRecord.onState_untracked (h : r.presence = .absent ∨ r.presence = .lost) :
    r.onState (some c) limit now = r.join c now := by
  rcases h with h | h <;> simp [PeerRecord.onState, PeerRecord.tracked, h]

/-- In a JOINING or PRESENT record a sound frame is EARLY, good or of a wrong token (R34). -/
theorem PeerRecord.onState_tracked (h : r.presence = .joining ∨ r.presence = .present) :
    r.onState (some c) limit now
      = if r.acceptedAt.any (fun a => now - a < 5000) then r.afterError limit now
        else if r.reference.map tokenSuccessor = some c.token then r.good c now
        else (r.store c now).afterError limit now := by
  simp only [PeerRecord.onState, r.tracked_iff.mpr h, r.early_eq, r.expects_iff, PeerRecord.countError_eq_afterError]
  rfl

end

/-- What storing a content sets, with the deadline 25 ms later (R35, R40). -/
theorem PeerRecord.store_eq (r : PeerRecord) (c : StateContent) (now : Micros) :
    r.store c now =
      { r with
        reference := some c.token, content := some c, stale := false, acceptedAt := some now
        deadline := some (now + 25000), doorLatch0 := latchAfter r.doorLatch0, doorLatch1 := latchAfter r.doorLatch1
        edgeLatch0 := latchAfter r.edgeLatch0, edgeLatch1 := latchAfter r.edgeLatch1
        jackLatch := latchAfter r.jackLatch } := by
  simp only [PeerRecord.store, latchStored_eq_latchAfter]
  rfl

/-- A good frame: stored, one error less, and in JOINING one more of the good run, whose eighth makes the record PRESENT. -/
theorem PeerRecord.good_eq (r : PeerRecord) (c : StateContent) (now : Micros) :
    r.good c now
      = if r.presence = .joining then
          if r.goodRun < 7 then { r.store c now with errors := r.errors - 1, goodRun := r.goodRun + 1 }
          else { r.store c now with presence := .present, errors := 0, goodRun := 8 }
        else { r.store c now with errors := r.errors - 1 } := by
  have eighth : 8 ≤ r.goodRun + 1 ↔ ¬r.goodRun < 7 := by omega
  simp only [PeerRecord.good, eighth, ite_not]

/-! ## STATE_FRAME_RECEIVED (R25, R26, R34) -/

/-- The state after a STATE frame of sender `k` has been taken. -/
def State.afterStateFrame (s : State) (dt : Micros) (k : Nat) (payload : Payload) : State :=
  ((s.advance dt).takeState k payload).settle

/-- A STATE frame from a peer reaches the peer table, and the supervisor settles. -/
theorem completes_stateFrameReceived {dt : Micros} {k : BitVec 3} {payload : Payload} {s : State} {holds : State → Prop}
    (hears : s.hearsPeer k) :
    completes (.stateFrameReceived dt k payload) s holds
      ↔ holds (s.afterStateFrame dt k.toNat payload) := by
  rw [completes_take (work := fun t => t.received k.toNat fun u => (u.takeState k.toNat payload).settle) rfl]
  rw [State.received_peer (s := s.advance dt) hears, State.afterStateFrame]

section
variable {s : State} {k : Nat} {r : PeerRecord} (held : s.peer k = some r) (dt : Micros) (payload : Payload)
include held

theorem State.afterStateFrame_onlyChanges :
    (s.advance dt).onlyChanges [.peers, .sup, .odo, .joint, .air, .doors] (s.afterStateFrame dt k payload) :=
  State.onlyChanges_trans (State.changePeer_onlyChanges (s := s.advance dt) held _)
    (State.onlyChanges_mono (State.settle_onlyChanges _) (by decide))

theorem State.peers_afterStateFrame :
    (s.afterStateFrame dt k payload).peers
      = (s.updatePeer k fun x => x.onState (decodeState k payload) s.errorLimit (s.now + dt)).peers :=
  (State.settle_peers _).trans (State.changePeer_peers (s := s.advance dt) held _)

/-- The frame moves the sender's record as `onState` says. -/
theorem State.peer_afterStateFrame :
    (s.afterStateFrame dt k payload).peer k
      = some (r.onState (decodeState k payload) s.errorLimit (s.now + dt)) :=
  (State.peer_of_peers_eq (State.peers_afterStateFrame held dt payload) k).trans (State.peer_updatePeer_self held _)

/-- No record of another number changes. -/
theorem State.peer_afterStateFrame_other {j : Nat} (h : j ≠ k) : (s.afterStateFrame dt k payload).peer j = s.peer j := by
  rw [State.peer_of_peers_eq (State.peers_afterStateFrame held dt payload) j, State.peer_updatePeer, if_neg h]

theorem State.afterStateFrame_raises_peerLost (before : r.presence ≠ .lost)
    (after : (r.onState (decodeState k payload) s.errorLimit (s.now + dt)).presence = .lost) :
    (s.afterStateFrame dt k payload).hasCondition .peerLost = true :=
  (State.hasCondition_settle _ _).trans (State.changePeer_raises_peerLost (s := s.advance dt) held _ before after)

theorem State.afterStateFrame_ends_peerLost
    (none : ∀ x ∈ (s.afterStateFrame dt k payload).peers, x.2.presence ≠ .lost) :
    (s.afterStateFrame dt k payload).hasCondition .peerLost = false := by
  rw [State.peers_afterStateFrame held, ← State.anyLost_eq_false_iff] at none
  exact (State.hasCondition_settle _ _).trans (State.changePeer_ends_peerLost (s := s.advance dt) held _ none)

end

/-- Settles O14. -/
theorem stateFrameIsClassified : Obligations.state_frame_is_classified := by
  rintro dt k payload s r c now hears held tracked read rfl
  have notLost : r.presence ≠ .lost := by rintro h; simp [h] at tracked
  have moved := PeerRecord.onState_tracked c tracked (limit := s.errorLimit) (now := s.now + dt)
  rw [← read] at moved
  refine (completes_stateFrameReceived hears).mpr ⟨State.afterStateFrame_onlyChanges held dt payload,
    fun j h => State.peer_afterStateFrame_other held dt payload h, _, State.peer_afterStateFrame held dt payload,
    State.afterStateFrame_raises_peerLost held dt payload notLost, State.afterStateFrame_ends_peerLost held dt payload, ?_⟩
  rw [moved]
  by_cases early : r.acceptedAt.any (fun a => s.now + dt - a < 5000) = true
  · rw [if_pos early, if_pos early]
  · rw [if_neg early, if_neg early]
    by_cases good : r.reference.map tokenSuccessor = some c.token
    · rw [if_pos good, if_pos good]
      rcases tracked with joining | present
      · by_cases run : r.goodRun < 7 <;>
          simp [PeerRecord.good_eq, PeerRecord.store_eq, joining, run]
      · simp [PeerRecord.good_eq, PeerRecord.store_eq, present]
    · rw [if_neg good, if_neg good]
      by_cases below : r.errors < s.errorLimit <;>
        simp [PeerRecord.afterError, PeerRecord.store_eq, below]

/-! ## PEER_LOST at a frame that joins a record (R37, R39) -/

/-- A station in RUN with PEER_LOST present and two records of number 1, which the statement of O15 does not shut out: a
LOST one in front, and a PRESENT one at its error limit that took a frame at this very moment. -/
def doubledPeer : State :=
  { State.reset with
    now := 1000000
    loader := { strap := 3, image := [], copy := some { Params.ofWords [] with axles := 4, errorLimit := 6 } }
    link := { Link.initial with state := .active }
    peers :=
      [(1, { PeerRecord.initial with presence := .lost, errors := 7, lostAt := some 900000 }),
       (1, { PeerRecord.initial with
              presence := .present, errors := 6, goodRun := 8, reference := some 4, acceptedAt := some 1000000 })]
    sup := { Supervisor.initial with power := .on, mode := .run, conditions := [.peerLost] } }

/-- A sound STATE payload of station 1. -/
def soundPayload : Payload := encodeState { State.reset.assembleState with token := 5, station := 1 }

/-- The frame joins the record in front and is EARLY for the other, which becomes LOST: the condition goes on. -/
theorem doubledPeer_keeps_peerLost :
    (doubledPeer.afterStateFrame 0 (1 : BitVec 3).toNat soundPayload).hasCondition .peerLost = true := by
  decide

/-- Refutes O15: where two records have the sender's number, as in `doubledPeer`, the frame can lose the second while it
joins the first, and PEER_LOST stays although no record of another number is LOST. -/
theorem not_stateFrameJoinsOrIsMalformed : ¬Obligations.state_frame_joins_or_is_malformed := by
  intro h
  have hears : doubledPeer.hearsPeer 1 := by unfold State.hearsPeer; decide
  obtain ⟨c, read⟩ : ∃ c, decodeState (1 : BitVec 3).toNat soundPayload = some c :=
    Option.isSome_iff_exists.mp (by decide)
  have joins := (h 0 1 soundPayload doubledPeer _ hears rfl).1 c read (.inr rfl)
  obtain ⟨-, -, -, -, -, -, -, -, -, -, -, -, -, -, ends⟩ := (completes_stateFrameReceived hears).mp joins
  obtain ⟨ended, -⟩ := ends (by decide)
  exact Bool.false_ne_true (ended.symm.trans doubledPeer_keeps_peerLost)

/-- One record for each number makes the records of a number the one that reads back at it. -/
theorem State.eq_of_mem_peers {s : State} {k : Nat} {r : PeerRecord} (ordered : s.peersOrdered) (held : s.peer k = some r)
    {x : Nat × PeerRecord} (hx : x ∈ s.peers) (hk : x.1 = k) : x.2 = r := by
  obtain ⟨y, found, rfl⟩ := Option.map_eq_some_iff.mp held
  have number : y.1 = k := by simpa using List.find?_some found
  have distinct : (s.peers.map Prod.fst).Nodup :=
    List.Pairwise.map _ (fun _ _ h => Nat.ne_of_lt h) ordered
  exact congrArg Prod.snd (List.inj_on_of_nodup_map distinct hx (List.mem_of_find?_eq_some found) (hk.trans number.symm))

/-- What O15 lacks: with one record for each number, as R33 has it, PEER_LOST does end. -/
theorem State.afterStateFrame_join_ends_peerLost {s : State} {k : Nat} {r : PeerRecord} {c : StateContent}
    {payload : Payload} (ordered : s.peersOrdered) (held : s.peer k = some r) (dt : Micros)
    (read : decodeState k payload = some c) (away : r.presence = .absent ∨ r.presence = .lost)
    (others : ∀ x ∈ s.peers, x.1 ≠ k → x.2.presence ≠ .lost) :
    (s.afterStateFrame dt k payload).hasCondition .peerLost = false := by
  refine State.afterStateFrame_ends_peerLost held dt payload fun x hx => ?_
  rw [State.peers_afterStateFrame held] at hx
  obtain ⟨y, hy, rfl⟩ := List.mem_map.mp hx
  by_cases own : y.1 = k
  · have joined : y.2.onState (decodeState k payload) s.errorLimit (s.now + dt) = r.join c (s.now + dt) := by
      rw [State.eq_of_mem_peers ordered held hy own, read, PeerRecord.onState_untracked c away]
    simp [own, joined, PeerRecord.join]
  · rw [if_neg own]
    exact others y hy own

end Sys2Proof.Machine
end

section
/-! PROOFS. What each command leaves unchanged: the blocks that each block's work touches, and O1, O2. -/

namespace Sys2Proof.Machine

/-! ## Frames of one update -/

theorem State.setLink_onlyChanges (s : State) (x : Link) : s.onlyChanges [.link] (s.setLink x) :=
  ⟨rfl, rfl, fun b => by cases b <;> simp [State.same]⟩
theorem State.setPeers_onlyChanges (s : State) (x : List (Nat × PeerRecord)) : s.onlyChanges [.peers] (s.setPeers x) :=
  ⟨rfl, rfl, fun b => by cases b <;> simp [State.same]⟩
theorem State.setDriver_onlyChanges (s : State) (x : DriverHold) : s.onlyChanges [.driver] (s.setDriver x) :=
  ⟨rfl, rfl, fun b => by cases b <;> simp [State.same]⟩
theorem State.setOdo_onlyChanges (s : State) (x : Odometry) : s.onlyChanges [.odo] (s.setOdo x) :=
  ⟨rfl, rfl, fun b => by cases b <;> simp [State.same]⟩
theorem State.setPath_onlyChanges (s : State) (x : PathGenerator) : s.onlyChanges [.path] (s.setPath x) :=
  ⟨rfl, rfl, fun b => by cases b <;> simp [State.same]⟩
theorem State.setTrack_onlyChanges (s : State) (x : TrackMemory) : s.onlyChanges [.track] (s.setTrack x) :=
  ⟨rfl, rfl, fun b => by cases b <;> simp [State.same]⟩
theorem State.setSteer_onlyChanges (s : State) (x : Steering) : s.onlyChanges [.steer] (s.setSteer x) :=
  ⟨rfl, rfl, fun b => by cases b <;> simp [State.same]⟩
theorem State.setJoint_onlyChanges (s : State) (x : JointMonitor) : s.onlyChanges [.joint] (s.setJoint x) :=
  ⟨rfl, rfl, fun b => by cases b <;> simp [State.same]⟩
theorem State.setBrake_onlyChanges (s : State) (x : Braking) : s.onlyChanges [.brake] (s.setBrake x) :=
  ⟨rfl, rfl, fun b => by cases b <;> simp [State.same]⟩
theorem State.setAir_onlyChanges (s : State) (x : Levelling) : s.onlyChanges [.air] (s.setAir x) :=
  ⟨rfl, rfl, fun b => by cases b <;> simp [State.same]⟩
theorem State.setDoors_onlyChanges (s : State) (x : DoorInterlock) : s.onlyChanges [.doors] (s.setDoors x) :=
  ⟨rfl, rfl, fun b => by cases b <;> simp [State.same]⟩
theorem State.setSup_onlyChanges (s : State) (x : Supervisor) : s.onlyChanges [.sup] (s.setSup x) :=
  ⟨rfl, rfl, fun b => by cases b <;> simp [State.same]⟩

/-! ## Frames of what the blocks compose -/

/-- A further step whose blocks are among those listed. -/
theorem State.onlyChanges.step {s t u : State} {blocks few : List Block} (h : s.onlyChanges blocks t)
    (k : t.onlyChanges few u) (sub : ∀ b ∈ few, b ∈ blocks) : s.onlyChanges blocks u :=
  State.onlyChanges_trans h (State.onlyChanges_mono k sub)

theorem State.onlyChanges_ite {s t u : State} {blocks : List Block} {c : Prop} [Decidable c]
    (h : s.onlyChanges blocks t) (k : s.onlyChanges blocks u) : s.onlyChanges blocks (if c then t else u) := by
  split
  · exact h
  · exact k

theorem State.withCopy_onlyChanges {s : State} {blocks : List Block} {work : Params → State → State}
    (h : ∀ p, s.onlyChanges blocks (work p s)) : s.onlyChanges blocks (s.withCopy work) := by
  unfold State.withCopy
  split
  · exact h _
  · exact s.onlyChanges_refl _

theorem State.expiryIf_onlyChanges {s after : State} {blocks : List Block} (h : s.onlyChanges blocks after)
    (happens : Bool) : s.onlyChanges blocks (s.expiryIf after happens) :=
  State.onlyChanges_ite h (s.onlyChanges_refl _)

theorem State.received_onlyChanges {s : State} {blocks : List Block} {handle : State → State} (sender : Nat)
    (h : s.onlyChanges blocks (handle s)) (k : s.onlyChanges blocks s.meetUnexpected) :
    s.onlyChanges blocks (s.received sender handle) := by
  unfold State.received
  split
  · exact h
  · exact k
  · exact s.onlyChanges_refl _
  · exact s.onlyChanges_refl _

/-! ## Faults (R180) -/

/-- The blocks in which a fault and its consequence are dealt with (Table 10.6). -/
def FaultCode.touches : FaultCode → List Block
  | .wheelSensorsBoth | .wheelSensorL | .wheelSensorR => [.sup, .odo]
  | .jointSensor => [.sup, .joint]
  | .heightSensorL | .heightSensorR | .reservoirSensor => [.sup, .air]
  | _ => [.sup]

theorem FaultCode.sup_mem_touches (c : FaultCode) : ∀ b ∈ [Block.sup], b ∈ c.touches := by
  cases c <;> decide

theorem State.endCondition_onlyChanges (s : State) (c : FaultCode) : s.onlyChanges [.sup] (s.endCondition c) :=
  State.setSup_onlyChanges ..

theorem State.applyConsequence_touches (s : State) (c : FaultCode) : s.onlyChanges c.touches (s.applyConsequence c) := by
  have marked (bs : List Block) (sub : ∀ b ∈ [Block.sup], b ∈ bs) : s.onlyChanges bs (s.setSup (s.sup.addEffect c)) :=
    State.onlyChanges_mono (State.setSup_onlyChanges ..) sub
  cases c
  case wheelSensorL | wheelSensorR => exact (marked _ (by decide)).step (State.setOdo_onlyChanges ..) (by decide)
  case jointSensor => exact (marked _ (by decide)).step (State.setJoint_onlyChanges ..) (by decide)
  case heightSensorL | heightSensorR | reservoirSensor =>
    exact (marked _ (by decide)).step (State.setAir_onlyChanges ..) (by decide)
  case odometerSaturated => exact marked _ (by decide)
  all_goals exact s.onlyChanges_refl _

theorem State.raiseFault_touches (s : State) (c : FaultCode) : s.onlyChanges c.touches (s.raiseFault c) := by
  have recorded (u : Supervisor) : s.onlyChanges c.touches (s.setSup u) :=
    State.onlyChanges_mono (State.setSup_onlyChanges ..) c.sup_mem_touches
  unfold State.raiseFault
  dsimp only
  split_ifs with both
  · subst both
    exact ((recorded _).step (State.setSup_onlyChanges ..) (by decide)).step (State.setOdo_onlyChanges ..) (by decide)
  · exact recorded _
  · exact recorded _
  · exact recorded _
  · exact State.onlyChanges_trans (recorded _) (State.applyConsequence_touches ..)

theorem State.raiseEvent_touches (s : State) (c : FaultCode) : s.onlyChanges c.touches (s.raiseEvent c) :=
  (s.raiseFault_touches c).step (State.endCondition_onlyChanges ..) c.sup_mem_touches

theorem State.follow_touches (s : State) (c : FaultCode) (present : Bool) :
    s.onlyChanges c.touches (s.follow c present) := by
  rcases s.follow_cases c present with ⟨-, -, e⟩ | ⟨-, -, e⟩ | ⟨-, e⟩ <;> rw [e]
  · exact s.onlyChanges_refl _
  · exact s.raiseFault_touches c
  · exact State.onlyChanges_mono (State.endCondition_onlyChanges ..) c.sup_mem_touches

theorem State.closeWindow_onlyChanges (s : State) : s.onlyChanges [.sup, .odo, .joint, .air] s.closeWindow := by
  refine ⟨by simp, by simp, fun b => ?_⟩
  cases b
  case sup | odo | joint | air => exact .inl (by decide)
  all_goals exact .inr (by simp [State.same])

theorem State.clearTrack_onlyChanges (s : State) : s.onlyChanges [.track, .sup] s.clearTrack :=
  (State.onlyChanges_mono (State.setTrack_onlyChanges ..) (by decide)).step (State.endCondition_onlyChanges ..) (by decide)

theorem State.enterBackup_onlyChanges (s : State) : s.onlyChanges [.brake, .doors] s.enterBackup := by
  rcases s.enterBackup_cases with ⟨-, e⟩ | ⟨-, e⟩ <;> rw [e]
  · exact s.onlyChanges_refl _
  · exact (State.onlyChanges_mono (State.setBrake_onlyChanges ..) (by decide)).step (State.setDoors_onlyChanges ..) (by decide)

theorem State.latchBackup_onlyChanges (s : State) (c : LatchedCause) : s.onlyChanges [.brake, .doors] (s.latchBackup c) :=
  (State.onlyChanges_mono (State.setBrake_onlyChanges ..) (by decide)).step (State.enterBackup_onlyChanges _) (by decide)

theorem State.meetUnexpected_onlyChanges (s : State) : s.onlyChanges [.link, .sup] s.meetUnexpected := by
  unfold State.meetUnexpected
  refine State.onlyChanges_ite (s.onlyChanges_refl _) ?_
  exact (State.onlyChanges_mono (State.setLink_onlyChanges ..) (by decide)).step (State.raiseEvent_touches ..) (by decide)

theorem State.queueAlert_onlyChanges (s : State) (k : AlertKind) (slot : Nat) (v : Int) :
    s.onlyChanges [.link] (s.queueAlert k slot v) := by
  unfold State.queueAlert
  exact State.onlyChanges_ite (State.setLink_onlyChanges ..) (State.setLink_onlyChanges ..)

theorem State.queuePath_onlyChanges (s : State) (x : PathSample) : s.onlyChanges [.link] (s.queuePath x) := by
  unfold State.queuePath
  exact State.onlyChanges_ite (State.setLink_onlyChanges ..) (State.setLink_onlyChanges ..)

/-! ## The supervisor's own events (R172 to R181) -/

theorem State.enterDegraded_onlyChanges (s : State) : s.onlyChanges [.sup, .doors] s.enterDegraded :=
  (State.onlyChanges_mono (State.setSup_onlyChanges ..) (by decide)).step (State.setDoors_onlyChanges ..) (by decide)

theorem State.syncTimeout_onlyChanges (s : State) : s.onlyChanges [.sup, .odo, .joint, .air, .doors] s.syncTimeout := by
  unfold State.syncTimeout
  exact State.onlyChanges_ite (((s.onlyChanges_refl _).step s.enterDegraded_onlyChanges (by decide)).step
    (State.settle_onlyChanges _) (by decide)) (s.onlyChanges_refl _)

theorem State.runTimeElapsed_onlyChanges (s : State) : s.onlyChanges [.sup] s.runTimeElapsed := by
  unfold State.runTimeElapsed
  exact State.onlyChanges_ite (State.setSup_onlyChanges ..) (s.onlyChanges_refl _)

theorem State.windowTimeout_onlyChanges (s : State) : s.onlyChanges [.sup, .odo, .joint, .air, .doors] s.windowTimeout := by
  unfold State.windowTimeout
  exact State.onlyChanges_ite (((s.onlyChanges_refl _).step s.closeWindow_onlyChanges (by decide)).step
    (State.settle_onlyChanges _) (by decide)) (s.onlyChanges_refl _)

/-! ## Link engine and reception (R12 to R26) -/

theorem State.endListen_onlyChanges (s : State) : s.onlyChanges [.link] s.endListen := by
  unfold State.endListen
  exact State.onlyChanges_ite (State.setLink_onlyChanges ..) (s.onlyChanges_refl _)

theorem State.endSilent_onlyChanges (s : State) : s.onlyChanges [.link, .sup] s.endSilent := by
  unfold State.endSilent
  exact State.onlyChanges_ite ((State.onlyChanges_mono (State.setLink_onlyChanges ..) (by decide)).step
    (State.endCondition_onlyChanges ..) (by decide)) (s.onlyChanges_refl _)

theorem State.beginAttempt_onlyChanges (s : State) : s.onlyChanges [.link] s.beginAttempt := by
  unfold State.beginAttempt
  exact State.onlyChanges_ite (State.setLink_onlyChanges ..) (s.onlyChanges_refl _)

theorem State.completeAttempt_onlyChanges (s : State) : s.onlyChanges [.link] s.completeAttempt := by
  unfold State.completeAttempt
  split
  · exact State.setLink_onlyChanges ..
  · exact s.onlyChanges_refl _

theorem State.destroyAttempt_onlyChanges (s : State) : s.onlyChanges [.link, .sup] s.destroyAttempt := by
  have counted (x : Link) : s.onlyChanges [.link, .sup] (s.setLink x) :=
    State.onlyChanges_mono (State.setLink_onlyChanges ..) (by decide)
  unfold State.destroyAttempt
  split
  · exact State.onlyChanges_ite (((counted _).step (State.setLink_onlyChanges ..) (by decide)).step
      (State.raiseFault_touches ..) (by decide)) (counted _)
  · exact s.onlyChanges_refl _

theorem State.updatePeer_onlyChanges (s : State) (k : Nat) (change : PeerRecord → PeerRecord) :
    s.onlyChanges [.peers] (s.updatePeer k change) := State.setPeers_onlyChanges ..

theorem State.changePeer_touches (s : State) (k : Nat) (change : PeerRecord → PeerRecord) :
    s.onlyChanges [.peers, .sup] (s.changePeer k change) := by
  have updated : s.onlyChanges [.peers, .sup] (s.updatePeer k change) :=
    State.onlyChanges_mono (State.updatePeer_onlyChanges ..) (by decide)
  unfold State.changePeer
  exact State.onlyChanges_ite (updated.step (State.raiseFault_touches ..) (by decide))
    (State.onlyChanges_ite updated (updated.step (State.endCondition_onlyChanges ..) (by decide)))

theorem State.newDriver_onlyChanges (s : State) (c : DriverContent) : s.onlyChanges [.driver, .sup] (s.newDriver c) :=
  (State.onlyChanges_mono (State.setDriver_onlyChanges ..) (by decide)).step (State.endCondition_onlyChanges ..) (by decide)

theorem State.takeDriver_onlyChanges (s : State) (sender : Nat) (p : Payload) :
    s.onlyChanges [.driver, .sup, .odo, .joint, .air, .doors] (s.takeDriver sender p) := by
  unfold State.takeDriver
  refine State.onlyChanges_ite ?_ (s.onlyChanges_refl _)
  split
  · exact ((s.onlyChanges_refl _).step (State.newDriver_onlyChanges ..) (by decide)).step
      (State.settle_onlyChanges _) (by decide)
  · exact s.onlyChanges_refl _

theorem State.takeAlert_onlyChanges (s : State) (sender : Nat) (p : Payload) :
    s.onlyChanges [.peers] (s.takeAlert sender p) := by
  unfold State.takeAlert
  split
  · exact State.updatePeer_onlyChanges ..
  · exact s.onlyChanges_refl _

theorem State.missPeer_onlyChanges (s : State) (k : Nat) :
    s.onlyChanges [.peers, .sup, .odo, .joint, .air, .doors] (s.missPeer k) := by
  unfold State.missPeer
  exact State.onlyChanges_ite (((s.onlyChanges_refl _).step (State.changePeer_touches ..) (by decide)).step
    (State.settle_onlyChanges _) (by decide)) (s.onlyChanges_refl _)

theorem State.holdDriver_onlyChanges (s : State) : s.onlyChanges [.driver] s.holdDriver := by
  unfold State.holdDriver
  exact State.onlyChanges_ite (State.setDriver_onlyChanges ..) (s.onlyChanges_refl _)

theorem State.expireDriver_onlyChanges (s : State) :
    s.onlyChanges [.driver, .sup, .odo, .joint, .air, .doors] s.expireDriver := by
  unfold State.expireDriver
  exact State.onlyChanges_ite ((((s.onlyChanges_refl _).step (State.setDriver_onlyChanges ..) (by decide)).step
    (State.raiseFault_touches ..) (by decide)).step (State.settle_onlyChanges _) (by decide)) (s.onlyChanges_refl _)

theorem State.loseCab_onlyChanges (s : State) : s.onlyChanges [.sup, .odo, .joint, .air, .doors] s.loseCab := by
  unfold State.loseCab
  exact State.onlyChanges_ite (((s.onlyChanges_refl _).step (State.raiseFault_touches ..) (by decide)).step
    (State.settle_onlyChanges _) (by decide)) (s.onlyChanges_refl _)

theorem State.serve_onlyChanges (s : State) (request : Payload) : s.onlyChanges [.link, .sup] (s.serve request) := by
  have answered (t : State) (h : s.onlyChanges [.link, .sup] t) (p : Payload) :
      s.onlyChanges [.link, .sup] (t.queueAnswer p) := h.step (State.setLink_onlyChanges ..) (by decide)
  have refused := answered s (s.onlyChanges_refl _)
  have cleared := answered _ (State.onlyChanges_mono (State.setSup_onlyChanges s s.sup.clearPassive) (by decide))
  unfold State.serve
  refine State.onlyChanges_ite (s.onlyChanges_refl _) (State.onlyChanges_ite (refused _) ?_)
  split
  · next k _ =>
    cases k
    · exact refused _
    · exact State.onlyChanges_ite (refused _) (refused _)
    · exact State.onlyChanges_ite (cleared _) (refused _)
    · exact State.onlyChanges_ite (refused _) (refused _)
    · exact refused _
  · exact refused _

theorem State.takeService_onlyChanges (s : State) (sender : Nat) (request : Payload) :
    s.onlyChanges [.link, .sup] (s.takeService sender request) := by
  unfold State.takeService
  split
  · exact s.serve_onlyChanges _
  · exact s.meetUnexpected_onlyChanges
  · exact s.onlyChanges_refl _
  · exact s.onlyChanges_refl _

/-! ## Emission (R23, R24) -/

theorem State.driverWork_onlyChanges (lines : DriverLines) (s : State) :
    s.onlyChanges [.driver, .link, .sup] (s.driverWork lines) := by
  have tested (present : Bool) : s.onlyChanges [.driver, .link, .sup] (s.follow .pedalInput present) :=
    State.onlyChanges_mono (State.follow_touches ..) (by decide)
  unfold State.driverWork
  split
  · exact State.onlyChanges_ite (((tested _).step (State.setLink_onlyChanges ..) (by decide)).step
      (State.newDriver_onlyChanges ..) (by decide)) (tested _)
  · exact tested _

theorem State.emitDriver_onlyChanges (s : State) (lines : DriverLines) :
    s.onlyChanges [.driver, .link, .sup, .odo, .joint, .air, .doors] (s.emitDriver lines) := by
  unfold State.emitDriver
  exact State.onlyChanges_ite (((s.onlyChanges_refl _).step (s.driverWork_onlyChanges lines) (by decide)).step
    (State.settle_onlyChanges _) (by decide)) (s.onlyChanges_refl _)

/-! ## Track memory and path generator (R60 to R77) -/

theorem State.offerSample_onlyChanges (s : State) (p : PathSample) : s.onlyChanges [.track, .sup] (s.offerSample p) := by
  have updated (x : TrackMemory) : s.onlyChanges [.track, .sup] (s.setTrack x) :=
    State.onlyChanges_mono (State.setTrack_onlyChanges ..) (by decide)
  have admitted : s.onlyChanges [.track, .sup] (s.admitSample p) := by
    unfold State.admitSample State.checkHighWater
    exact State.onlyChanges_ite ((updated _).step (State.raiseEvent_touches ..) (by decide))
      (State.onlyChanges_ite (((updated _).step (State.setTrack_onlyChanges ..) (by decide)).step
        (State.raiseFault_touches ..) (by decide)) (updated _))
  unfold State.offerSample
  exact State.onlyChanges_ite (updated _) (State.onlyChanges_ite
    (s.clearTrack_onlyChanges.step (State.setTrack_onlyChanges ..) (by decide))
    (State.onlyChanges_ite (updated _) admitted))

theorem State.takePath_onlyChanges (s : State) (sender : Nat) (p : Payload) :
    s.onlyChanges [.track, .sup] (s.takePath sender p) := by
  unfold State.takePath
  refine State.onlyChanges_ite ?_ (s.onlyChanges_refl _)
  split
  · exact s.offerSample_onlyChanges _
  · exact s.onlyChanges_refl _

theorem State.retireEntries_onlyChanges (s : State) (p : Params) :
    s.onlyChanges [.track, .sup] (s.retireEntries p) := by
  have updated (x : TrackMemory) : s.onlyChanges [.track, .sup] (s.setTrack x) :=
    State.onlyChanges_mono (State.setTrack_onlyChanges ..) (by decide)
  unfold State.retireEntries
  refine State.onlyChanges_ite (State.onlyChanges_ite ?_ (updated _)) (s.onlyChanges_refl _)
  unfold State.checkLowWater
  exact State.onlyChanges_ite (((updated _).step (State.setTrack_onlyChanges ..) (by decide)).step
    (State.endCondition_onlyChanges ..) (by decide)) (updated _)

theorem State.trackWork_onlyChanges (p : Params) (s : State) : s.onlyChanges [.track, .sup] (s.trackWork p) :=
  ((s.retireEntries_onlyChanges p).step (State.setTrack_onlyChanges ..) (by decide)).step
    (State.follow_touches ..) (by decide)

theorem State.trackExpiry_onlyChanges (s : State) : s.onlyChanges [.track, .sup] s.trackExpiry :=
  State.onlyChanges_ite (State.withCopy_onlyChanges fun p => s.trackWork_onlyChanges p) (s.onlyChanges_refl _)

theorem State.readFront_onlyChanges (p : Params) (front : AnalogIn) (s : State) :
    s.onlyChanges [.path, .sup] (s.readFront p front) := by
  have tested (present : Bool) : s.onlyChanges [.path, .sup] (s.follow .steerInput present) :=
    State.onlyChanges_mono (State.follow_touches ..) (by decide)
  unfold State.readFront
  split
  · exact (tested _).step (State.setPath_onlyChanges ..) (by decide)
  · exact (tested _).step (State.setPath_onlyChanges ..) (by decide)

theorem State.emitSample_onlyChanges (s : State) (x : PathSample) (b g : Bool) :
    s.onlyChanges [.path, .link] (s.emitSample x b g) := by
  have queued : s.onlyChanges [.path, .link] (s.queuePath x) :=
    State.onlyChanges_mono (State.queuePath_onlyChanges ..) (by decide)
  unfold State.emitSample
  exact State.onlyChanges_ite (queued.step (State.setPath_onlyChanges ..) (by decide))
    (queued.step (State.setPath_onlyChanges ..) (by decide))

theorem State.firstSample_onlyChanges (s : State) : s.onlyChanges [.path, .link] s.firstSample :=
  (State.emitSample_onlyChanges ..).step (State.setPath_onlyChanges ..) (by decide)

theorem State.gridSample_onlyChanges (s : State) (next : Nat) : s.onlyChanges [.path, .link] (s.gridSample next) :=
  (State.emitSample_onlyChanges ..).step (State.setPath_onlyChanges ..) (by decide)

theorem State.gridSamples_onlyChanges (fuel : Nat) : ∀ s : State, s.onlyChanges [.path, .link] (s.gridSamples fuel) := by
  induction fuel with
  | zero => exact fun s => s.onlyChanges_refl _
  | succ fuel ih =>
    intro s
    unfold State.gridSamples
    split
    · exact State.onlyChanges_ite (State.onlyChanges_trans (s.gridSample_onlyChanges _) (ih _)) (s.onlyChanges_refl _)
    · exact s.onlyChanges_refl _

theorem State.emitSamples_onlyChanges (s : State) : s.onlyChanges [.path, .link] s.emitSamples := by
  unfold State.emitSamples
  refine State.onlyChanges_ite (State.onlyChanges_ite (s.onlyChanges_refl _) ?_)
    (State.onlyChanges_mono (State.setPath_onlyChanges ..) (by decide))
  split
  · exact s.firstSample_onlyChanges
  · exact State.gridSamples_onlyChanges _ s

theorem State.pathExpiry_onlyChanges (s : State) (front : AnalogIn) :
    s.onlyChanges [.path, .link, .sup, .odo, .joint, .air, .doors] (s.pathExpiry front) := by
  refine State.onlyChanges_ite ((State.withCopy_onlyChanges fun p => ?_).step (State.settle_onlyChanges _) (by decide))
    (s.onlyChanges_refl _)
  exact ((s.onlyChanges_refl _).step (s.readFront_onlyChanges p front) (by decide)).step
    (State.emitSamples_onlyChanges _) (by decide)

/-! ## Speed and odometry (R43 to R58) -/

theorem State.followWheel_onlyChanges (s : State) (side : Side) (arises : Bool) :
    s.onlyChanges [.sup, .odo] (s.followWheel side arises) := by
  unfold State.followWheel
  cases side
  · exact State.onlyChanges_ite (State.raiseFault_touches ..) (State.follow_touches ..)
  · exact State.onlyChanges_ite (State.raiseFault_touches ..) (State.follow_touches ..)

theorem State.followBoth_onlyChanges (s : State) : s.onlyChanges [.sup, .odo] s.followBoth := State.follow_touches ..

theorem State.wheelWork_onlyChanges (p : Params) (s : State) : s.onlyChanges [.odo, .sup] (s.wheelWork p) :=
  ((((s.onlyChanges_refl _).step (State.setOdo_onlyChanges ..) (by decide)).step (State.followWheel_onlyChanges ..)
    (by decide)).step (State.followWheel_onlyChanges ..) (by decide)).step (State.followBoth_onlyChanges _) (by decide)

theorem State.speedWork_onlyChanges (s : State) : s.onlyChanges [.odo] s.speedWork :=
  (State.setOdo_onlyChanges ..).step (State.setOdo_onlyChanges ..) (by decide)

theorem State.sourceWork_onlyChanges (s : State) : s.onlyChanges [.odo] s.sourceWork :=
  State.onlyChanges_ite (State.setOdo_onlyChanges ..) (State.setOdo_onlyChanges ..)

theorem State.directionWork_onlyChanges (s : State) : s.onlyChanges [.odo, .track, .sup] s.directionWork := by
  have turned (x : Odometry) : s.onlyChanges [.odo, .track, .sup] (s.setOdo x) :=
    State.onlyChanges_mono (State.setOdo_onlyChanges ..) (by decide)
  exact State.onlyChanges_ite ((turned _).step (State.clearTrack_onlyChanges _) (by decide)) (turned _)

theorem State.addDistance_onlyChanges (s : State) (increment : Nat) :
    s.onlyChanges [.odo, .sup] (s.addDistance increment) := by
  have moved (x : Odometry) : s.onlyChanges [.odo, .sup] (s.setOdo x) :=
    State.onlyChanges_mono (State.setOdo_onlyChanges ..) (by decide)
  exact State.onlyChanges_ite ((moved _).step (State.raiseFault_touches ..) (by decide)) (moved _)

theorem State.distanceWork_onlyChanges (p : Params) (s : State) : s.onlyChanges [.odo, .sup] (s.distanceWork p) := by
  have taken (x : Odometry) : s.onlyChanges [.odo, .sup] (s.setOdo x) :=
    State.onlyChanges_mono (State.setOdo_onlyChanges ..) (by decide)
  exact State.onlyChanges_ite ((taken _).step (State.addDistance_onlyChanges ..) (by decide)) (taken _)

theorem State.adoptionWork_onlyChanges (p : Params) (s : State) : s.onlyChanges [.odo, .sup] (s.adoptionWork p) := by
  have adopted (mark : Nat) : s.onlyChanges [.odo, .sup] (s.adopt mark) :=
    State.onlyChanges_mono (State.setOdo_onlyChanges ..) (by decide)
  exact State.onlyChanges_ite (State.onlyChanges_ite ((adopted _).step (State.raiseFault_touches ..) (by decide))
    (adopted _)) (State.onlyChanges_ite (adopted _) (s.onlyChanges_refl _))

theorem State.standstillWork_onlyChanges (s : State) : s.onlyChanges [.odo, .link] s.standstillWork := by
  have judged (x : Odometry) : s.onlyChanges [.odo, .link] (s.setOdo x) :=
    State.onlyChanges_mono (State.setOdo_onlyChanges ..) (by decide)
  exact State.onlyChanges_ite ((judged _).step (State.queueAlert_onlyChanges ..) (by decide)) (judged _)

theorem State.odometryWork_onlyChanges (p : Params) (s : State) :
    s.onlyChanges [.odo, .sup, .track, .link] (s.odometryWork p) :=
  (((((((s.onlyChanges_refl _).step (s.wheelWork_onlyChanges p) (by decide)).step (State.speedWork_onlyChanges _)
    (by decide)).step (State.sourceWork_onlyChanges _) (by decide)).step (State.directionWork_onlyChanges _)
    (by decide)).step (State.distanceWork_onlyChanges p _) (by decide)).step (State.adoptionWork_onlyChanges p _)
    (by decide)).step (State.standstillWork_onlyChanges _) (by decide)

theorem State.speedExpiry_onlyChanges (s : State) :
    s.onlyChanges [.odo, .track, .link, .sup, .joint, .air, .doors] s.speedExpiry :=
  State.onlyChanges_ite ((State.withCopy_onlyChanges fun p => (s.onlyChanges_refl _).step (s.odometryWork_onlyChanges p)
    (by decide)).step (State.settle_onlyChanges _) (by decide)) (s.onlyChanges_refl _)

theorem State.toothEdge_onlyChanges (s : State) (side : Side) : s.onlyChanges [.odo] (s.toothEdge side) :=
  State.onlyChanges_ite (State.setOdo_onlyChanges ..) (s.onlyChanges_refl _)

theorem State.openShort_onlyChanges (s : State) (side : Side) (present : Bool) :
    s.onlyChanges [.odo, .sup, .joint, .air, .doors] (s.openShort side present) := by
  have noted (x : Odometry) : s.onlyChanges [.odo, .sup, .joint, .air, .doors] (s.setOdo x) :=
    State.onlyChanges_mono (State.setOdo_onlyChanges ..) (by decide)
  have followed {t : State} (h : s.onlyChanges [.odo, .sup, .joint, .air, .doors] t) (arises : Bool) :
      s.onlyChanges [.odo, .sup, .joint, .air, .doors] ((t.followWheel side arises).followBoth).settle :=
    ((h.step (State.followWheel_onlyChanges t side arises) (by decide)).step (State.followBoth_onlyChanges _)
      (by decide)).step (State.settle_onlyChanges _) (by decide)
  unfold State.openShort
  dsimp only
  split
  · exact s.onlyChanges_refl _
  · exact State.onlyChanges_ite (followed (noted _) _) (noted _)
  · exact State.onlyChanges_ite (followed (noted _) _) (noted _)

/-! ## Steering and joint monitor (R79 to R110) -/

theorem State.readSteer_onlyChanges (s : State) (angle : AnalogIn) : s.onlyChanges [.steer, .sup] (s.readSteer angle) := by
  have tested (present : Bool) (x : Steering) : s.onlyChanges [.steer, .sup] ((s.follow .steerSensor present).setSteer x) :=
    (State.onlyChanges_mono (State.follow_touches ..) (by decide)).step (State.setSteer_onlyChanges ..) (by decide)
  unfold State.readSteer
  split
  · exact tested ..
  · exact State.onlyChanges_ite (tested ..) ((tested ..).step (State.setSteer_onlyChanges ..) (by decide))

theorem State.superviseSteer_onlyChanges (s : State) : s.onlyChanges [.steer, .sup] s.superviseSteer := by
  have watched (x : Steering) : s.onlyChanges [.steer, .sup] (s.setSteer x) :=
    State.onlyChanges_mono (State.setSteer_onlyChanges ..) (by decide)
  exact State.onlyChanges_ite (((watched _).step (State.raiseEvent_touches ..) (by decide)).step
    (State.setSteer_onlyChanges ..) (by decide)) (watched _)

theorem State.steerMode_onlyChanges (s : State) : s.onlyChanges [.steer] s.steerMode := by
  unfold State.steerMode
  split
  · exact State.setSteer_onlyChanges ..
  · exact State.setSteer_onlyChanges ..
  · exact State.setSteer_onlyChanges ..
  · exact State.setSteer_onlyChanges ..
  · exact s.onlyChanges_refl _

theorem State.steerTarget_onlyChanges (p : Params) (s : State) : s.onlyChanges [.steer] (s.steerTarget p) :=
  State.setSteer_onlyChanges ..

theorem State.applySteer_onlyChanges (p : Params) (s : State) : s.onlyChanges [.steer] (s.applySteer p) :=
  State.setSteer_onlyChanges ..

theorem State.steerWork_onlyChanges (angle : AnalogIn) (p : Params) (s : State) :
    s.onlyChanges [.steer, .sup] (s.steerWork angle p) := by
  have read : s.onlyChanges [.steer, .sup] ((s.setSteer s.steer.output).readSteer angle) :=
    (State.onlyChanges_mono (State.setSteer_onlyChanges ..) (by decide)).step (State.readSteer_onlyChanges ..) (by decide)
  have supervised := State.onlyChanges_ite
    (c := ((s.setSteer s.steer.output).readSteer angle).steer.mode = .failed) read
    (State.onlyChanges_trans read (State.superviseSteer_onlyChanges _))
  exact ((State.onlyChanges_ite supervised (supervised.step (State.steerMode_onlyChanges _) (by decide))).step
    (State.steerTarget_onlyChanges p _) (by decide)).step (State.applySteer_onlyChanges p _) (by decide)

theorem State.steerExpiry_onlyChanges (s : State) (angle : AnalogIn) :
    s.onlyChanges [.steer, .sup, .odo, .joint, .air, .doors] (s.steerExpiry angle) :=
  State.onlyChanges_ite ((State.withCopy_onlyChanges fun p => (s.onlyChanges_refl _).step
    (s.steerWork_onlyChanges angle p) (by decide)).step (State.settle_onlyChanges _) (by decide)) (s.onlyChanges_refl _)

theorem State.readJoint_onlyChanges (s : State) (joint : AnalogIn) : s.onlyChanges [.joint, .sup] (s.readJoint joint) := by
  have tested (present : Bool) : s.onlyChanges [.joint, .sup] (s.follow .jointSensor present) :=
    State.onlyChanges_mono (State.follow_touches ..) (by decide)
  unfold State.readJoint
  split
  · exact (tested _).step (State.setJoint_onlyChanges ..) (by decide)
  · exact (tested _).step (State.setJoint_onlyChanges ..) (by decide)

theorem State.compareJoint_onlyChanges (s : State) (p : Params) : s.onlyChanges [.joint] (s.compareJoint p) :=
  State.setJoint_onlyChanges ..

theorem State.alertWork_onlyChanges (s : State) (p : Params) : s.onlyChanges [.joint, .link] (s.alertWork p) := by
  have run (x : JointMonitor) : s.onlyChanges [.joint, .link] (s.setJoint x) :=
    State.onlyChanges_mono (State.setJoint_onlyChanges ..) (by decide)
  exact State.onlyChanges_ite (s.onlyChanges_refl _) (State.onlyChanges_ite (State.onlyChanges_ite (run _) (run _))
    (State.onlyChanges_ite ((run _).step (State.queueAlert_onlyChanges ..) (by decide)) (run _)))

theorem State.damperWork_onlyChanges (s : State) : s.onlyChanges [.joint] s.damperWork := State.setJoint_onlyChanges ..

theorem State.foldWork_onlyChanges (s : State) : s.onlyChanges [.joint] s.foldWork :=
  State.onlyChanges_ite (s.onlyChanges_refl _) (State.setJoint_onlyChanges ..)

theorem State.jointWork_onlyChanges (joint : AnalogIn) (p : Params) (s : State) :
    s.onlyChanges [.joint, .sup, .link] (s.jointWork joint p) := by
  have read : s.onlyChanges [.joint, .sup, .link] (s.readJoint joint) :=
    State.onlyChanges_mono (s.readJoint_onlyChanges joint) (by decide)
  exact State.onlyChanges_ite read ((((read.step (State.compareJoint_onlyChanges _ p) (by decide)).step
    (State.alertWork_onlyChanges _ p) (by decide)).step (State.damperWork_onlyChanges _) (by decide)).step
    (State.foldWork_onlyChanges _) (by decide))

theorem State.jointExpiry_onlyChanges (s : State) (joint : AnalogIn) :
    s.onlyChanges [.joint, .link, .sup, .odo, .air, .doors] (s.jointExpiry joint) :=
  State.onlyChanges_ite ((State.withCopy_onlyChanges fun p => (s.onlyChanges_refl _).step
    (s.jointWork_onlyChanges joint p) (by decide)).step (State.settle_onlyChanges _) (by decide)) (s.onlyChanges_refl _)

/-! ## Braking (R111 to R129) -/

theorem State.readPressure_onlyChanges (s : State) (pressure : AnalogIn) :
    s.onlyChanges [.brake, .sup, .doors] (s.readPressure pressure) := by
  have tested (present : Bool) (x : Braking) :
      s.onlyChanges [.brake, .sup, .doors] ((s.follow .brakeSensor present).setBrake x) :=
    (State.onlyChanges_mono (State.follow_touches ..) (by decide)).step (State.setBrake_onlyChanges ..) (by decide)
  unfold State.readPressure
  split
  · exact tested ..
  · exact State.onlyChanges_ite (tested ..) ((tested ..).step (State.latchBackup_onlyChanges ..) (by decide))

theorem State.supervisePressure_onlyChanges (s : State) : s.onlyChanges [.brake, .sup, .doors] s.supervisePressure := by
  have compared (x : Braking) : s.onlyChanges [.brake, .sup, .doors] (s.setBrake x) :=
    State.onlyChanges_mono (State.setBrake_onlyChanges ..) (by decide)
  exact State.onlyChanges_ite (((compared _).step (State.raiseEvent_touches ..) (by decide)).step
    (State.latchBackup_onlyChanges ..) (by decide)) (compared _)

theorem State.loseDriver_onlyChanges (s : State) : s.onlyChanges [.brake, .doors] s.loseDriver :=
  State.onlyChanges_ite (s.onlyChanges_refl _) ((State.onlyChanges_mono (State.setBrake_onlyChanges ..) (by decide)).step
    (State.enterBackup_onlyChanges _) (by decide))

theorem State.exitBackup_onlyChanges (s : State) : s.onlyChanges [.brake] s.exitBackup :=
  State.onlyChanges_ite (State.onlyChanges_ite (State.setBrake_onlyChanges ..) (State.setBrake_onlyChanges ..))
    (State.setBrake_onlyChanges ..)

theorem State.demandWork_onlyChanges (s : State) : s.onlyChanges [.brake] s.demandWork := State.setBrake_onlyChanges ..

theorem State.pressureWork_onlyChanges (s : State) (p : Params) : s.onlyChanges [.brake] (s.pressureWork p) :=
  State.onlyChanges_ite (State.setBrake_onlyChanges ..) (State.setBrake_onlyChanges ..)

theorem State.slipWork_onlyChanges (s : State) (p : Params) : s.onlyChanges [.brake] (s.slipWork p) :=
  State.setBrake_onlyChanges ..

theorem State.brakeWork_onlyChanges (pressure : AnalogIn) (p : Params) (s : State) :
    s.onlyChanges [.brake, .sup, .doors] (s.brakeWork pressure p) := by
  have read : s.onlyChanges [.brake, .sup, .doors]
      ((s.setBrake s.brake.output).readPressure pressure).supervisePressure :=
    ((State.onlyChanges_mono (State.setBrake_onlyChanges ..) (by decide)).step (State.readPressure_onlyChanges ..)
      (by decide)).step (State.supervisePressure_onlyChanges _) (by decide)
  exact ((((read.step (State.loseDriver_onlyChanges _) (by decide)).step (State.exitBackup_onlyChanges _)
    (by decide)).step (State.demandWork_onlyChanges _) (by decide)).step (State.pressureWork_onlyChanges _ p)
    (by decide)).step (State.slipWork_onlyChanges _ p) (by decide)

theorem State.brakeExpiry_onlyChanges (s : State) (pressure : AnalogIn) :
    s.onlyChanges [.brake, .sup, .odo, .joint, .air, .doors] (s.brakeExpiry pressure) :=
  State.onlyChanges_ite ((State.withCopy_onlyChanges fun p => (s.onlyChanges_refl _).step
    (s.brakeWork_onlyChanges pressure p) (by decide)).step (State.settle_onlyChanges _) (by decide)) (s.onlyChanges_refl _)

/-! ## Door interlock (R153 to R169) -/

theorem State.outputDoors_onlyChanges (s : State) : s.onlyChanges [.doors] s.outputDoors := State.setDoors_onlyChanges ..

theorem State.doorAlerts_onlyChanges (s : State) (slot : Nat) (before after : DoorSlot) :
    s.onlyChanges [.link] (s.doorAlerts slot before after) := by
  have first := State.onlyChanges_ite (c := before.state = .locked ∧ after.state = .unreleasedOpen)
    (s.queueAlert_onlyChanges .doorUnreleased slot 0) (s.onlyChanges_refl _)
  exact State.onlyChanges_ite (State.onlyChanges_trans first (State.queueAlert_onlyChanges ..)) first

theorem State.doorFault_onlyChanges (s : State) (raises0 raises1 : Bool) :
    s.onlyChanges [.sup] (s.doorFault raises0 raises1) := by
  have raised (t : State) (raises : Bool) : t.onlyChanges [.sup] (t.raiseIf .doorUnreleased raises) :=
    State.onlyChanges_ite (State.raiseFault_touches ..) (t.onlyChanges_refl _)
  have both := State.onlyChanges_trans (raised s raises0) (raised _ raises1)
  exact State.onlyChanges_ite both (State.onlyChanges_trans both (State.endCondition_onlyChanges ..))

theorem State.readDoors_onlyChanges (s : State) (inputs : DoorInputs) :
    s.onlyChanges [.doors, .link, .sup] (s.readDoors inputs) := by
  have read (x : DoorInterlock) : s.onlyChanges [.doors, .link, .sup] (s.setDoors x) :=
    State.onlyChanges_mono (State.setDoors_onlyChanges ..) (by decide)
  exact (((read _).step (State.doorAlerts_onlyChanges ..) (by decide)).step (State.doorAlerts_onlyChanges ..)
    (by decide)).step (State.doorFault_onlyChanges ..) (by decide)

theorem State.haltWork_onlyChanges (s : State) (p : Params) : s.onlyChanges [.doors] (s.haltWork p) :=
  State.setDoors_onlyChanges ..

theorem State.grantWork_onlyChanges (s : State) : s.onlyChanges [.doors] s.grantWork := State.setDoors_onlyChanges ..

theorem State.lineWork_onlyChanges (s : State) (p : Params) : s.onlyChanges [.doors] (s.lineWork p) :=
  State.setDoors_onlyChanges ..

theorem State.doorWork_onlyChanges (inputs : DoorInputs) (p : Params) (s : State) :
    s.onlyChanges [.doors, .link, .sup] (s.doorWork inputs p) :=
  State.onlyChanges_ite (s.readDoors_onlyChanges inputs) (((((State.onlyChanges_mono s.outputDoors_onlyChanges
    (by decide)).step (State.readDoors_onlyChanges _ inputs) (by decide)).step (State.haltWork_onlyChanges _ p)
    (by decide)).step (State.grantWork_onlyChanges _) (by decide)).step (State.lineWork_onlyChanges _ p) (by decide))

theorem State.doorExpiry_onlyChanges (s : State) (inputs : DoorInputs) :
    s.onlyChanges [.doors, .link, .sup, .odo, .joint, .air] (s.doorExpiry inputs) :=
  State.onlyChanges_ite ((State.withCopy_onlyChanges fun p => (s.onlyChanges_refl _).step
    (s.doorWork_onlyChanges inputs p) (by decide)).step (State.settle_onlyChanges _) (by decide)) (s.onlyChanges_refl _)

/-! ## Air and levelling (R131 to R151) -/

theorem State.readReservoir_onlyChanges (s : State) (input : AnalogIn) :
    s.onlyChanges [.air, .sup] (s.readReservoir input) := by
  have tested (present : Bool) : s.onlyChanges [.air, .sup] (s.follow .reservoirSensor present) :=
    State.onlyChanges_mono (State.follow_touches ..) (by decide)
  unfold State.readReservoir
  split
  · exact (tested _).step (State.setAir_onlyChanges ..) (by decide)
  · exact (tested _).step (State.setAir_onlyChanges ..) (by decide)

theorem State.readHeight_onlyChanges (s : State) (side : Side) (ran : Bool) (input : AnalogIn) :
    s.onlyChanges [.air, .sup] (s.readHeight side ran input) := by
  have read (x : Levelling) : s.onlyChanges [.air, .sup] (s.setAir x) :=
    State.onlyChanges_mono (State.setAir_onlyChanges ..) (by decide)
  cases side
  · exact (read _).step (State.follow_touches ..) (by decide)
  · exact (read _).step (State.follow_touches ..) (by decide)

theorem State.readBellows_onlyChanges (s : State) (left right : AnalogIn) :
    s.onlyChanges [.air, .sup] (s.readBellows left right) :=
  (State.onlyChanges_mono (State.setAir_onlyChanges ..) (by decide)).step (State.follow_touches ..) (by decide)

theorem State.readLevel_onlyChanges (s : State) (inputs : LevelInputs) : s.onlyChanges [.air, .sup] (s.readLevel inputs) :=
  State.onlyChanges_trans (State.onlyChanges_trans (State.onlyChanges_trans (s.readReservoir_onlyChanges _)
    (State.readHeight_onlyChanges ..)) (State.readHeight_onlyChanges ..)) (State.readBellows_onlyChanges ..)

theorem State.airWork_onlyChanges (s : State) (p : Params) : s.onlyChanges [.air] (s.airWork p) :=
  State.onlyChanges_ite (s.onlyChanges_refl _) (State.setAir_onlyChanges ..)

theorem State.loadWork_onlyChanges (s : State) (p : Params) : s.onlyChanges [.air] (s.loadWork p) :=
  State.onlyChanges_ite (State.setAir_onlyChanges ..) (s.onlyChanges_refl _)

theorem State.countLevel_onlyChanges (s : State) : s.onlyChanges [.air, .sup] s.countLevel := by
  have counted (x : Levelling) : s.onlyChanges [.air, .sup] (s.setAir x) :=
    State.onlyChanges_mono (State.setAir_onlyChanges ..) (by decide)
  exact State.onlyChanges_ite ((counted _).step (State.raiseFault_touches ..) (by decide)) (counted _)

theorem State.leaveReturning_onlyChanges (s : State) (before : LevelState) :
    s.onlyChanges [.sup] (s.leaveReturning before) :=
  State.onlyChanges_ite (State.endCondition_onlyChanges ..) (s.onlyChanges_refl _)

theorem State.levelWork_onlyChanges (s : State) (p : Params) : s.onlyChanges [.air, .sup] (s.levelWork p) := by
  have counted := s.countLevel_onlyChanges
  have moved (x : Levelling) : s.onlyChanges [.air, .sup] ((s.countLevel.setAir x).leaveReturning s.countLevel.air.level) :=
    (counted.step (State.setAir_onlyChanges ..) (by decide)).step (State.leaveReturning_onlyChanges ..) (by decide)
  exact State.onlyChanges_ite counted (State.onlyChanges_ite ((moved _).step (State.raiseEvent_touches ..) (by decide))
    (moved _))

theorem State.levelInLimp_onlyChanges (s : State) (p : Params) : s.onlyChanges [.air, .sup] (s.levelInLimp p) :=
  (State.onlyChanges_mono (State.setAir_onlyChanges ..) (by decide)).step (State.leaveReturning_onlyChanges ..) (by decide)

theorem State.gateWork_onlyChanges (s : State) (p : Params) : s.onlyChanges [.air] (s.gateWork p) := by
  unfold State.gateWork
  split <;> exact State.setAir_onlyChanges ..

theorem State.channelWork_onlyChanges (s : State) (p : Params) : s.onlyChanges [.air] (s.channelWork p) := by
  unfold State.channelWork
  dsimp only
  cases s.air.level
  case kneeled | kneelHeld => exact s.onlyChanges_refl _
  all_goals exact State.setAir_onlyChanges ..

theorem State.levellingWork_onlyChanges (inputs : LevelInputs) (p : Params) (s : State) :
    s.onlyChanges [.air, .sup] (s.levellingWork inputs p) := by
  have weighed := ((s.readLevel_onlyChanges inputs).step (State.airWork_onlyChanges _ p) (by decide)).step
    (State.loadWork_onlyChanges _ p) (by decide)
  exact State.onlyChanges_ite (State.onlyChanges_trans weighed (State.levelInLimp_onlyChanges _ p))
    (((State.onlyChanges_trans weighed (State.levelWork_onlyChanges _ p)).step (State.gateWork_onlyChanges _ p)
      (by decide)).step (State.channelWork_onlyChanges _ p) (by decide))

theorem State.levelExpiry_onlyChanges (s : State) (inputs : LevelInputs) :
    s.onlyChanges [.air, .sup, .odo, .joint, .doors] (s.levelExpiry inputs) :=
  State.onlyChanges_ite ((State.withCopy_onlyChanges fun p => (s.onlyChanges_refl _).step
    (s.levellingWork_onlyChanges inputs p) (by decide)).step (State.settle_onlyChanges _) (by decide))
    (s.onlyChanges_refl _)

theorem State.pulseEnd_onlyChanges (s : State) (side : Side) : s.onlyChanges [.air] (s.pulseEnd side) :=
  State.onlyChanges_ite (State.setAir_onlyChanges ..) (s.onlyChanges_refl _)

theorem State.stopRun_onlyChanges (s : State) (side : Side) (height : Int) : s.onlyChanges [.air] (s.stopRun side height) :=
  State.onlyChanges_ite (State.setAir_onlyChanges ..) (s.onlyChanges_refl _)

theorem State.reachGate_onlyChanges (s : State) (height : Int) : s.onlyChanges [.air] (s.reachGate height) :=
  State.withCopy_onlyChanges fun _ => State.onlyChanges_ite (State.setAir_onlyChanges ..) (s.onlyChanges_refl _)

/-! ## Entries to the modes (R172 to R179) -/

/-- Every block: a change that leaves the queue and the count of time alone. -/
def Block.every : List Block :=
  [.loader, .link, .peers, .driver, .odo, .path, .track, .steer, .joint, .brake, .air, .doors, .sup]

theorem Block.mem_every (b : Block) : b ∈ Block.every := by cases b <;> decide

theorem State.onlyChanges_every {s t : State} (pending : t.pending = s.pending) (now : t.now = s.now) :
    s.onlyChanges Block.every t := ⟨pending, now, fun b => .inl b.mem_every⟩

theorem State.onlyChanges.every {s t : State} {blocks : List Block} (h : s.onlyChanges blocks t) :
    s.onlyChanges Block.every t := State.onlyChanges_mono h fun b _ => b.mem_every

theorem State.safeOutputs_onlyChanges (s : State) (limp : Bool) :
    s.onlyChanges [.steer, .joint, .brake, .air, .doors, .sup] (s.safeOutputs limp) :=
  ⟨rfl, rfl, fun b => by cases b <;> simp [State.same, State.safeOutputs]⟩

theorem State.limpBlocks_onlyChanges (s : State) :
    s.onlyChanges [.odo, .track, .steer, .joint, .brake, .air, .doors, .sup] s.limpBlocks := by
  refine ⟨by simp [State.limpBlocks], by simp [State.limpBlocks], fun b => ?_⟩
  cases b <;> simp [State.same, State.limpBlocks]

theorem State.enterLimp_onlyChanges (s : State) (cause : Int) :
    s.onlyChanges [.link, .odo, .track, .steer, .joint, .brake, .air, .doors, .sup] (s.enterLimp cause) := by
  have entered (x : Supervisor) : s.onlyChanges [.link, .odo, .track, .steer, .joint, .brake, .air, .doors, .sup]
      (((s.safeOutputs true).closeWindow.limpBlocks).setSup x) :=
    ((((s.onlyChanges_refl _).step (s.safeOutputs_onlyChanges true) (by decide)).step (State.closeWindow_onlyChanges _)
      (by decide)).step (State.limpBlocks_onlyChanges _) (by decide)).step (State.setSup_onlyChanges ..) (by decide)
  exact (State.onlyChanges_ite ((entered _).step (State.setLink_onlyChanges ..) (by decide)) (entered _)).step
    (State.queueAlert_onlyChanges ..) (by decide)

theorem State.enterRestart_onlyChanges (s : State) :
    s.onlyChanges [.link, .steer, .joint, .brake, .air, .doors, .sup] s.enterRestart :=
  ⟨rfl, rfl, fun b => by cases b <;> simp [State.same, State.enterRestart, State.safeOutputs]⟩

theorem State.callRestart_onlyChanges (s : State) :
    s.onlyChanges [.link, .odo, .track, .steer, .joint, .brake, .air, .doors, .sup] s.callRestart :=
  State.onlyChanges_ite
    (((s.onlyChanges_refl _).step (State.setSup_onlyChanges ..) (by decide)).step (State.enterRestart_onlyChanges _)
      (by decide))
    (((s.onlyChanges_refl _).step (State.raiseFault_touches ..) (by decide)).step (State.enterLimp_onlyChanges ..)
      (by decide))

theorem State.completeStart_onlyChanges (s : State) (r : StartReading) : s.onlyChanges Block.every (s.completeStart r) := by
  let found := loadParameters r.words r.strap.toNat
  have initial : s.onlyChanges Block.every
      (s.setLoader { strap := r.strap.toNat, image := r.words, copy := found.copy }).blocksInitial :=
    State.onlyChanges_every rfl rfl
  have copied : s.onlyChanges Block.every
      (match found.copy with
        | some p => State.blocksFromCopy
            (s.setLoader { strap := r.strap.toNat, image := r.words, copy := found.copy }).blocksInitial p r
        | none => (s.setLoader { strap := r.strap.toNat, image := r.words, copy := found.copy }).blocksInitial) := by
    split
    · exact State.onlyChanges_every rfl rfl
    · exact initial
  have clamped := State.onlyChanges_ite (c := found.clampedAny = true)
    (State.onlyChanges_trans copied (State.raiseEvent_touches _ .paramClamped).every) copied
  exact State.onlyChanges_ite (State.onlyChanges_trans (State.onlyChanges_trans clamped
      (State.raiseFault_touches _ .config).every) (State.enterLimp_onlyChanges _ 1).every)
    (State.onlyChanges_trans clamped (State.onlyChanges_every rfl rfl))

theorem State.raiseSupply_onlyChanges (s : State) (r : AbandonedReading) :
    s.onlyChanges Block.every (s.raiseSupply r) := by
  have called (t : State) (h : s.onlyChanges Block.every t) :
      s.onlyChanges Block.every (t.raiseFault .supply).callRestart :=
    State.onlyChanges_trans (State.onlyChanges_trans h (State.raiseFault_touches ..).every)
      (State.callRestart_onlyChanges _).every
  unfold State.raiseSupply
  split
  · exact called _ (State.onlyChanges_every rfl rfl)
  · exact called _ (s.onlyChanges_refl _)
  · exact called _ (s.onlyChanges_refl _)
  · exact called _ (s.onlyChanges_refl _)
  · exact (State.raiseFault_touches ..).every
  · exact (State.raiseFault_touches ..).every

theorem State.readSupply_onlyChanges (s : State) (mv : Nat) (r : AbandonedReading) :
    s.onlyChanges Block.every (s.readSupply mv r) := by
  have read : s.onlyChanges Block.every (s.setSup (s.sup.readRuns mv s.now)) := (State.setSup_onlyChanges ..).every
  unfold State.readSupply
  dsimp only
  split
  · exact s.onlyChanges_refl _
  · exact State.onlyChanges_trans read (State.readGood_onlyChanges ..).every
  · exact State.onlyChanges_trans (State.onlyChanges_ite (State.onlyChanges_trans read
      (State.raiseSupply_onlyChanges ..)) read) (State.readGood_onlyChanges ..).every

theorem State.goodRun_onlyChanges (s : State) : s.onlyChanges Block.every s.goodRun := by
  have ended : s.onlyChanges Block.every ((s.setSup { s.sup with goodFrom := none }).endCondition .supply) :=
    (State.onlyChanges_trans (State.setSup_onlyChanges ..) (State.endCondition_onlyChanges ..)).every
  unfold State.goodRun
  refine State.onlyChanges_ite ?_ (s.onlyChanges_refl _)
  dsimp only
  split
  · exact State.onlyChanges_every rfl rfl
  · exact ended
  · exact s.onlyChanges_refl _
  · exact s.onlyChanges_refl _
  · exact s.onlyChanges_refl _
  · exact s.onlyChanges_refl _

theorem State.powerUp_onlyChanges (s : State) : s.onlyChanges Block.every s.powerUp :=
  State.onlyChanges_ite (State.onlyChanges_every rfl rfl) (s.onlyChanges_refl _)

theorem State.endWait_onlyChanges (s : State) : s.onlyChanges Block.every s.endWait :=
  State.onlyChanges_ite (State.onlyChanges_every rfl rfl) (s.onlyChanges_refl _)

theorem State.endStart_onlyChanges (s : State) (r : StartReading) : s.onlyChanges Block.every (s.endStart r) :=
  State.onlyChanges_ite (s.completeStart_onlyChanges r) (s.onlyChanges_refl _)

end Sys2Proof.Machine

namespace Sys2Proof

open Machine

/-! ## Frames of the commands -/

/-- The blocks that a command can change, besides the count of time. -/
def Instr.touches : Instr → List Block
  | .powerUp _ | .powerUpWaitEnd _ | .startComplete _ _ | .supply _ _ _ | .supplyGoodRun _ | .powerOff _ => Block.every
  | .syncTimeout _ | .deferralWindowTimeout _ | .cabLost _ => [.sup, .odo, .joint, .air, .doors]
  | .runTimeElapsed _ => [.sup]
  | .listenEnd _ | .transmitAttemptStart _ | .attemptCompleted _ | .arbitrationLost _ | .stateEmission _ => [.link]
  | .silentEnd _ | .attemptDestroyed _ | .readStatus _ _ _ _ _ | .readFaults _ _ _ _ _ | .clearFaults _ _ _ _ _
  | .readParameter _ _ _ _ _ | .readTrack _ _ _ _ _ | .serviceRequestRejected _ _ _ => [.link, .sup]
  | .stateFrameReceived _ _ _ => [.peers, .link, .sup, .odo, .joint, .air, .doors]
  | .driverFrameReceived _ _ _ | .driverEmission _ _ => [.driver, .link, .sup, .odo, .joint, .air, .doors]
  | .pathFrameReceived _ _ _ => [.track, .link, .sup]
  | .alertFrameReceived _ _ _ => [.peers, .link, .sup]
  | .missed _ _ => [.peers, .sup, .odo, .joint, .air, .doors]
  | .driverStatusHolding _ => [.driver]
  | .driverStatusExpired _ => [.driver, .sup, .odo, .joint, .air, .doors]
  | .toothEdge _ _ => [.odo]
  | .wheelSensorOpenShort _ _ _ => [.odo, .sup, .joint, .air, .doors]
  | .speedOdometryExpiry _ | .wheelZeroSpeedTimeout _ _ | .wheelPlausibilityFail _ _ | .standstillSet _
  | .cabMarkAdoption _ | .rearAdoptionTimeout _ => [.odo, .track, .link, .sup, .joint, .air, .doors]
  | .pathGeneratorExpiry _ _ => [.path, .link, .sup, .odo, .joint, .air, .doors]
  | .trackMemoryExpiry _ | .trackStarved _ => [.track, .sup]
  | .steeringExpiry _ _ | .lockLossRun _ _ | .notValidRun _ _ | .guidedExitRun _ _ | .centredRun _ _
  | .steerMismatch _ _ | .centringTravelTimeout _ _ => [.steer, .sup, .odo, .joint, .air, .doors]
  | .jointMonitorExpiry _ _ | .jackAlertSetRun _ _ | .jackAlertClearRun _ _ => [.joint, .link, .sup, .odo, .air, .doors]
  | .brakingExpiry _ _ | .slipReapplyDone _ _ _ | .brakePressureMismatch _ _ | .backupExitRun _ _ =>
    [.brake, .sup, .odo, .joint, .air, .doors]
  | .doorInterlockExpiry _ _ => [.doors, .link, .sup, .odo, .joint, .air]
  | .levellingExpiry _ _ | .heightStuck _ _ _ | .kneelTimeout _ _ | .raiseTimeout _ _ =>
    [.air, .sup, .odo, .joint, .doors]
  | .pulseEnd _ _ | .continuousStopReached _ _ _ | .twistGateReached _ _ => [.air]

/-- The work of a command, done once its time has passed. -/
def Instr.work : Instr → State → State
  | .powerUp _, s => s.powerUp
  | .powerUpWaitEnd _, s => s.endWait
  | .startComplete _ r, s => s.endStart r
  | .supply _ mv r, s => s.readSupply mv r
  | .supplyGoodRun _, s => s.goodRun
  | .syncTimeout _, s => s.syncTimeout
  | .runTimeElapsed _, s => s.runTimeElapsed
  | .deferralWindowTimeout _, s => s.windowTimeout
  | .listenEnd _, s => s.endListen
  | .silentEnd _, s => s.endSilent
  | .transmitAttemptStart _, s => s.beginAttempt
  | .attemptCompleted _, s => s.completeAttempt
  | .arbitrationLost _, s => s.loseArbitration
  | .attemptDestroyed _, s => s.destroyAttempt
  | .stateFrameReceived _ k p, s => s.received k.toNat fun u => (u.takeState k.toNat p).settle
  | .driverFrameReceived _ k p, s => s.received k.toNat fun u => u.takeDriver k.toNat p
  | .pathFrameReceived _ k p, s => s.received k.toNat fun u => u.takePath k.toNat p
  | .alertFrameReceived _ k p, s => s.received k.toNat fun u => u.takeAlert k.toNat p
  | .readStatus _ k target tag argument, s => s.takeService k.toNat (requestBytes .readStatus target tag argument)
  | .readFaults _ k target tag argument, s => s.takeService k.toNat (requestBytes .readFaults target tag argument)
  | .clearFaults _ k target tag argument, s => s.takeService k.toNat (requestBytes .clearFaults target tag argument)
  | .readParameter _ k target tag argument, s => s.takeService k.toNat (requestBytes .readParameter target tag argument)
  | .readTrack _ k target tag argument, s => s.takeService k.toNat (requestBytes .readTrack target tag argument)
  | .serviceRequestRejected _ k p, s => s.takeService k.toNat p
  | .missed _ k, s => s.missPeer k
  | .driverStatusHolding _, s => s.holdDriver
  | .driverStatusExpired _, s => s.expireDriver
  | .cabLost _, s => s.loseCab
  | .toothEdge _ side, s => s.toothEdge side
  | .wheelSensorOpenShort _ side present, s => s.openShort side present
  | .speedOdometryExpiry _, s => s.speedExpiry
  | .wheelZeroSpeedTimeout _ side, s => s.zeroSpeedTimeout side
  | .wheelPlausibilityFail _ side, s => s.plausibilityFail side
  | .standstillSet _, s => s.standstillSet
  | .cabMarkAdoption _, s => s.cabAdoption
  | .rearAdoptionTimeout _, s => s.rearTimeout
  | .pathGeneratorExpiry _ a, s => s.pathExpiry a
  | .trackMemoryExpiry _, s => s.trackExpiry
  | .trackStarved _, s => s.starvedExpiry
  | .steeringExpiry _ a, s => s.steerExpiry a
  | .lockLossRun _ a, s => s.lockLossExpiry a
  | .notValidRun _ a, s => s.notValidExpiry a
  | .guidedExitRun _ a, s => s.guidedExitExpiry a
  | .centredRun _ a, s => s.centredExpiry a
  | .steerMismatch _ a, s => s.mismatchExpiry a
  | .centringTravelTimeout _ a, s => s.travelExpiry a
  | .jointMonitorExpiry _ a, s => s.jointExpiry a
  | .jackAlertSetRun _ a, s => s.alertSetExpiry a
  | .jackAlertClearRun _ a, s => s.alertClearExpiry a
  | .brakingExpiry _ a, s => s.brakeExpiry a
  | .slipReapplyDone _ side a, s => s.reapplyExpiry side a
  | .brakePressureMismatch _ a, s => s.pressureExpiry a
  | .backupExitRun _ a, s => s.backupExitExpiry a
  | .stateEmission _, s => s.emitState
  | .driverEmission _ lines, s => s.emitDriver lines
  | .doorInterlockExpiry _ inputs, s => s.doorExpiry inputs
  | .levellingExpiry _ inputs, s => s.levelExpiry inputs
  | .heightStuck _ side inputs, s => s.stuckExpiry side inputs
  | .pulseEnd _ side, s => s.pulseEnd side
  | .continuousStopReached _ side h, s => s.stopRun side h
  | .twistGateReached _ h, s => s.reachGate h
  | .kneelTimeout _ inputs, s => s.kneelExpiry inputs
  | .raiseTimeout _ inputs, s => s.returnExpiry inputs
  | .powerOff _, s => s.powerOff

/-- A command leaves every block alone but those it touches, and the queue and the count of time in any case. -/
theorem Instr.work_onlyChanges (i : Instr) (s : State) : s.onlyChanges i.touches (i.work s) := by
  cases i
  case powerUp => exact s.powerUp_onlyChanges
  case powerUpWaitEnd => exact s.endWait_onlyChanges
  case startComplete r => exact s.endStart_onlyChanges r
  case supply mv r => exact s.readSupply_onlyChanges mv r
  case supplyGoodRun => exact s.goodRun_onlyChanges
  case powerOff => exact State.onlyChanges_every rfl rfl
  case syncTimeout => exact s.syncTimeout_onlyChanges
  case runTimeElapsed => exact s.runTimeElapsed_onlyChanges
  case deferralWindowTimeout => exact s.windowTimeout_onlyChanges
  case listenEnd => exact s.endListen_onlyChanges
  case silentEnd => exact s.endSilent_onlyChanges
  case transmitAttemptStart => exact s.beginAttempt_onlyChanges
  case attemptCompleted => exact s.completeAttempt_onlyChanges
  case arbitrationLost => exact State.setLink_onlyChanges ..
  case attemptDestroyed => exact s.destroyAttempt_onlyChanges
  case stateFrameReceived k p =>
    have taken : s.onlyChanges [.peers, .link, .sup, .odo, .joint, .air, .doors] (s.takeState k.toNat p).settle :=
      ((s.onlyChanges_refl _).step (State.changePeer_touches ..) (by decide)).step (State.settle_onlyChanges _) (by decide)
    exact State.received_onlyChanges _ taken (State.onlyChanges_mono s.meetUnexpected_onlyChanges (by simp [touches]))
  case driverFrameReceived k p =>
    have taken : s.onlyChanges [.driver, .link, .sup, .odo, .joint, .air, .doors] (s.takeDriver k.toNat p) :=
      State.onlyChanges_mono (State.takeDriver_onlyChanges ..) (by decide)
    exact State.received_onlyChanges _ taken (State.onlyChanges_mono s.meetUnexpected_onlyChanges (by simp [touches]))
  case pathFrameReceived k p =>
    have taken : s.onlyChanges [.track, .link, .sup] (s.takePath k.toNat p) :=
      State.onlyChanges_mono (State.takePath_onlyChanges ..) (by decide)
    exact State.received_onlyChanges _ taken (State.onlyChanges_mono s.meetUnexpected_onlyChanges (by simp [touches]))
  case alertFrameReceived k p =>
    have taken : s.onlyChanges [.peers, .link, .sup] (s.takeAlert k.toNat p) :=
      State.onlyChanges_mono (State.takeAlert_onlyChanges ..) (by decide)
    exact State.received_onlyChanges _ taken (State.onlyChanges_mono s.meetUnexpected_onlyChanges (by simp [touches]))
  case readStatus | readFaults | clearFaults | readParameter | readTrack | serviceRequestRejected =>
    exact State.takeService_onlyChanges ..
  case missed k => exact s.missPeer_onlyChanges k
  case driverStatusHolding => exact s.holdDriver_onlyChanges
  case driverStatusExpired => exact s.expireDriver_onlyChanges
  case cabLost => exact s.loseCab_onlyChanges
  case toothEdge side => exact s.toothEdge_onlyChanges side
  case wheelSensorOpenShort side present => exact s.openShort_onlyChanges side present
  case speedOdometryExpiry => exact s.speedExpiry_onlyChanges
  case wheelZeroSpeedTimeout | wheelPlausibilityFail | standstillSet | cabMarkAdoption | rearAdoptionTimeout =>
    exact State.expiryIf_onlyChanges s.speedExpiry_onlyChanges _
  case pathGeneratorExpiry a => exact s.pathExpiry_onlyChanges a
  case trackMemoryExpiry => exact s.trackExpiry_onlyChanges
  case trackStarved => exact State.expiryIf_onlyChanges s.trackExpiry_onlyChanges _
  case steeringExpiry a => exact s.steerExpiry_onlyChanges a
  case lockLossRun | notValidRun | guidedExitRun | centredRun | steerMismatch | centringTravelTimeout =>
    exact State.expiryIf_onlyChanges (s.steerExpiry_onlyChanges _) _
  case jointMonitorExpiry a => exact s.jointExpiry_onlyChanges a
  case jackAlertSetRun | jackAlertClearRun => exact State.expiryIf_onlyChanges (s.jointExpiry_onlyChanges _) _
  case brakingExpiry a => exact s.brakeExpiry_onlyChanges a
  case slipReapplyDone | brakePressureMismatch | backupExitRun =>
    exact State.expiryIf_onlyChanges (s.brakeExpiry_onlyChanges _) _
  case stateEmission => exact s.emitState_onlyChanges
  case driverEmission lines => exact s.emitDriver_onlyChanges lines
  case doorInterlockExpiry inputs => exact s.doorExpiry_onlyChanges inputs
  case levellingExpiry inputs => exact s.levelExpiry_onlyChanges inputs
  case heightStuck | kneelTimeout | raiseTimeout => exact State.expiryIf_onlyChanges (s.levelExpiry_onlyChanges _) _
  case pulseEnd side => exact s.pulseEnd_onlyChanges side
  case continuousStopReached side h => exact s.stopRun_onlyChanges side h
  case twistGateReached h => exact s.reachGate_onlyChanges h

end Sys2Proof

namespace Sys2Proof.Machine

/-- A command's answer is its work, after its time has passed. -/
theorem exec_eq_work (i : Instr) (s : State) : exec i s = .next (i.work (s.advance i.elapsed)) := by
  cases i <;> rfl

/-- A statement of completion is a statement about the command's work. -/
theorem completes_iff_work {i : Instr} {s : State} {holds : State → Prop} :
    completes i s holds ↔ holds (i.work (s.advance i.elapsed)) := by
  unfold completes
  rw [exec_eq_work]
  exact ⟨fun ⟨t, e, h⟩ => by injection e with e; exact e ▸ h, fun h => ⟨_, rfl, h⟩⟩

/-- A command leaves a block that it does not touch as its passing of time leaves it. -/
theorem exec_same {i : Instr} {s t : State} (h : exec i s = .next t) {b : Block} (untouched : b ∉ i.touches) :
    s.same t b := by
  rw [exec_eq_work] at h
  injection h with h
  subst h
  have same := ((i.work_onlyChanges (s.advance i.elapsed)).2.2 b).resolve_left untouched
  cases b <;> exact same

/-- Settles O1. -/
theorem stepRunsFrontCommand : Obligations.step_runs_front_command :=
  ⟨fun _ _ _ => rfl, fun s empty => by unfold step; rw [empty]⟩

/-- Settles O2. -/
theorem commandsPassTheirTime : Obligations.commands_pass_their_time := by
  intro i s t h
  rw [exec_eq_work] at h
  injection h with h
  obtain ⟨pending, now, -⟩ := i.work_onlyChanges (s.advance i.elapsed)
  exact h ▸ ⟨pending, now⟩

end Sys2Proof.Machine
end

section
/-! PROOFS. How a property is kept by every step: what a command does before it settles. -/

namespace Sys2Proof.Machine

/-! ## Properties of some blocks -/

/-- A property that only the listed blocks decide. -/
def restsOn (P : State → Prop) (blocks : List Block) : Prop := ∀ s t : State, (∀ b ∈ blocks, s.same t b) → P s → P t

/-- A change that leaves the blocks of a property alone keeps it. -/
theorem restsOn.keeps {P : State → Prop} {blocks few : List Block} (h : restsOn P blocks) {s t : State}
    (k : s.onlyChanges few t) (apart : ∀ b ∈ blocks, b ∉ few) (hs : P s) : P t :=
  h s t (fun b hb => (k.2.2 b).resolve_left (apart b hb)) hs

/-- A property that every command's work keeps is kept by every step. -/
theorem step_keeps {P : State → Prop} {blocks : List Block} (local_ : restsOn P blocks)
    (work : ∀ (i : Instr) (s : State), P s → P (i.work s)) {s t : State} (hs : P s) (h : step s = .next t) : P t := by
  unfold step at h
  split at h
  · injection h with h
    exact h ▸ hs
  · next c rest _ =>
    rw [exec_eq_work] at h
    injection h with h
    subst h
    exact work c _ (local_ s _ (fun b _ => by cases b <;> rfl) hs)

/-! ## What faults leave of the supervisor -/

/-- The supervisor without its fault list, its consequences and its window, and without the restart counter and the RUN
time: what stands while no mode is entered. -/
def Supervisor.stand (u : Supervisor) : Supervisor :=
  { u with restartCounter := 0, runFrom := none, windowFrom := none, deferred := [], effects := [], conditions := [],
           faults := [], overflow := 0, listFull := false }

theorem Supervisor.mode_of_stand {u v : Supervisor} (h : u.stand = v.stand) : u.mode = v.mode := by
  have e : u.stand.mode = v.stand.mode := by rw [h]
  exact e
theorem Supervisor.power_of_stand {u v : Supervisor} (h : u.stand = v.stand) : u.power = v.power := by
  have e : u.stand.power = v.stand.power := by rw [h]
  exact e
theorem Supervisor.limpLine_of_stand {u v : Supervisor} (h : u.stand = v.stand) : u.limpLine = v.limpLine := by
  have e : u.stand.limpLine = v.stand.limpLine := by rw [h]
  exact e

section
variable (u : Supervisor) (c : FaultCode)

@[simp] theorem Supervisor.addCondition_stand : (u.addCondition c).stand = u.stand := by
  unfold Supervisor.addCondition
  split <;> rfl
@[simp] theorem Supervisor.update_stand (change : FaultRecord → FaultRecord) : (u.update c change).stand = u.stand := rfl
@[simp] theorem Supervisor.record_stand (x : RecordState) (time : Nat) : (u.record c x time).stand = u.stand := by
  obtain ⟨_, _, _, e⟩ := u.record_frame c x time
  rw [e]
  rfl
@[simp] theorem Supervisor.endCondition_stand : (u.endCondition c).stand = u.stand := rfl
@[simp] theorem Supervisor.addEffect_stand : (u.addEffect c).stand = u.stand := by
  unfold Supervisor.addEffect
  split <;> rfl
@[simp] theorem Supervisor.undefer_stand : (u.undefer c).stand = u.stand := rfl
@[simp] theorem Supervisor.takePending_stand : (u.takePending c).stand = u.stand := by
  unfold Supervisor.takePending
  split
  · rw [Supervisor.addEffect_stand, Supervisor.undefer_stand]
    rfl
  · rfl

end

section
variable (s : State) (c : FaultCode)

@[simp] theorem State.endCondition_stand : (s.endCondition c).sup.stand = s.sup.stand := rfl
@[simp] theorem State.applyConsequence_stand : (s.applyConsequence c).sup.stand = s.sup.stand := by
  cases c <;> simp [State.applyConsequence]
@[simp] theorem State.raiseFault_stand : (s.raiseFault c).sup.stand = s.sup.stand := by
  have recorded (x : RecordState) : ((s.sup.addCondition c).record c x s.stationTime).stand = s.sup.stand := by simp
  unfold State.raiseFault
  dsimp only
  split
  · simp [State.applyBothWheels]
  split
  · exact recorded .active
  split
  · exact recorded .deferred
  · rw [State.applyConsequence_stand]
    exact recorded .active
@[simp] theorem State.raiseEvent_stand : (s.raiseEvent c).sup.stand = s.sup.stand := by simp [State.raiseEvent]
@[simp] theorem State.follow_stand (present : Bool) : (s.follow c present).sup.stand = s.sup.stand := by
  rcases s.follow_cases c present with ⟨-, -, e⟩ | ⟨-, -, e⟩ | ⟨-, e⟩ <;> rw [e] <;> simp
theorem State.applyAll_stand (s : State) (cs : List FaultCode) : (s.applyAll cs).sup.stand = s.sup.stand := by
  induction cs generalizing s with
  | nil => rfl
  | cons c rest ih => simp [State.applyAll, ih]
@[simp] theorem State.closeWindow_stand : s.closeWindow.sup.stand = s.sup.stand := s.applyAll_stand s.sup.deferred
@[simp] theorem State.clearTrack_stand : s.clearTrack.sup.stand = s.sup.stand := rfl
@[simp] theorem State.meetUnexpected_stand : s.meetUnexpected.sup.stand = s.sup.stand := by
  unfold State.meetUnexpected
  split <;> simp
@[simp] theorem State.closeIfIdle_stand : s.closeIfIdle.sup.stand = s.sup.stand := by
  rcases s.closeIfIdle_cases with ⟨-, -, e⟩ | ⟨-, e⟩ <;> rw [e]
  exact s.closeWindow_stand
end

/-- A change of some blocks at which no mode is entered. -/
def State.changesAt (s : State) (blocks : List Block) (t : State) : Prop :=
  s.onlyChanges blocks t ∧ t.sup.stand = s.sup.stand

/-! ### The work of the blocks -/

section
variable (s : State)

@[simp] theorem State.queueAlert_stand (k : AlertKind) (slot : Nat) (v : Int) :
    (s.queueAlert k slot v).sup.stand = s.sup.stand := by simp
@[simp] theorem State.changePeer_stand (k : Nat) (change : PeerRecord → PeerRecord) :
    (s.changePeer k change).sup.stand = s.sup.stand := by
  unfold State.changePeer
  dsimp only
  split_ifs <;> simp [State.updatePeer]
@[simp] theorem State.newDriver_stand (c : DriverContent) : (s.newDriver c).sup.stand = s.sup.stand := rfl
@[simp] theorem State.driverWork_stand (lines : DriverLines) : (s.driverWork lines).sup.stand = s.sup.stand := by
  unfold State.driverWork State.sendDriver
  split
  · dsimp only
    split_ifs <;> simp [State.queueDriver]
  · simp
@[simp] theorem State.endSilent_stand : s.endSilent.sup.stand = s.sup.stand := by
  unfold State.endSilent
  split <;> rfl
@[simp] theorem State.destroyAttempt_stand : s.destroyAttempt.sup.stand = s.sup.stand := by
  unfold State.destroyAttempt State.enterSilent
  split
  · dsimp only
    split_ifs <;> simp
  · rfl
@[simp] theorem State.serve_stand (request : Payload) : (s.serve request).sup.stand = s.sup.stand := by
  have cleared : s.sup.clearPassive.stand = s.sup.stand := rfl
  unfold State.serve State.serveKind
  split
  · rfl
  split
  · rfl
  split
  · split
    case h_3 =>
      split
      · exact cleared
      · rfl
    all_goals repeat split
    all_goals rfl
  · rfl
@[simp] theorem State.takeService_stand (k : Nat) (request : Payload) :
    (s.takeService k request).sup.stand = s.sup.stand := by
  unfold State.takeService
  split <;> simp
@[simp] theorem State.admitSample_stand (x : PathSample) : (s.admitSample x).sup.stand = s.sup.stand := by
  unfold State.admitSample State.checkHighWater
  dsimp only
  split_ifs <;> simp
@[simp] theorem State.takePath_stand (k : Nat) (p : Payload) : (s.takePath k p).sup.stand = s.sup.stand := by
  unfold State.takePath State.offerSample
  split
  · split
    · split_ifs <;> simp
    · rfl
  · rfl
@[simp] theorem State.retireEntries_stand (p : Params) : (s.retireEntries p).sup.stand = s.sup.stand := by
  unfold State.retireEntries State.checkLowWater
  dsimp only
  split_ifs <;> simp
@[simp] theorem State.trackWork_stand (p : Params) : (s.trackWork p).sup.stand = s.sup.stand := by
  simp [State.trackWork]
@[simp] theorem State.emitSample_stand (x : PathSample) (b g : Bool) : (s.emitSample x b g).sup.stand = s.sup.stand := by
  unfold State.emitSample
  dsimp only
  split <;> simp
@[simp] theorem State.gridSamples_stand (s : State) (fuel : Nat) : (s.gridSamples fuel).sup.stand = s.sup.stand := by
  induction fuel generalizing s with
  | zero => rfl
  | succ n ih =>
    unfold State.gridSamples
    split
    · split
      · rw [ih]
        simp [State.gridSample]
      · rfl
    · rfl
@[simp] theorem State.pathWork_stand (front : AnalogIn) (p : Params) : (s.pathWork front p).sup.stand = s.sup.stand := by
  have emitted (t : State) : t.emitSamples.sup.stand = t.sup.stand := by
    unfold State.emitSamples
    split
    · split
      · rfl
      · split
        · simp [State.firstSample]
        · simp
    · rfl
  unfold State.pathWork
  rw [emitted]
  unfold State.readFront
  split <;> simp
@[simp] theorem State.followWheel_stand (side : Side) (arises : Bool) :
    (s.followWheel side arises).sup.stand = s.sup.stand := by
  unfold State.followWheel
  dsimp only
  split <;> simp
@[simp] theorem State.followBoth_stand : s.followBoth.sup.stand = s.sup.stand := by simp [State.followBoth]
@[simp] theorem State.wheelWork_stand (p : Params) : (s.wheelWork p).sup.stand = s.sup.stand := by simp [State.wheelWork]
@[simp] theorem State.directionWork_stand : s.directionWork.sup.stand = s.sup.stand := by
  unfold State.directionWork
  dsimp only
  split <;> simp
@[simp] theorem State.distanceWork_stand (p : Params) : (s.distanceWork p).sup.stand = s.sup.stand := by
  unfold State.distanceWork State.addDistance
  dsimp only
  split_ifs <;> simp
@[simp] theorem State.adoptionWork_stand (p : Params) : (s.adoptionWork p).sup.stand = s.sup.stand := by
  unfold State.adoptionWork State.adopt
  split_ifs <;> simp
@[simp] theorem State.odometryWork_stand (p : Params) : (s.odometryWork p).sup.stand = s.sup.stand := by
  have rested (t : State) : t.standstillWork.sup.stand = t.sup.stand := by
    unfold State.standstillWork
    dsimp only
    split_ifs <;> simp
  have sourced (t : State) : t.sourceWork.sup.stand = t.sup.stand := by
    unfold State.sourceWork
    split <;> rfl
  have speed (t : State) : t.speedWork.sup.stand = t.sup.stand := rfl
  simp [State.odometryWork, rested, sourced, speed]
@[simp] theorem State.steerWork_stand (angle : AnalogIn) (p : Params) : (s.steerWork angle p).sup.stand = s.sup.stand := by
  have read (t : State) : (t.readSteer angle).sup.stand = t.sup.stand := by
    unfold State.readSteer
    split
    · simp
    · dsimp only
      split <;> simp
  have supervised (t : State) : t.superviseSteer.sup.stand = t.sup.stand := by
    unfold State.superviseSteer
    dsimp only
    split <;> simp
  have moded (t : State) : t.steerMode.sup.stand = t.sup.stand := by
    unfold State.steerMode
    split <;> rfl
  unfold State.steerWork State.applySteer State.steerTarget
  dsimp only
  split_ifs <;> simp [read, supervised, moded]
@[simp] theorem State.jointWork_stand (joint : AnalogIn) (p : Params) : (s.jointWork joint p).sup.stand = s.sup.stand := by
  have read (t : State) : (t.readJoint joint).sup.stand = t.sup.stand := by
    unfold State.readJoint
    split <;> simp
  have alerted (t : State) : (t.alertWork p).sup.stand = t.sup.stand := by
    unfold State.alertWork
    dsimp only
    split_ifs <;> simp
  have folded (t : State) : t.foldWork.sup.stand = t.sup.stand := by
    unfold State.foldWork
    split <;> rfl
  unfold State.jointWork
  dsimp only
  split
  · exact read s
  · rw [folded]
    simp only [State.damperWork, State.setJoint_sup, alerted, State.compareJoint, read]
@[simp] theorem State.brakeWork_stand (pressure : AnalogIn) (p : Params) :
    (s.brakeWork pressure p).sup.stand = s.sup.stand := by
  have read (t : State) : (t.readPressure pressure).sup.stand = t.sup.stand := by
    unfold State.readPressure
    split
    · simp
    · dsimp only
      split <;> simp
  have supervised (t : State) : t.supervisePressure.sup.stand = t.sup.stand := by
    unfold State.supervisePressure
    dsimp only
    split <;> simp
  have lost (t : State) : t.loseDriver.sup.stand = t.sup.stand := by
    unfold State.loseDriver
    split <;> simp
  have left (t : State) : t.exitBackup.sup.stand = t.sup.stand := by
    unfold State.exitBackup
    dsimp only
    split_ifs <;> rfl
  have pressed (t : State) : (t.pressureWork p).sup.stand = t.sup.stand := by
    unfold State.pressureWork
    dsimp only
    split <;> rfl
  simp [State.brakeWork, State.slipWork, pressed, State.demandWork, left, lost, supervised, read]
@[simp] theorem State.readDoors_stand (inputs : DoorInputs) : (s.readDoors inputs).sup.stand = s.sup.stand := by
  have alerts (t : State) (k : Nat) (b a : DoorSlot) : (t.doorAlerts k b a).sup.stand = t.sup.stand := by
    unfold State.doorAlerts
    dsimp only
    split_ifs <;> simp
  have raised (t : State) (x : Bool) : (t.raiseIf .doorUnreleased x).sup.stand = t.sup.stand := by
    unfold State.raiseIf
    split <;> simp
  unfold State.readDoors State.doorFault
  dsimp only
  split <;> simp [alerts, raised]
@[simp] theorem State.doorWork_stand (inputs : DoorInputs) (p : Params) :
    (s.doorWork inputs p).sup.stand = s.sup.stand := by
  unfold State.doorWork
  split
  · simp
  · have halted (t : State) : (t.haltWork p).sup = t.sup := rfl
    have granted (t : State) : t.grantWork.sup = t.sup := rfl
    have lined (t : State) : (t.lineWork p).sup = t.sup := rfl
    rw [lined, granted, halted, State.readDoors_stand]
    rfl
@[simp] theorem State.readLevel_stand (inputs : LevelInputs) : (s.readLevel inputs).sup.stand = s.sup.stand := by
  have reservoir (t : State) (x : AnalogIn) : (t.readReservoir x).sup.stand = t.sup.stand := by
    unfold State.readReservoir
    split <;> simp
  simp [State.readLevel, State.readBellows, State.readHeight, reservoir]
theorem State.leaveReturning_stand (before : LevelState) : (s.leaveReturning before).sup.stand = s.sup.stand := by
  unfold State.leaveReturning
  split <;> rfl
@[simp] theorem State.levelWork_stand (p : Params) : (s.levelWork p).sup.stand = s.sup.stand := by
  have counted (t : State) : t.countLevel.sup.stand = t.sup.stand := by
    unfold State.countLevel
    dsimp only
    split <;> simp
  unfold State.levelWork
  dsimp only
  split_ifs <;> simp [counted, State.leaveReturning_stand]
@[simp] theorem State.levellingWork_stand (inputs : LevelInputs) (p : Params) :
    (s.levellingWork inputs p).sup.stand = s.sup.stand := by
  have aired (t : State) : (t.airWork p).sup.stand = t.sup.stand := by
    unfold State.airWork
    split <;> rfl
  have loaded (t : State) : (t.loadWork p).sup.stand = t.sup.stand := by
    unfold State.loadWork
    split <;> rfl
  have gated (t : State) : (t.gateWork p).sup.stand = t.sup.stand := by
    unfold State.gateWork
    split <;> rfl
  have channelled (t : State) : (t.channelWork p).sup.stand = t.sup.stand := by
    unfold State.channelWork
    dsimp only
    split <;> rfl
  unfold State.levellingWork
  dsimp only
  split
  · simp [State.levelInLimp, State.leaveReturning_stand, aired, loaded]
  · simp [channelled, gated, aired, loaded]

end

end Sys2Proof.Machine

namespace Sys2Proof

open Machine

/-- The blocks that a command can change before it settles. -/
def Instr.settles : Instr → List Block
  | .syncTimeout _ => [.sup, .doors]
  | .deferralWindowTimeout _ => [.sup, .odo, .joint, .air]
  | .cabLost _ => [.sup]
  | .stateFrameReceived _ _ _ | .missed _ _ => [.peers, .sup]
  | .driverFrameReceived _ _ _ | .driverStatusExpired _ => [.driver, .sup]
  | .driverEmission _ _ => [.driver, .link, .sup]
  | .wheelSensorOpenShort _ _ _ => [.odo, .sup]
  | .speedOdometryExpiry _ | .wheelZeroSpeedTimeout _ _ | .wheelPlausibilityFail _ _ | .standstillSet _
  | .cabMarkAdoption _ | .rearAdoptionTimeout _ => [.odo, .sup, .track, .link]
  | .pathGeneratorExpiry _ _ => [.path, .link, .sup]
  | .steeringExpiry _ _ | .lockLossRun _ _ | .notValidRun _ _ | .guidedExitRun _ _ | .centredRun _ _
  | .steerMismatch _ _ | .centringTravelTimeout _ _ => [.steer, .sup]
  | .jointMonitorExpiry _ _ | .jackAlertSetRun _ _ | .jackAlertClearRun _ _ => [.joint, .sup, .link]
  | .brakingExpiry _ _ | .slipReapplyDone _ _ _ | .brakePressureMismatch _ _ | .backupExitRun _ _ =>
    [.brake, .sup, .doors]
  | .doorInterlockExpiry _ _ => [.doors, .link, .sup]
  | .levellingExpiry _ _ | .heightStuck _ _ _ | .kneelTimeout _ _ | .raiseTimeout _ _ => [.air, .sup]
  | _ => []

/-- The blocks that a command can change where it does not settle. -/
def Instr.plain : Instr → List Block
  | .powerUp _ | .powerUpWaitEnd _ | .startComplete _ _ | .supply _ _ _ | .supplyGoodRun _ | .powerOff _ => Block.every
  | .runTimeElapsed _ => [.sup]
  | .listenEnd _ | .transmitAttemptStart _ | .attemptCompleted _ | .arbitrationLost _ | .stateEmission _ => [.link]
  | .silentEnd _ | .attemptDestroyed _ | .readStatus _ _ _ _ _ | .readFaults _ _ _ _ _ | .clearFaults _ _ _ _ _
  | .readParameter _ _ _ _ _ | .readTrack _ _ _ _ _ | .serviceRequestRejected _ _ _
  | .stateFrameReceived _ _ _ | .driverFrameReceived _ _ _ => [.link, .sup]
  | .pathFrameReceived _ _ _ => [.track, .link, .sup]
  | .alertFrameReceived _ _ _ => [.peers, .link, .sup]
  | .driverStatusHolding _ => [.driver]
  | .toothEdge _ _ | .wheelSensorOpenShort _ _ _ => [.odo]
  | .trackMemoryExpiry _ | .trackStarved _ => [.track, .sup]
  | .pulseEnd _ _ | .continuousStopReached _ _ _ | .twistGateReached _ _ => [.air]
  | _ => []

end Sys2Proof

namespace Sys2Proof.Machine

/-- A change of some blocks, after which the supervisor settles, or a change of others alone; no mode is entered before. -/
def State.settlesOr (s : State) (settles plain : List Block) (t : State) : Prop :=
  (∃ u, s.changesAt settles u ∧ t = u.settle) ∨ s.changesAt plain t

theorem State.settlesOr_refl (s : State) (settles plain : List Block) : s.settlesOr settles plain s :=
  .inr ⟨s.onlyChanges_refl _, rfl⟩

theorem State.settlesOr_ite {s t u : State} {settles plain : List Block} {c : Prop} [Decidable c]
    (h : s.settlesOr settles plain t) (k : s.settlesOr settles plain u) :
    s.settlesOr settles plain (if c then t else u) := by
  split
  · exact h
  · exact k

theorem State.settlesOr_settle {s u : State} {settles plain : List Block} (h : s.onlyChanges settles u)
    (stand : u.sup.stand = s.sup.stand) : s.settlesOr settles plain u.settle := .inl ⟨u, ⟨h, stand⟩, rfl⟩

theorem State.expiryIf_settlesOr {s after : State} {settles plain : List Block} (h : s.settlesOr settles plain after)
    (happens : Bool) : s.settlesOr settles plain (s.expiryIf after happens) :=
  State.settlesOr_ite h (s.settlesOr_refl _ _)

theorem State.received_settlesOr {s : State} {settles plain : List Block} {handle : State → State} (sender : Nat)
    (h : s.settlesOr settles plain (handle s)) (k : ∀ b ∈ [Block.link, .sup], b ∈ plain) :
    s.settlesOr settles plain (s.received sender handle) := by
  unfold State.received
  split
  · exact h
  · exact .inr ⟨State.onlyChanges_mono s.meetUnexpected_onlyChanges k, s.meetUnexpected_stand⟩
  · exact s.settlesOr_refl _ _
  · exact s.settlesOr_refl _ _

theorem State.withCopy_stand {s : State} {work : Params → State → State}
    (h : ∀ p, (work p s).sup.stand = s.sup.stand) : (s.withCopy work).sup.stand = s.sup.stand := by
  unfold State.withCopy
  split
  · exact h _
  · rfl

/-- What both branches have, the choice has. -/
theorem ite_keeps {α : Type} {P : α → Prop} {c : Prop} [Decidable c] {x y : α} (h : P x) (k : P y) :
    P (if c then x else y) := by
  split
  · exact h
  · exact k

theorem State.received_stand {s : State} {handle : State → State} (sender : Nat)
    (h : (handle s).sup.stand = s.sup.stand) : (s.received sender handle).sup.stand = s.sup.stand := by
  unfold State.received
  split
  · exact h
  · exact s.meetUnexpected_stand
  · rfl
  · rfl

section
variable (s : State)

theorem State.speedExpiry_settlesOr : s.settlesOr [.odo, .sup, .track, .link] [] s.speedExpiry :=
  State.settlesOr_ite (State.settlesOr_settle (State.withCopy_onlyChanges fun p => s.odometryWork_onlyChanges p)
    (State.withCopy_stand s.odometryWork_stand)) (s.settlesOr_refl _ _)

theorem State.pathExpiry_settlesOr (front : AnalogIn) : s.settlesOr [.path, .link, .sup] [] (s.pathExpiry front) :=
  State.settlesOr_ite (State.settlesOr_settle (State.withCopy_onlyChanges fun p =>
    ((s.onlyChanges_refl _).step (s.readFront_onlyChanges p front) (by decide)).step (State.emitSamples_onlyChanges _)
      (by decide))
    (State.withCopy_stand (s.pathWork_stand front))) (s.settlesOr_refl _ _)

theorem State.steerExpiry_settlesOr (angle : AnalogIn) : s.settlesOr [.steer, .sup] [] (s.steerExpiry angle) :=
  State.settlesOr_ite (State.settlesOr_settle (State.withCopy_onlyChanges fun p => s.steerWork_onlyChanges angle p)
    (State.withCopy_stand (s.steerWork_stand angle))) (s.settlesOr_refl _ _)

theorem State.jointExpiry_settlesOr (joint : AnalogIn) : s.settlesOr [.joint, .sup, .link] [] (s.jointExpiry joint) :=
  State.settlesOr_ite (State.settlesOr_settle (State.withCopy_onlyChanges fun p => s.jointWork_onlyChanges joint p)
    (State.withCopy_stand (s.jointWork_stand joint))) (s.settlesOr_refl _ _)

theorem State.brakeExpiry_settlesOr (pressure : AnalogIn) :
    s.settlesOr [.brake, .sup, .doors] [] (s.brakeExpiry pressure) :=
  State.settlesOr_ite (State.settlesOr_settle (State.withCopy_onlyChanges fun p => s.brakeWork_onlyChanges pressure p)
    (State.withCopy_stand (s.brakeWork_stand pressure))) (s.settlesOr_refl _ _)

theorem State.doorExpiry_settlesOr (inputs : DoorInputs) : s.settlesOr [.doors, .link, .sup] [] (s.doorExpiry inputs) :=
  State.settlesOr_ite (State.settlesOr_settle (State.withCopy_onlyChanges fun p => s.doorWork_onlyChanges inputs p)
    (State.withCopy_stand (s.doorWork_stand inputs))) (s.settlesOr_refl _ _)

theorem State.levelExpiry_settlesOr (inputs : LevelInputs) : s.settlesOr [.air, .sup] [] (s.levelExpiry inputs) :=
  State.settlesOr_ite (State.settlesOr_settle (State.withCopy_onlyChanges fun p => s.levellingWork_onlyChanges inputs p)
    (State.withCopy_stand (s.levellingWork_stand inputs))) (s.settlesOr_refl _ _)

theorem State.openShort_settlesOr (side : Side) (present : Bool) :
    s.settlesOr [.odo, .sup] [.odo] (s.openShort side present) := by
  have followed (x : Odometry) (arises : Bool) :
      s.settlesOr [.odo, .sup] [.odo] (((s.setOdo x).followWheel side arises).followBoth).settle :=
    State.settlesOr_settle (((State.onlyChanges_mono (State.setOdo_onlyChanges ..) (by decide)).step
      (State.followWheel_onlyChanges _ side arises) (by decide)).step (State.followBoth_onlyChanges _) (by decide))
      (by simp)
  have noted (x : Odometry) : s.settlesOr [.odo, .sup] [.odo] (s.setOdo x) := .inr ⟨State.setOdo_onlyChanges .., rfl⟩
  unfold State.openShort
  dsimp only
  split
  · exact s.settlesOr_refl _ _
  · exact State.settlesOr_ite (followed _ _) (noted _)
  · exact State.settlesOr_ite (followed _ _) (noted _)

theorem State.takeDriver_settlesOr (sender : Nat) (p : Payload) :
    s.settlesOr [.driver, .sup] [.link, .sup] (s.takeDriver sender p) := by
  unfold State.takeDriver
  refine State.settlesOr_ite ?_ (s.settlesOr_refl _ _)
  split
  · exact State.settlesOr_settle (State.newDriver_onlyChanges ..) rfl
  · exact s.settlesOr_refl _ _

end

theorem State.trackExpiry_stand (s : State) : s.trackExpiry.sup.stand = s.sup.stand :=
  ite_keeps (P := fun t : State => t.sup.stand = s.sup.stand) (State.withCopy_stand s.trackWork_stand) rfl

/-- The commands by which a station enters START, SYNC, RESTART or LIMP, or loses its supply. -/
def entersMode : Instr → Bool
  | .powerUp _ | .powerUpWaitEnd _ | .startComplete _ _ | .supply _ _ _ | .supplyGoodRun _ | .powerOff _ => true
  | _ => false

/-- The commands that enter no mode but as they settle. -/
def keepsMode : Instr → Bool
  | .syncTimeout _ => false
  | i => !entersMode i

/-- What such a command does without settling leaves the modes and what goes with them. -/
theorem Instr.work_stand_of_plain (i : Instr) (s : State) (plain : i.settles = []) (keeps : keepsMode i = true) :
    (i.work s).sup.stand = s.sup.stand := by
  cases i
  case runTimeElapsed | listenEnd | transmitAttemptStart | driverStatusHolding | toothEdge | stateEmission
      | pulseEnd | continuousStopReached =>
    exact ite_keeps (P := fun t : State => t.sup.stand = s.sup.stand) rfl rfl
  case silentEnd => exact s.endSilent_stand
  case attemptCompleted =>
    change s.completeAttempt.sup.stand = _
    unfold State.completeAttempt
    split <;> rfl
  case arbitrationLost => rfl
  case attemptDestroyed => exact s.destroyAttempt_stand
  case readStatus | readFaults | clearFaults | readParameter | readTrack | serviceRequestRejected =>
    exact s.takeService_stand _ _
  case pathFrameReceived k p => exact State.received_stand (handle := fun u => u.takePath k.toNat p) _ (s.takePath_stand _ _)
  case alertFrameReceived k p =>
    refine State.received_stand (handle := fun u => u.takeAlert k.toNat p) _ ?_
    unfold State.takeAlert
    split <;> rfl
  case trackMemoryExpiry => exact s.trackExpiry_stand
  case trackStarved =>
    exact ite_keeps (P := fun t : State => t.sup.stand = s.sup.stand) s.trackExpiry_stand rfl
  case twistGateReached =>
    exact State.withCopy_stand fun p => ite_keeps (P := fun t : State => t.sup.stand = s.sup.stand) rfl rfl
  all_goals simp [Instr.settles, keepsMode, entersMode] at plain keeps

/-- What a command can do: it changes some blocks and settles, or it changes others and does not. -/
theorem Instr.work_settlesOr (i : Instr) (s : State) (keeps : keepsMode i = true) :
    s.settlesOr i.settles i.plain (i.work s) := by
  cases i
  case syncTimeout => exact absurd keeps Bool.false_ne_true
  case deferralWindowTimeout =>
    exact State.settlesOr_ite (State.settlesOr_settle s.closeWindow_onlyChanges s.closeWindow_stand) (s.settlesOr_refl _ _)
  case cabLost =>
    exact State.settlesOr_ite (State.settlesOr_settle (s.raiseFault_touches .cabLost) (s.raiseFault_stand _))
      (s.settlesOr_refl _ _)
  case stateFrameReceived k p =>
    exact State.received_settlesOr (handle := fun u => (u.takeState k.toNat p).settle) _
      (State.settlesOr_settle (State.changePeer_touches ..) (State.changePeer_stand ..)) (by simp [Instr.plain])
  case driverFrameReceived =>
    exact State.received_settlesOr _ (State.takeDriver_settlesOr ..) (by simp [Instr.plain])
  case missed =>
    exact State.settlesOr_ite (State.settlesOr_settle (State.changePeer_touches ..) (State.changePeer_stand ..))
      (s.settlesOr_refl _ _)
  case driverStatusExpired =>
    exact State.settlesOr_ite (State.settlesOr_settle ((State.onlyChanges_mono (State.setDriver_onlyChanges ..)
      (by simp [Instr.settles])).step (State.raiseFault_touches _ .cabLost) (by simp [Instr.settles, FaultCode.touches]))
      (State.raiseFault_stand ..)) (s.settlesOr_refl _ _)
  case driverEmission lines =>
    exact State.settlesOr_ite (State.settlesOr_settle (s.driverWork_onlyChanges lines) (s.driverWork_stand lines))
      (s.settlesOr_refl _ _)
  case wheelSensorOpenShort side present => exact s.openShort_settlesOr side present
  case speedOdometryExpiry => exact s.speedExpiry_settlesOr
  case wheelZeroSpeedTimeout | wheelPlausibilityFail | standstillSet | cabMarkAdoption | rearAdoptionTimeout =>
    exact State.expiryIf_settlesOr s.speedExpiry_settlesOr _
  case pathGeneratorExpiry a => exact s.pathExpiry_settlesOr a
  case steeringExpiry a => exact s.steerExpiry_settlesOr a
  case lockLossRun | notValidRun | guidedExitRun | centredRun | steerMismatch | centringTravelTimeout =>
    exact State.expiryIf_settlesOr (s.steerExpiry_settlesOr _) _
  case jointMonitorExpiry a => exact s.jointExpiry_settlesOr a
  case jackAlertSetRun | jackAlertClearRun => exact State.expiryIf_settlesOr (s.jointExpiry_settlesOr _) _
  case brakingExpiry a => exact s.brakeExpiry_settlesOr a
  case slipReapplyDone | brakePressureMismatch | backupExitRun =>
    exact State.expiryIf_settlesOr (s.brakeExpiry_settlesOr _) _
  case doorInterlockExpiry inputs => exact s.doorExpiry_settlesOr inputs
  case levellingExpiry inputs => exact s.levelExpiry_settlesOr inputs
  case heightStuck | kneelTimeout | raiseTimeout => exact State.expiryIf_settlesOr (s.levelExpiry_settlesOr _) _
  all_goals exact .inr ⟨Instr.work_onlyChanges _ s, Instr.work_stand_of_plain _ s rfl keeps⟩

/-- A command that touches no block of a property but by settling keeps it, where settling does. -/
theorem restsOn.work {P : State → Prop} {blocks : List Block} (rests : restsOn P blocks)
    (settle : ∀ s, P s → P s.settle) {i : Instr} (apart : ∀ b ∈ blocks, b ∉ i.settles ∧ b ∉ i.plain) {s : State}
    (h : P s) : P (i.work s) := by
  have enters (all : i.plain = Block.every) : P (i.work s) := by
    refine rests.keeps (Instr.work_onlyChanges i s).every (fun b hb => ?_) h
    rw [← all]
    exact (apart b hb).2
  by_cases keeps : keepsMode i = true
  · rcases Instr.work_settlesOr i s keeps with ⟨u, changed, e⟩ | changed
    · rw [e]
      exact settle u (rests.keeps changed.1 (fun b hb => (apart b hb).1) h)
    · exact rests.keeps changed.1 (fun b hb => (apart b hb).2) h
  · cases i
    case syncTimeout =>
      exact ite_keeps (settle _ (rests.keeps s.enterDegraded_onlyChanges (fun b hb => (apart b hb).1) h)) h
    case powerUp | powerUpWaitEnd | startComplete | supply | supplyGoodRun | powerOff => exact enters rfl
    all_goals exact absurd rfl keeps

theorem State.withCopy_keeps {P : State → Prop} {s : State} {work : Params → State → State} (h : P s)
    (k : ∀ p, P (work p s)) : P (s.withCopy work) := by
  unfold State.withCopy
  split
  · exact k _
  · exact h

/-! ## START's reading (R172, R185) -/

/-- The blocks at their values after START, before a fault is raised. -/
def State.startBlocks (s : State) (r : StartReading) : State :=
  let found := loadParameters r.words r.strap.toNat
  let t := (s.setLoader { strap := r.strap.toNat, image := r.words, copy := found.copy }).blocksInitial
  match found.copy with
  | some p => t.blocksFromCopy p r
  | none => t

/-- START once it has read everything, with PARAM_CLAMPED recorded where a value was clamped. -/
def State.started (s : State) (r : StartReading) : State :=
  if (loadParameters r.words r.strap.toNat).clampedAny then (s.startBlocks r).raiseEvent .paramClamped
  else s.startBlocks r

theorem State.completeStart_eq (s : State) (r : StartReading) :
    s.completeStart r =
      if (loadParameters r.words r.strap.toNat).config then ((s.started r).raiseFault .config).enterLimp 1
      else (s.started r).enterSync := rfl

theorem State.startBlocks_cases (s : State) (r : StartReading) :
    (∃ p, (loadParameters r.words r.strap.toNat).copy = some p
      ∧ s.startBlocks r = (s.setLoader { strap := r.strap.toNat, image := r.words, copy := some p }).blocksInitial.blocksFromCopy p r)
    ∨ ((loadParameters r.words r.strap.toNat).copy = none
      ∧ s.startBlocks r = (s.setLoader { strap := r.strap.toNat, image := r.words, copy := none }).blocksInitial) := by
  unfold State.startBlocks
  cases h : (loadParameters r.words r.strap.toNat).copy with
  | some p => exact .inl ⟨p, rfl, by simp only [h]⟩
  | none => exact .inr ⟨rfl, by simp only [h]⟩

/-- Recording PARAM_CLAMPED changes the supervisor alone. -/
theorem State.started_onlyChanges (s : State) (r : StartReading) : (s.startBlocks r).onlyChanges [.sup] (s.started r) :=
  State.onlyChanges_ite (State.raiseEvent_touches _ .paramClamped) (State.onlyChanges_refl _ _)

theorem State.same_of_onlyChanges {s t : State} {blocks : List Block} (h : s.onlyChanges blocks t) (b : Block)
    (apart : b ∉ blocks) : s.same t b := (h.2.2 b).resolve_left apart

section
variable (s : State) (r : StartReading)

@[simp] theorem State.startBlocks_sup : (s.startBlocks r).sup = s.sup := by
  rcases s.startBlocks_cases r with ⟨p, -, e⟩ | ⟨-, e⟩ <;> rw [e] <;> rfl

@[simp] theorem State.started_loader : (s.started r).loader =
    { strap := r.strap.toNat, image := r.words, copy := (loadParameters r.words r.strap.toNat).copy } := by
  rw [State.same_of_onlyChanges (s.started_onlyChanges r) .loader (by decide)]
  rcases s.startBlocks_cases r with ⟨p, k, e⟩ | ⟨k, e⟩ <;> rw [e, k] <;> rfl
@[simp] theorem State.started_link : (s.started r).link = Link.initial := by
  rw [State.same_of_onlyChanges (s.started_onlyChanges r) .link (by decide)]
  rcases s.startBlocks_cases r with ⟨p, -, e⟩ | ⟨-, e⟩ <;> rw [e] <;> rfl
theorem State.started_peers : (s.started r).peers = peersInitial (s.started r).axles r.strap.toNat := by
  rw [State.same_of_onlyChanges (s.started_onlyChanges r) .peers (by decide)]
  unfold State.axles
  rw [s.started_loader]
  rcases s.startBlocks_cases r with ⟨p, k, e⟩ | ⟨k, e⟩ <;> rw [e, k] <;> rfl
@[simp] theorem State.started_driver : (s.started r).driver = DriverHold.initial := by
  rw [State.same_of_onlyChanges (s.started_onlyChanges r) .driver (by decide)]
  rcases s.startBlocks_cases r with ⟨p, -, e⟩ | ⟨-, e⟩ <;> rw [e] <;> rfl
@[simp] theorem State.started_odo : (s.started r).odo = s.odo.afterStart := by
  rw [State.same_of_onlyChanges (s.started_onlyChanges r) .odo (by decide)]
  rcases s.startBlocks_cases r with ⟨p, -, e⟩ | ⟨-, e⟩ <;> rw [e] <;> rfl
@[simp] theorem State.started_track : (s.started r).track = TrackMemory.initial := by
  rw [State.same_of_onlyChanges (s.started_onlyChanges r) .track (by decide)]
  rcases s.startBlocks_cases r with ⟨p, -, e⟩ | ⟨-, e⟩ <;> rw [e] <;> rfl
@[simp] theorem State.started_steer : (s.started r).steer = Steering.initial := by
  rw [State.same_of_onlyChanges (s.started_onlyChanges r) .steer (by decide)]
  rcases s.startBlocks_cases r with ⟨p, -, e⟩ | ⟨-, e⟩ <;> rw [e] <;> rfl
@[simp] theorem State.started_joint : (s.started r).joint = JointMonitor.initial := by
  rw [State.same_of_onlyChanges (s.started_onlyChanges r) .joint (by decide)]
  rcases s.startBlocks_cases r with ⟨p, -, e⟩ | ⟨-, e⟩ <;> rw [e] <;> rfl
theorem State.started_brake : (s.started r).brake
    = Braking.initial ((loadParameters r.words r.strap.toNat).copy.elim 0 Params.ladenDefault) := by
  rw [State.same_of_onlyChanges (s.started_onlyChanges r) .brake (by decide)]
  rcases s.startBlocks_cases r with ⟨p, k, e⟩ | ⟨k, e⟩ <;> rw [e, k] <;> rfl
theorem State.started_air : (s.started r).air
    = (loadParameters r.words r.strap.toNat).copy.elim Levelling.initial (Levelling.afterStart · r) := by
  rw [State.same_of_onlyChanges (s.started_onlyChanges r) .air (by decide)]
  rcases s.startBlocks_cases r with ⟨p, k, e⟩ | ⟨k, e⟩ <;> rw [e, k] <;> rfl
theorem State.started_doors : (s.started r).doors
    = (loadParameters r.words r.strap.toNat).copy.elim DoorInterlock.initial (DoorInterlock.afterStart · r.doors) := by
  rw [State.same_of_onlyChanges (s.started_onlyChanges r) .doors (by decide)]
  rcases s.startBlocks_cases r with ⟨p, k, e⟩ | ⟨k, e⟩ <;> rw [e, k] <;> rfl
@[simp] theorem State.started_mode : (s.started r).sup.mode = s.sup.mode := by
  unfold State.started
  split_ifs <;> simp
@[simp] theorem State.started_now : (s.started r).now = s.now := by
  rw [(s.started_onlyChanges r).2.1]
  rcases s.startBlocks_cases r with ⟨p, -, e⟩ | ⟨-, e⟩ <;> rw [e] <;> rfl

end

/-! ## Commands that enter a mode -/

/-- A property that holds before supply, that every entry to a mode and every beginning of START keeps, and that depends on
the supervisor by the mode and the limp line alone. -/
structure ModeMoves (P : State → Prop) : Prop where
  reset : ∀ (queue : List Instr) (now : Micros), P { State.reset with pending := queue, now := now }
  start : ∀ s : State, P s → P s.enterStart
  abandon : ∀ (s : State) (r : AbandonedReading), s.sup.mode = .start → P s → P (s.abandonStart r)
  blocks : ∀ (s : State) (r : StartReading), s.sup.mode = .start → P s → P (s.startBlocks r)
  sync : ∀ s : State, s.sup.mode = .start → P s → P s.enterSync
  restart : ∀ s : State, P s → P s.enterRestart
  limp : ∀ (s : State) (cause : Int), P s → P (s.enterLimp cause)
  supervised : ∀ s t : State, s.onlyChanges [.sup] t → t.sup.mode = s.sup.mode → t.sup.limpLine = s.sup.limpLine →
    P s → P t

/-- A raise of a fault that has no consequence of its own leaves what stands. -/
theorem ModeMoves.raised {P : State → Prop} (moves : ModeMoves P) {s t : State} (changed : s.onlyChanges [.sup] t)
    (stand : t.sup.stand = s.sup.stand) (hs : P s) : P t :=
  moves.supervised s t changed (Supervisor.mode_of_stand stand) (Supervisor.limpLine_of_stand stand) hs

section
variable {P : State → Prop} (moves : ModeMoves P) {s : State}
include moves

theorem ModeMoves.callRestart (hs : P s) : P s.callRestart := by
  rcases s.callRestart_cases with ⟨-, e⟩ | ⟨-, e⟩ <;> rw [e]
  · exact moves.restart _ (moves.supervised s _ (State.setSup_onlyChanges ..) rfl rfl hs)
  · exact moves.limp _ _ (moves.raised (State.raiseFault_touches _ .restartLimit) (s.raiseFault_stand _) hs)

theorem ModeMoves.completeStart (mode : s.sup.mode = .start) (r : StartReading) (hs : P s) : P (s.completeStart r) := by
  have started : P (s.started r) := by
    refine ite_keeps (moves.raised (State.raiseEvent_touches _ .paramClamped) (State.raiseEvent_stand ..) ?_) ?_
    all_goals exact moves.blocks s r mode hs
  rw [State.completeStart_eq]
  exact ite_keeps (moves.limp _ _ (moves.raised (State.raiseFault_touches _ .config) (State.raiseFault_stand ..) started))
    (moves.sync _ ((s.started_mode r).trans mode) started)

theorem ModeMoves.readSupply (mv : Nat) (r : AbandonedReading) (hs : P s) : P (s.readSupply mv r) := by
  have raised {t : State} (ht : P t) : P (t.raiseFault .supply) :=
    moves.raised (State.raiseFault_touches _ .supply) (t.raiseFault_stand _) ht
  have supplied {t : State} (ht : P t) : P (t.raiseSupply r) := by
    unfold State.raiseSupply
    split
    case h_1 mode => exact moves.callRestart (raised (moves.abandon _ r mode ht))
    case h_5 | h_6 => exact raised ht
    all_goals exact moves.callRestart (raised ht)
  have good {t : State} (ht : P t) : P (t.readGood mv) := by
    refine moves.supervised t _ (State.readGood_onlyChanges ..) (State.readGood_mode ..) ?_ ht
    exact ite_keeps (P := fun u : State => u.sup.limpLine = t.sup.limpLine) rfl rfl
  have read : P (s.setSup (s.sup.readRuns mv s.now)) := moves.supervised s _ (State.setSup_onlyChanges ..) rfl rfl hs
  unfold State.readSupply
  split
  · exact hs
  · exact good read
  · exact good (ite_keeps (supplied read) read)

theorem ModeMoves.goodRun (hs : P s) : P s.goodRun := by
  have ended : P ((s.setSup { s.sup with goodFrom := none }).endCondition .supply) := by
    refine moves.supervised s _ (State.onlyChanges_trans (State.setSup_onlyChanges ..)
      (State.endCondition_onlyChanges ..)) rfl rfl hs
  refine ite_keeps ?_ hs
  split
  case h_1 => exact moves.start _ ended
  case h_2 => exact ended
  all_goals exact hs

/-- Every command that enters a mode keeps such a property. -/
theorem ModeMoves.enters {i : Instr} (enters : entersMode i = true) (hs : P s) : P (i.work s) := by
  have off : P { State.reset with pending := s.pending, now := s.now } := moves.reset s.pending s.now
  have supplied (x : Supervisor) (mode : x.mode = .start) (line : x.limpLine = .notDriven) :
      P { State.reset with pending := s.pending, now := s.now, sup := x } :=
    moves.supervised _ _ (State.setSup_onlyChanges _ x) mode line off
  cases i
  case powerUp => exact ite_keeps (supplied _ rfl rfl) hs
  case powerUpWaitEnd =>
    exact ite_keeps (moves.start _ (moves.supervised s _ (State.setSup_onlyChanges ..) rfl rfl hs)) hs
  case startComplete _ r =>
    change P (if s.sup.power = .on ∧ s.sup.mode = .start then s.completeStart r else s)
    split
    · next started => exact moves.completeStart started.2 r hs
    · exact hs
  case supply mv r => exact moves.readSupply mv r hs
  case supplyGoodRun => exact moves.goodRun hs
  case powerOff => exact off
  all_goals exact absurd enters Bool.false_ne_true

end

/-- The entries, for a property that does not depend on the supervisor at all. -/
structure ModeEntries (P : State → Prop) : Prop where
  reset : ∀ (queue : List Instr) (now : Micros), P { State.reset with pending := queue, now := now }
  start : ∀ s : State, P s → P s.enterStart
  abandon : ∀ (s : State) (r : AbandonedReading), P s → P (s.abandonStart r)
  blocks : ∀ (s : State) (r : StartReading), P s → P (s.startBlocks r)
  sync : ∀ s : State, P s → P s.enterSync
  restart : ∀ s : State, P s → P s.enterRestart
  limp : ∀ (s : State) (cause : Int), P s → P (s.enterLimp cause)

/-- A property of blocks other than the supervisor, which the entries to the modes and settling keep, is kept by every
command that touches none of its blocks otherwise. -/
theorem ModeEntries.work {P : State → Prop} {blocks : List Block} (entries : ModeEntries P) (rests : restsOn P blocks)
    (apart : Block.sup ∉ blocks) (settle : ∀ s, P s → P s.settle) {i : Instr}
    (untouched : entersMode i = true ∨ ∀ b ∈ blocks, b ∉ i.settles ∧ b ∉ i.plain) {s : State} (hs : P s) :
    P (i.work s) := by
  have moves : ModeMoves P :=
    { reset := entries.reset, start := entries.start, abandon := fun s r _ => entries.abandon s r,
      blocks := fun s r _ => entries.blocks s r, sync := fun s _ => entries.sync s, restart := entries.restart,
      limp := entries.limp
      supervised := fun s t changed _ _ hs => rests.keeps changed (fun b hb => by
        rintro k
        obtain rfl := List.mem_singleton.mp k
        exact apart hb) hs }
  rcases untouched with enters | untouched
  · exact moves.enters enters hs
  · exact rests.work settle untouched hs

end Sys2Proof.Machine
end

section
/-! PROOFS. Valve channels (R135, R136): O58. -/

namespace Sys2Proof.Machine

/-! ## Faults and consequences in the levelling block -/

/-- The levelling block after a consequence: a corner excluded, the reservoir latched, or nothing. -/
theorem State.applyConsequence_air_cases (s : State) (c : FaultCode) :
    (∃ side, (s.applyConsequence c).air = s.air.exclude side) ∨ (s.applyConsequence c).air = s.air.latchReservoir
    ∨ (s.applyConsequence c).air = s.air := by
  cases c
  case heightSensorL => exact .inl ⟨.left, rfl⟩
  case heightSensorR => exact .inl ⟨.right, rfl⟩
  case reservoirSensor => exact .inr (.inl rfl)
  all_goals exact .inr (.inr rfl)

/-- A raised fault leaves the levelling block to its consequence. -/
theorem State.raiseFault_air_cases (s : State) (c : FaultCode) :
    (s.raiseFault c).air = (s.applyConsequence c).air ∨ (s.raiseFault c).air = s.air := by
  unfold State.raiseFault
  dsimp only
  split_ifs
  · exact .inr rfl
  · exact .inr rfl
  · exact .inr rfl
  · exact .inr rfl
  · exact .inl (by cases c <;> rfl)

/-- A property of the levelling block that every consequence keeps is kept where a fault is raised or followed, where
the window closes, and where the supervisor settles. -/
structure AirProperty (P : Levelling → Prop) : Prop where
  exclude : ∀ a side, P a → P (a.exclude side)
  latch : ∀ a, P a → P a.latchReservoir

section
variable {P : Levelling → Prop} (kept : AirProperty P) {s : State}
include kept

theorem AirProperty.applyConsequence (c : FaultCode) (h : P s.air) : P (s.applyConsequence c).air := by
  rcases s.applyConsequence_air_cases c with ⟨side, e⟩ | e | e <;> rw [e]
  · exact kept.exclude _ side h
  · exact kept.latch _ h
  · exact h

theorem AirProperty.raiseFault (c : FaultCode) (h : P s.air) : P (s.raiseFault c).air := by
  rcases s.raiseFault_air_cases c with e | e <;> rw [e]
  · exact kept.applyConsequence c h
  · exact h

theorem AirProperty.raiseEvent (c : FaultCode) (h : P s.air) : P (s.raiseEvent c).air := by
  unfold State.raiseEvent
  rw [State.endCondition_air]
  exact kept.raiseFault c h

theorem AirProperty.follow (c : FaultCode) (present : Bool) (h : P s.air) : P (s.follow c present).air := by
  rcases s.follow_cases c present with ⟨-, -, e⟩ | ⟨-, -, e⟩ | ⟨-, e⟩ <;> rw [e]
  · exact h
  · exact kept.raiseFault c h
  · exact h

theorem AirProperty.applyAll (cs : List FaultCode) : ∀ {s : State}, P s.air → P (s.applyAll cs).air := by
  induction cs with
  | nil => exact id
  | cons c rest ih => exact fun h => ih (kept.applyConsequence c h)

theorem AirProperty.closeWindow (h : P s.air) : P s.closeWindow.air := kept.applyAll _ h

theorem AirProperty.settle (h : P s.air) : P s.settle.air := by
  rw [State.settle_air]
  rcases s.closeIfIdle_cases with ⟨-, -, e⟩ | ⟨-, e⟩ <;> rw [e]
  · exact kept.closeWindow h
  · exact h

end

/-! ## One channel (R135 to R148) -/

/-- Both channels of a levelling block are sound under its air status. -/
def Levelling.sound (a : Levelling) : Prop := a.channelL.sound a.air ∧ a.channelR.sound a.air

theorem State.airSound_iff (s : State) : s.airSound ↔ s.air.sound := Iff.rfl

section
variable {c : Channel} {x : AirStatus}

theorem Channel.sound_of_closed (closed : c.valveOpen = false) (fills : x = .protect → c.state ≠ .filling) : c.sound x :=
  ⟨fun h => absurd h (by simp [closed]), fills⟩

theorem Channel.close_sound (h : c.sound x) : c.close.sound x := Channel.sound_of_closed rfl h.2

/-- A channel that no longer fills under PROTECT is sound under every status. -/
theorem Channel.sound_of_not_filling (h : c.sound x) (n : c.state ≠ .filling) (y : AirStatus) : c.sound y :=
  ⟨h.1, fun _ => n⟩

theorem Channel.resume_sound (h : c.sound x) {y : AirStatus} (hy : y ≠ .protect) : c.resume.sound y := by
  unfold Channel.resume
  split
  · next k =>
    refine Channel.sound_of_closed ?_ fun e => absurd e hy
    by_contra n
    have running := h.1 (by simpa using n)
    simp [k] at running
  · exact ⟨h.1, fun e => absurd e hy⟩

theorem Channel.endPulse_sound (h : c.sound x) : c.endPulse.sound x := by
  unfold Channel.endPulse
  split
  · exact c.stop_sound x
  · exact Channel.sound_of_closed rfl h.2

/-- A run that goes on may open or close its valve. -/
theorem Channel.gateBy_sound (h : c.sound x) (running : c.state = .filling ∨ c.state = .exhausting) (held : Bool) :
    (c.gateBy held).sound x := ⟨fun _ => running, h.2⟩

theorem Channel.nextPulse_sound (h : c.sound x) (running : c.state = .filling ∨ c.state = .exhausting) (p : Params)
    (e : Int) (now : Micros) : (c.nextPulse p e now).sound x := by
  unfold Channel.nextPulse
  split
  · exact c.stop_sound x
  · exact ⟨fun _ => running, h.2⟩

theorem runningState_running (d : FlowDirection) : runningState d = .filling ∨ runningState d = .exhausting := by
  cases d <;> simp [runningState]

theorem runningState_filling {d : FlowDirection} (h : runningState d = .filling) : d = .fill := by
  cases d <;> simp_all [runningState]

/-- A pulsed run starts in the direction of its error, and to fill only outside PROTECT. -/
theorem Channel.startPulsed_sound (p : Params) (e : Int) (now : Micros) (h : 0 < e → x ≠ .protect) :
    (c.startPulsed p e now).sound x := by
  refine ⟨fun _ => runningState_running _, fun protect fills => ?_⟩
  have up : flowOf e = .fill := runningState_filling fills
  refine h ?_ protect
  by_contra n
  simp [flowOf, n] at up

end

theorem State.pulsedChannel_sound {s : State} {ch : Channel} (p : Params) (c : Corner) (h : ch.sound s.air.air) :
    (s.pulsedChannel p c ch).sound s.air.air := by
  unfold State.pulsedChannel
  split
  · split
    · exact ch.stop_sound _
    · exact h
  split
  · exact h
  split
  · split_ifs with may
    · refine Channel.startPulsed_sound p _ _ fun up => ?_
      have not_down : ¬c.error < 0 := by omega
      simp only [State.mayPulse, not_down, decide_false, Bool.false_or, Bool.and_eq_true, bne_iff_ne] at may
      exact may.2.1
    · exact h
  · next k => exact Channel.nextPulse_sound h (.inl k) p _ _
  · next k => exact Channel.nextPulse_sound h (.inr k) p _ _
  · exact h

theorem Levelling.startContinuous_sound (a : Levelling) (kerb : Bool) (c : Corner) (ch : Channel) :
    (a.startContinuous kerb c ch).sound a.air := by
  unfold Levelling.startContinuous
  dsimp only
  split_ifs with k
  · exact Channel.sound_of_closed rfl fun _ => by simp
  · exact ⟨fun _ => runningState_running _, fun protect fills => k ⟨runningState_filling fills, protect⟩⟩

theorem Levelling.continuousChannel_sound {a : Levelling} {ch : Channel} (kerb : Bool) (c : Corner)
    (h : ch.sound a.air) : (a.continuousChannel kerb c ch).sound a.air := by
  unfold Levelling.continuousChannel
  split
  · exact h
  split
  · split_ifs
    · exact a.startContinuous_sound kerb c ch
    · exact h
  · next k =>
    split_ifs
    · exact ch.stop_sound _
    · exact ch.stop_sound _
    · exact Channel.gateBy_sound h (.inl k) _
  · next k =>
    split_ifs
    · exact ch.stop_sound _
    · exact ch.stop_sound _
    · exact Channel.gateBy_sound h (.inr k) _
  · split_ifs
    · exact ch.stop_sound _
    · exact h

/-! ## The levelling block -/

theorem Levelling.setCorner_sound {a : Levelling} (h : a.sound) (side : Side) (c : Corner) : (a.setCorner side c).sound := by
  cases side <;> exact h

theorem Levelling.setChannel_sound {a : Levelling} (h : a.sound) (side : Side) {c : Channel} (hc : c.sound a.air) :
    (a.setChannel side c).sound := by
  cases side
  · exact ⟨hc, h.2⟩
  · exact ⟨h.1, hc⟩

theorem Levelling.channel_sound {a : Levelling} (h : a.sound) (side : Side) : (a.channel side).sound a.air := by
  cases side
  · exact h.1
  · exact h.2

theorem Levelling.stopAll_sound (a : Levelling) : a.stopAll.sound := ⟨Channel.stop_sound .., Channel.stop_sound ..⟩

theorem Levelling.suspendFills_sound {a : Levelling} {x : AirStatus} (h : a.channelL.sound x ∧ a.channelR.sound x) :
    a.suspendFills.sound := ⟨Channel.suspend_sound h.1 _, Channel.suspend_sound h.2 _⟩

/-- The channels stay sound through every consequence. -/
theorem Levelling.sound_airProperty : AirProperty Levelling.sound where
  exclude a side h := by
    cases side
    · exact ⟨Channel.stop_sound .., h.2⟩
    · exact ⟨h.1, Channel.stop_sound ..⟩
  latch _ h := Levelling.suspendFills_sound h

theorem Levelling.setAirStatus_sound {a : Levelling} (h : a.sound) (x : AirStatus) : (a.setAirStatus x).sound := by
  have resumed {y : AirStatus} (hy : y ≠ .protect) : Levelling.sound
      (if a.air = .protect then { a with air := y, channelL := a.channelL.resume, channelR := a.channelR.resume }
        else { a with air := y }) := by
    split_ifs
    · exact ⟨Channel.resume_sound h.1 hy, Channel.resume_sound h.2 hy⟩
    · exact ⟨⟨h.1.1, fun e => absurd e hy⟩, ⟨h.2.1, fun e => absurd e hy⟩⟩
  cases x
  · exact resumed (by decide)
  · exact resumed (by decide)
  · exact Levelling.suspendFills_sound h

theorem State.readHeight_airSound {s : State} (h : s.air.sound) (side : Side) (ran : Bool) (input : AnalogIn) :
    (s.readHeight side ran input).air.sound := by
  have cornered := Levelling.setCorner_sound h side ((s.air.corner side).readHeight ran input)
  refine Levelling.sound_airProperty.follow _ _ ?_
  rw [State.setAir_air]
  split
  · exact Levelling.setChannel_sound cornered side (Channel.stop_sound ..)
  · exact cornered

theorem State.readReservoir_airSound {s : State} (h : s.air.sound) (input : AnalogIn) :
    (s.readReservoir input).air.sound := by
  unfold State.readReservoir
  split <;> exact Levelling.sound_airProperty.follow _ _ h

theorem State.readLevel_airSound {s : State} (h : s.air.sound) (inputs : LevelInputs) : (s.readLevel inputs).air.sound :=
  Levelling.sound_airProperty.follow _ _
    (State.readHeight_airSound (State.readHeight_airSound (State.readReservoir_airSound h _) ..) ..)

theorem State.airWork_airSound {s : State} (h : s.air.sound) (p : Params) : (s.airWork p).air.sound := by
  unfold State.airWork
  split_ifs
  · exact h
  · exact Levelling.setAirStatus_sound h _

theorem State.loadWork_airSound {s : State} (h : s.air.sound) (p : Params) : (s.loadWork p).air.sound := by
  unfold State.loadWork
  split_ifs <;> exact h

theorem State.countLevel_airSound {s : State} (h : s.air.sound) : s.countLevel.air.sound := by
  unfold State.countLevel
  dsimp only
  split_ifs
  · exact Levelling.sound_airProperty.raiseFault _ h
  · exact h

theorem State.leaveReturning_air (s : State) (before : LevelState) : (s.leaveReturning before).air = s.air := by
  unfold State.leaveReturning
  split_ifs <;> rfl

theorem State.levelWork_airSound {s : State} (h : s.air.sound) (p : Params) : (s.levelWork p).air.sound := by
  have moved (x : LevelState) : ((s.countLevel.setAir (s.countLevel.air.toLevel p x)).leaveReturning
      s.countLevel.air.level).air.sound := by
    rw [State.leaveReturning_air]
    exact s.countLevel.air.stopAll_sound
  unfold State.levelWork
  dsimp only
  split_ifs
  · exact State.countLevel_airSound h
  · exact Levelling.sound_airProperty.raiseEvent _ (moved _)
  · exact moved _

theorem State.gateWork_airSound {s : State} (h : s.air.sound) (p : Params) : (s.gateWork p).air.sound := by
  unfold State.gateWork
  split <;> exact h

theorem State.channelWork_airSound {s : State} (h : s.air.sound) (p : Params) : (s.channelWork p).air.sound := by
  unfold State.channelWork
  dsimp only
  cases s.air.level
  case level | raised => exact ⟨State.pulsedChannel_sound p _ h.1, State.pulsedChannel_sound p _ h.2⟩
  case kneeled | kneelHeld => exact h
  all_goals exact ⟨Levelling.continuousChannel_sound _ _ h.1, Levelling.continuousChannel_sound _ _ h.2⟩

theorem State.levellingWork_airSound {s : State} (h : s.air.sound) (inputs : LevelInputs) (p : Params) :
    (s.levellingWork inputs p).air.sound := by
  have weighed := State.loadWork_airSound (State.airWork_airSound (State.readLevel_airSound h inputs) p) p
  unfold State.levellingWork
  dsimp only
  split_ifs
  · unfold State.levelInLimp
    dsimp only
    rw [State.leaveReturning_air]
    exact weighed
  · exact State.channelWork_airSound (State.gateWork_airSound (State.levelWork_airSound weighed p) p) p

theorem State.levelExpiry_airSound {s : State} (h : s.air.sound) (inputs : LevelInputs) :
    (s.levelExpiry inputs).airSound :=
  ite_keeps (Levelling.sound_airProperty.settle
    (State.withCopy_keeps (P := State.airSound) h fun p => State.levellingWork_airSound h inputs p)) h

/-! ## Entries to the modes -/

theorem State.safeOutputs_airSound {s : State} (h : s.air.sound) (limp : Bool) : (s.safeOutputs limp).air.sound :=
  ⟨Channel.close_sound h.1, Channel.close_sound h.2⟩

theorem State.enterLimp_air (s : State) (cause : Int) :
    (s.enterLimp cause).air = ((s.safeOutputs true).closeWindow).air.toLimp := by
  unfold State.enterLimp
  dsimp only
  rw [State.queueAlert_air]
  split_ifs <;> simp [State.limpBlocks, State.startLink]

theorem State.enterLimp_airSound (s : State) (cause : Int) : (s.enterLimp cause).air.sound := by
  rw [State.enterLimp_air]
  exact Levelling.stopAll_sound _

theorem Levelling.initial_sound : Levelling.initial.sound := by
  constructor <;> exact Channel.sound_of_closed rfl fun _ => by decide

theorem Levelling.afterStart_sound (p : Params) (r : StartReading) : (Levelling.afterStart p r).sound :=
  Levelling.initial_sound

theorem State.airSound_modeEntries : ModeEntries State.airSound where
  reset _ _ := Levelling.initial_sound
  start _ _ := Levelling.initial_sound
  abandon _ _ _ := Levelling.initial_sound
  blocks s r _ := by
    rcases s.startBlocks_cases r with ⟨p, -, e⟩ | ⟨-, e⟩ <;> rw [e]
    · exact Levelling.afterStart_sound p r
    · exact Levelling.initial_sound
  sync _ h := h
  restart s _ := Levelling.stopAll_sound _
  limp s cause _ := s.enterLimp_airSound cause

theorem State.airSound_restsOn : restsOn State.airSound [.air] := by
  intro s t same h
  have e : t.air = s.air := same .air (by decide)
  unfold State.airSound
  rw [e]
  exact h

/-- The channels stay sound through every command. -/
theorem Instr.work_airSound (i : Instr) (s : State) (h : s.airSound) : (i.work s).airSound := by
  have settled (t : State) (ht : t.airSound) : t.settle.airSound := Levelling.sound_airProperty.settle ht
  cases i
  case deferralWindowTimeout => exact ite_keeps (settled _ (Levelling.sound_airProperty.closeWindow h)) h
  case levellingExpiry inputs => exact State.levelExpiry_airSound h inputs
  case heightStuck | kneelTimeout | raiseTimeout => exact ite_keeps (State.levelExpiry_airSound h _) h
  case pulseEnd side =>
    exact ite_keeps (Levelling.setChannel_sound h side (Channel.endPulse_sound (Levelling.channel_sound h side))) h
  case continuousStopReached side _ =>
    exact ite_keeps (Levelling.setChannel_sound h side (Channel.stop_sound ..)) h
  case twistGateReached =>
    refine State.withCopy_keeps h fun p => ite_keeps (Levelling.setChannel_sound h _ ?_) h
    exact Channel.sound_of_closed rfl (Levelling.channel_sound h _).2
  all_goals
    exact State.airSound_modeEntries.work State.airSound_restsOn (by decide) settled
      (by simp [entersMode, Instr.settles, Instr.plain]) h

/-- Settles O58. -/
theorem stepsKeepValvesSound : Obligations.steps_keep_valves_sound :=
  fun _ _ => step_keeps State.airSound_restsOn Instr.work_airSound

end Sys2Proof.Machine
end

section
/-! PROOFS. The track memory (R67 to R73): O56. -/

namespace Sys2Proof.Machine

/-! ## Entries -/

theorem gapsIn_append (es : List TrackEntry) (e : TrackEntry) : gapsIn (es ++ [e]) = gapsIn es + if e.gap then 1 else 0 := by
  unfold gapsIn
  cases h : e.gap <;> simp [h]

theorem gapsIn_cons (e : TrackEntry) (es : List TrackEntry) : gapsIn (e :: es) = gapsIn es + if e.gap then 1 else 0 := by
  unfold gapsIn
  cases h : e.gap <;> simp [h]

/-- Retirement removes entries at the oldest end only (R73). -/
theorem retire_suffix (mid : Nat) (es : List TrackEntry) : retire mid es <:+ es := by
  fun_induction retire mid es with
  | case1 => exact List.suffix_rfl
  | case2 => exact List.suffix_rfl
  | case3 e f rest _ ih => exact ih.trans (List.suffix_cons ..)
  | case4 => exact List.suffix_rfl

theorem gapsIn_le_of_sublist {es fs : List TrackEntry} (h : es.Sublist fs) : gapsIn es ≤ gapsIn fs :=
  (h.filter _).length_le

/-! ## The memory -/

section
variable {t : TrackMemory} (h : t.sound)
include h

/-- The newest entry's mark is the largest. -/
theorem TrackMemory.sound.le_newest {e : TrackEntry} (newest : t.newest = some e) : ∀ f ∈ t.entries, f.mark ≤ e.mark := by
  have split : t.entries.dropLast ++ [e] = t.entries := List.dropLast_append_getLast? e newest
  have rising := h.rising
  rw [← split, List.pairwise_append] at rising
  intro f hf
  rw [← split] at hf
  rcases List.mem_append.mp hf with hf | hf
  · exact Nat.le_of_lt (rising.2.2 f hf e (by simp))
  · simp_all

/-- A sample that is not stale lies above every entry. -/
theorem TrackMemory.sound.lt_of_fresh {p : PathSample} (fresh : t.isStale p = false) : ∀ f ∈ t.entries, f.mark < p.mark := by
  intro f hf
  unfold TrackMemory.isStale at fresh
  split at fresh
  · next e newest =>
    have le := h.le_newest newest f hf
    simp only [decide_eq_false_iff_not] at fresh
    omega
  · next none =>
    have empty : t.entries = [] := by simpa [TrackMemory.newest] using none
    simp [empty] at hf

theorem TrackMemory.sound.append {e : TrackEntry} (room : t.entries.length < 128) (above : ∀ f ∈ t.entries, f.mark < e.mark) :
    (t.append e).sound where
  room := by simp [TrackMemory.append, Config.trackCapacity]; omega
  rising := by simpa [TrackMemory.append, List.pairwise_append, h.rising] using above
  gaps := by
    simp only [TrackMemory.append, gapsIn_append, h.gaps]
    split <;> rfl

theorem TrackMemory.sound.dropOldest : t.dropOldest.sound := by
  obtain ⟨room, rising, gaps⟩ := h
  unfold TrackMemory.dropOldest
  split
  · exact ⟨room, rising, gaps⟩
  · next e rest entries =>
    rw [entries] at room rising gaps
    refine ⟨Nat.le_of_succ_le room, (List.pairwise_cons.mp rising).2, ?_⟩
    rw [gapsIn_cons] at gaps
    simp only [gaps]
    split <;> simp

theorem TrackMemory.sound.countStale : t.countStale.sound := ⟨h.room, h.rising, h.gaps⟩

end

theorem TrackMemory.dropOldest_entries (t : TrackMemory) : t.dropOldest.entries = t.entries.tail := by
  unfold TrackMemory.dropOldest
  split <;> simp [*]

theorem TrackMemory.cleared_sound (t : TrackMemory) : t.cleared.sound := ⟨Nat.zero_le _, List.Pairwise.nil, rfl⟩

theorem TrackMemory.initial_sound : TrackMemory.initial.sound := ⟨Nat.zero_le _, List.Pairwise.nil, rfl⟩

/-! ## Admission and retirement -/

section
variable {s : State} (h : s.track.sound)
include h

theorem State.admitSample_trackSound {p : PathSample} (fresh : s.track.isStale p = false) :
    (s.admitSample p).track.sound := by
  have above := h.lt_of_fresh fresh
  unfold State.admitSample
  dsimp only
  split
  · rw [State.raiseEvent_track]
    refine h.dropOldest.append ?_ fun f hf => above f ?_
    · have := h.room
      simp only [TrackMemory.dropOldest_entries, List.length_tail, Config.trackCapacity] at *
      omega
    · rw [TrackMemory.dropOldest_entries] at hf
      exact List.mem_of_mem_tail hf
  · next room =>
    have appended := h.append (e := ⟨p.mark, p.curvature, s.track.gapBefore p⟩) (Nat.lt_of_not_le room) above
    unfold State.checkHighWater
    split
    · rw [State.raiseFault_track]
      exact ⟨appended.room, appended.rising, appended.gaps⟩
    · exact appended

theorem State.offerSample_trackSound (p : PathSample) : (s.offerSample p).trackSound := by
  unfold State.offerSample
  refine ite_keeps h.countStale (ite_keeps ?_ ?_)
  · have first : s.clearTrack.track.sound := by
      unfold State.clearTrack
      rw [State.endCondition_track]
      exact s.track.cleared_sound
    refine first.append ?_ ?_
    all_goals simp [State.clearTrack, TrackMemory.cleared]
  · cases fresh : s.track.isStale p
    · exact State.admitSample_trackSound h fresh
    · exact h.countStale

theorem State.retireEntries_trackSound (p : Params) : (s.retireEntries p).track.sound := by
  have kept := retire_suffix (s.odo.mark + midOffset p) s.track.entries
  have retired : (s.setTrack { s.track with
      entries := retire (s.odo.mark + midOffset p) s.track.entries
      gapCount := s.track.gapCount
        - (gapsIn s.track.entries - gapsIn (retire (s.odo.mark + midOffset p) s.track.entries)) }).trackSound := by
    refine ⟨kept.length_le.trans h.room, h.rising.sublist kept.sublist, ?_⟩
    have := gapsIn_le_of_sublist kept.sublist
    have := h.gaps
    simp only [State.setTrack_track]
    omega
  unfold State.retireEntries
  refine ite_keeps (P := State.trackSound) (ite_keeps ?_ retired) h
  refine ite_keeps (P := State.trackSound) ?_ retired
  unfold State.trackSound
  rw [State.endCondition_track]
  exact ⟨retired.room, retired.rising, retired.gaps⟩

theorem State.trackExpiry_trackSound : s.trackExpiry.trackSound := by
  refine ite_keeps (State.withCopy_keeps (P := State.trackSound) h fun p => ?_) h
  have retired := State.retireEntries_trackSound h p
  unfold State.trackSound State.trackWork
  rw [State.follow_track]
  exact ⟨retired.room, retired.rising, retired.gaps⟩

end

theorem State.clearTrack_track (s : State) : s.clearTrack.track = s.track.cleared := by
  unfold State.clearTrack
  rw [State.endCondition_track, State.setTrack_track]

theorem State.trackSound_restsOn : restsOn State.trackSound [.track] := by
  intro s t same h
  have e : t.track = s.track := same .track (by decide)
  unfold State.trackSound
  rw [e]
  exact h

theorem State.enterLimp_track (s : State) (cause : Int) : (s.enterLimp cause).track = s.track.cleared := by
  unfold State.enterLimp
  dsimp only
  rw [State.queueAlert_track]
  split_ifs <;> simp [State.limpBlocks, State.startLink, State.clearTrack_track, State.safeOutputs]

theorem State.trackSound_modeEntries : ModeEntries State.trackSound where
  reset _ _ := TrackMemory.initial_sound
  start _ _ := TrackMemory.initial_sound
  abandon _ _ _ := TrackMemory.initial_sound
  blocks s r _ := by rcases s.startBlocks_cases r with ⟨p, -, e⟩ | ⟨-, e⟩ <;> rw [e] <;> exact TrackMemory.initial_sound
  sync _ h := h
  restart _ h := h
  limp s cause _ := by
    unfold State.trackSound
    rw [State.enterLimp_track]
    exact TrackMemory.cleared_sound _

/-- In the speed block only a change into REVERSE touches the track memory, and clears it (R71). -/
theorem State.odometryWork_trackSound {s : State} (h : s.trackSound) (p : Params) : (s.odometryWork p).trackSound := by
  have rests {t u : State} {blocks : List Block} (ht : t.trackSound) (k : t.onlyChanges blocks u)
      (apart : Block.track ∉ blocks) : u.trackSound := State.trackSound_restsOn.keeps k (by simpa using apart) ht
  have sourced : (s.wheelWork p).speedWork.sourceWork.trackSound :=
    rests (rests (rests h (s.wheelWork_onlyChanges p) (by decide)) (State.speedWork_onlyChanges _) (by decide))
      (State.sourceWork_onlyChanges _) (by decide)
  have turned : (s.wheelWork p).speedWork.sourceWork.directionWork.trackSound := by
    refine ite_keeps ?_ sourced
    unfold State.trackSound
    rw [State.clearTrack_track]
    exact TrackMemory.cleared_sound _
  exact rests (rests (rests turned (State.distanceWork_onlyChanges p _) (by decide))
    (State.adoptionWork_onlyChanges p _) (by decide)) (State.standstillWork_onlyChanges _) (by decide)

theorem State.settle_trackSound {s : State} (h : s.trackSound) : s.settle.trackSound :=
  State.trackSound_restsOn.keeps s.settle_onlyChanges (by decide) h

theorem State.speedExpiry_trackSound {s : State} (h : s.trackSound) : s.speedExpiry.trackSound :=
  ite_keeps (State.settle_trackSound (State.withCopy_keeps h fun p => State.odometryWork_trackSound h p)) h

theorem State.received_keeps {P : State → Prop} {s : State} {handle : State → State} (sender : Nat) (h : P s)
    (handled : P (handle s)) (met : P s.meetUnexpected) : P (s.received sender handle) := by
  unfold State.received
  split
  · exact handled
  · exact met
  · exact h
  · exact h

theorem State.takePath_trackSound {s : State} (h : s.trackSound) (sender : Nat) (p : Payload) :
    (s.takePath sender p).trackSound := by
  refine ite_keeps ?_ h
  split
  · exact State.offerSample_trackSound h _
  · exact h

/-- The track memory stays sound through every command. -/
theorem Instr.work_trackSound (i : Instr) (s : State) (h : s.trackSound) : (i.work s).trackSound := by
  cases i
  case pathFrameReceived k p =>
    exact State.received_keeps (handle := fun u => u.takePath k.toNat p) _ h (State.takePath_trackSound h ..)
      (State.trackSound_restsOn.keeps s.meetUnexpected_onlyChanges (by decide) h)
  case speedOdometryExpiry => exact State.speedExpiry_trackSound h
  case wheelZeroSpeedTimeout | wheelPlausibilityFail | standstillSet | cabMarkAdoption | rearAdoptionTimeout =>
    exact ite_keeps (State.speedExpiry_trackSound h) h
  case trackMemoryExpiry => exact State.trackExpiry_trackSound h
  case trackStarved => exact ite_keeps (State.trackExpiry_trackSound h) h
  all_goals
    exact State.trackSound_modeEntries.work State.trackSound_restsOn (by decide) (fun _ => State.settle_trackSound)
      (by simp [entersMode, Instr.settles, Instr.plain]) h

/-- Settles O56. -/
theorem stepsKeepTrackSound : Obligations.steps_keep_track_sound :=
  fun _ _ => step_keeps State.trackSound_restsOn Instr.work_trackSound

end Sys2Proof.Machine
end

section
/-! PROOFS. The transmit queue (R11 to R20): O54. -/

namespace Sys2Proof.Machine

/-! ## Slots and classes -/

theorem identifierOf_div (frameClass : Nat) {station : Nat} (h : station < 8) :
    identifierOf frameClass station / 8 = frameClass := by unfold identifierOf; omega

theorem ofClass_nil (c : Nat) : ofClass c [] := by simp [ofClass]

theorem ofClass_singleton {c : Nat} {q : Queued} : ofClass c [q] ↔ q.frame.identifier / 8 = c := by simp [ofClass]

theorem ofClass_append {c : Nat} {qs rs : List Queued} (h : ofClass c qs) (k : ofClass c rs) : ofClass c (qs ++ rs) :=
  fun q hq => (List.mem_append.mp hq).elim (h q) (k q)

theorem ofClass_of_subset {c : Nat} {qs rs : List Queued} (h : ofClass c rs) (sub : qs ⊆ rs) : ofClass c qs :=
  fun q hq => h q (sub hq)

theorem Option.toList_filter_subset {o : Option Queued} (f : Queued → Bool) : (o.filter f).toList ⊆ o.toList := by
  cases o with
  | none => simp
  | some q => cases h : f q <;> simp [Option.filter, h]

theorem Link.initial_sound : Link.initial.sound :=
  ⟨Nat.zero_le _, Nat.zero_le _, Nat.zero_le _, ofClass_nil _, ofClass_nil _, ofClass_nil _, ofClass_nil _, ofClass_nil _⟩

/-- An engine with the same slots, and an error count within its bound. -/
theorem Link.sound.of_slots {l m : Link} (h : l.sound) (alerts : m.alerts = l.alerts) (driver : m.driver = l.driver)
    (paths : m.paths = l.paths) (frame : m.stateFrame = l.stateFrame) (answer : m.answer = l.answer)
    (errors : m.errors ≤ 32) : m.sound where
  alerts := alerts ▸ h.alerts
  paths := paths ▸ h.paths
  errors := errors
  classAlerts := alerts ▸ h.classAlerts
  classDriver := driver ▸ h.classDriver
  classPaths := paths ▸ h.classPaths
  classState := frame ▸ h.classState
  classAnswer := answer ▸ h.classAnswer

theorem Link.sound.dequeue {l : Link} (h : l.sound) (ticket : Nat) : (l.dequeue ticket).sound where
  alerts := (List.length_filter_le ..).trans h.alerts
  paths := (List.length_filter_le ..).trans h.paths
  errors := h.errors
  classAlerts := ofClass_of_subset h.classAlerts List.filter_sublist.subset
  classDriver := ofClass_of_subset h.classDriver (Option.toList_filter_subset _)
  classPaths := ofClass_of_subset h.classPaths List.filter_sublist.subset
  classState := ofClass_of_subset h.classState (Option.toList_filter_subset _)
  classAnswer := ofClass_of_subset h.classAnswer (Option.toList_filter_subset _)

theorem State.linkSound_restsOn : restsOn State.linkSound [.loader, .link] := by
  intro s t same h
  have loader : t.loader = s.loader := same .loader (by decide)
  have link : t.link = s.link := same .link (by decide)
  unfold State.linkSound State.station
  rw [loader, link]
  exact h

/-! ## Queueing (R15 to R17) -/

section
variable {s : State} (h : s.linkSound)
include h

theorem State.ticketed_class (c : Nat) (p : Payload) : ofClass c [s.ticketed c p] :=
  ofClass_singleton.mpr (identifierOf_div c h.1)

theorem State.queueAlert_linkSound (k : AlertKind) (slot : Nat) (v : Int) : (s.queueAlert k slot v).linkSound := by
  obtain ⟨station, link⟩ := h
  have own := State.ticketed_class ⟨station, link⟩ 0 (encodeAlert ⟨k, s.station, slot, v⟩)
  unfold State.queueAlert
  dsimp only
  split
  · next room =>
    refine ⟨station, ?_, link.paths, link.errors, ofClass_append link.classAlerts own, link.classDriver, link.classPaths,
      link.classState, link.classAnswer⟩
    simp
    omega
  · next full =>
    refine ⟨station, ?_, link.paths, link.errors,
      ofClass_append (ofClass_of_subset link.classAlerts (List.tail_subset _)) own, link.classDriver, link.classPaths,
      link.classState, link.classAnswer⟩
    have := link.alerts
    simp
    omega

theorem State.queueDriver_linkSound (p : Payload) : (s.queueDriver p).linkSound :=
  ⟨h.1, h.2.alerts, h.2.paths, h.2.errors, h.2.classAlerts, State.ticketed_class h 1 p, h.2.classPaths, h.2.classState,
    h.2.classAnswer⟩

theorem State.queueState_linkSound (p : Payload) : (s.queueState p).linkSound :=
  ⟨h.1, h.2.alerts, h.2.paths, h.2.errors, h.2.classAlerts, h.2.classDriver, h.2.classPaths, State.ticketed_class h 3 p,
    h.2.classAnswer⟩

theorem State.queueAnswer_linkSound (p : Payload) : (s.queueAnswer p).linkSound :=
  ⟨h.1, h.2.alerts, h.2.paths, h.2.errors, h.2.classAlerts, h.2.classDriver, h.2.classPaths, h.2.classState,
    State.ticketed_class h 6 p⟩

theorem State.queuePath_linkSound (x : PathSample) : (s.queuePath x).linkSound := by
  have own := State.ticketed_class h 2 (encodePath x)
  obtain ⟨station, link⟩ := h
  unfold State.queuePath
  split
  · next room =>
    refine ⟨station, link.alerts, ?_, link.errors, link.classAlerts, link.classDriver, ofClass_append link.classPaths own,
      link.classState, link.classAnswer⟩
    simp only [Link.takesPath, decide_eq_true_eq] at room
    simp
    omega
  · exact ⟨station, link.of_slots rfl rfl rfl rfl rfl link.errors⟩

/-! ## The engine (R12 to R20) and reception -/

theorem State.setLink_linkSound {l : Link} (hl : l.sound) : (s.setLink l).linkSound := ⟨h.1, hl⟩

/-- A change of the engine that keeps its slots and its error count. -/
theorem State.linkSound_of_slots {t : State} (loader : t.loader = s.loader) (alerts : t.link.alerts = s.link.alerts)
    (driver : t.link.driver = s.link.driver) (paths : t.link.paths = s.link.paths)
    (frame : t.link.stateFrame = s.link.stateFrame) (answer : t.link.answer = s.link.answer)
    (errors : t.link.errors ≤ 32) : t.linkSound :=
  ⟨by unfold State.station; rw [loader]; exact h.1, h.2.of_slots alerts driver paths frame answer errors⟩

theorem State.keeps_linkSound {t : State} {blocks : List Block} (k : s.onlyChanges blocks t)
    (apart : ∀ b ∈ [Block.loader, .link], b ∉ blocks) : t.linkSound := State.linkSound_restsOn.keeps k apart h

theorem State.settle_linkSound : s.settle.linkSound := State.keeps_linkSound h s.settle_onlyChanges (by decide)

theorem State.meetUnexpected_linkSound : s.meetUnexpected.linkSound := by
  refine ite_keeps h (State.keeps_linkSound ?_ (State.raiseEvent_touches _ .stationUnexpected) (by decide))
  exact State.linkSound_of_slots h rfl rfl rfl rfl rfl rfl h.2.errors

theorem State.completeAttempt_linkSound : s.completeAttempt.linkSound := by
  unfold State.completeAttempt
  split
  · next q _ =>
    exact State.setLink_linkSound h ((h.2.dequeue q.ticket).of_slots rfl rfl rfl rfl rfl
      ((Nat.sub_le ..).trans h.2.errors))
  · exact h

theorem State.destroyAttempt_linkSound : s.destroyAttempt.linkSound := by
  have counted : (s.setLink { s.link with attempt := none, errors := min silentAt (s.link.errors + 1) }).linkSound :=
    State.linkSound_of_slots h rfl rfl rfl rfl rfl rfl (Nat.min_le_left ..)
  unfold State.destroyAttempt
  split
  · refine ite_keeps (State.keeps_linkSound ?_ (State.raiseFault_touches _ .linkSilent) (by decide)) counted
    exact State.linkSound_of_slots counted rfl rfl rfl rfl rfl rfl counted.2.errors
  · exact h

theorem State.endSilent_linkSound : s.endSilent.linkSound := by
  have active : (s.setLink { s.link with state := .active, errors := 0 }).linkSound :=
    State.linkSound_of_slots h rfl rfl rfl rfl rfl rfl (Nat.zero_le _)
  exact ite_keeps (State.keeps_linkSound active (State.endCondition_onlyChanges _ .linkSilent) (by decide)) h

theorem State.serve_linkSound (request : Payload) : (s.serve request).linkSound := by
  have refused (status : AnswerStatus) : (s.answerRefused request status).linkSound := State.queueAnswer_linkSound h _
  have answered (contents : Payload) : (s.answerOk request contents).linkSound := State.queueAnswer_linkSound h _
  have cleared := State.keeps_linkSound h (s.setSup_onlyChanges s.sup.clearPassive) (by decide)
  unfold State.serve
  refine ite_keeps h (ite_keeps (refused _) ?_)
  split
  · next k _ =>
    cases k
    · exact answered _
    · exact ite_keeps (refused _) (answered _)
    · exact ite_keeps (State.queueAnswer_linkSound cleared _) (refused _)
    · exact ite_keeps (refused _) (answered _)
    · exact answered _
  · exact refused _

theorem State.takeService_linkSound (sender : Nat) (request : Payload) : (s.takeService sender request).linkSound := by
  unfold State.takeService
  split
  · exact State.serve_linkSound h request
  · exact State.meetUnexpected_linkSound h
  · exact h
  · exact h

/-! ## Blocks that send frames -/

theorem State.emitState_linkSound : s.emitState.linkSound := by
  have queued := State.queueState_linkSound h (encodeState s.assembleState)
  exact ite_keeps (State.linkSound_of_slots queued rfl rfl rfl rfl rfl rfl queued.2.errors) h

theorem State.emitDriver_linkSound (lines : DriverLines) : (s.emitDriver lines).linkSound := by
  have tested (present : Bool) : (s.follow .pedalInput present).linkSound :=
    State.keeps_linkSound h (s.follow_touches .pedalInput present) (by decide)
  refine ite_keeps (State.settle_linkSound ?_) h
  unfold State.driverWork
  split
  · exact ite_keeps (State.keeps_linkSound (State.queueDriver_linkSound (tested _) _)
      (State.newDriver_onlyChanges ..) (by decide)) (tested _)
  · exact tested _

theorem State.emitSample_linkSound (x : PathSample) (b g : Bool) : (s.emitSample x b g).linkSound := by
  have queued := State.queuePath_linkSound h x
  exact ite_keeps (State.keeps_linkSound queued (State.setPath_onlyChanges ..) (by decide))
    (State.keeps_linkSound queued (State.setPath_onlyChanges ..) (by decide))

theorem State.gridSample_linkSound (next : Nat) : (s.gridSample next).linkSound :=
  State.keeps_linkSound (State.emitSample_linkSound h ..) (State.setPath_onlyChanges ..) (by decide)

end

theorem State.gridSamples_linkSound (fuel : Nat) : ∀ {s : State}, s.linkSound → (s.gridSamples fuel).linkSound := by
  induction fuel with
  | zero => exact fun h => h
  | succ fuel ih =>
    intro s h
    unfold State.gridSamples
    split
    · exact ite_keeps (ih (State.gridSample_linkSound h _)) h
    · exact h

section
variable {s : State} (h : s.linkSound)
include h

theorem State.emitSamples_linkSound : s.emitSamples.linkSound := by
  unfold State.emitSamples
  refine ite_keeps (ite_keeps h ?_) (State.keeps_linkSound h (State.setPath_onlyChanges ..) (by decide))
  split
  · exact State.keeps_linkSound (State.emitSample_linkSound h ..) (State.setPath_onlyChanges ..) (by decide)
  · exact State.gridSamples_linkSound _ h

theorem State.pathExpiry_linkSound (front : AnalogIn) : (s.pathExpiry front).linkSound :=
  ite_keeps (State.settle_linkSound (State.withCopy_keeps h fun p =>
    State.emitSamples_linkSound (State.keeps_linkSound h (s.readFront_onlyChanges p front) (by decide)))) h

theorem State.speedExpiry_linkSound : s.speedExpiry.linkSound := by
  refine ite_keeps (State.settle_linkSound (State.withCopy_keeps h fun p => ?_)) h
  have moved := State.keeps_linkSound (State.keeps_linkSound (State.keeps_linkSound (State.keeps_linkSound
    (State.keeps_linkSound (State.keeps_linkSound h (s.wheelWork_onlyChanges p) (by decide))
    (State.speedWork_onlyChanges _) (by decide)) (State.sourceWork_onlyChanges _) (by decide))
    (State.directionWork_onlyChanges _) (by decide)) (State.distanceWork_onlyChanges p _) (by decide))
    (State.adoptionWork_onlyChanges p _) (by decide)
  have judged (x : Odometry) := State.keeps_linkSound moved (State.setOdo_onlyChanges _ x) (by decide)
  exact ite_keeps (State.queueAlert_linkSound (judged _) ..) (judged _)

theorem State.alertWork_linkSound (p : Params) : (s.alertWork p).linkSound := by
  have run (x : JointMonitor) := State.keeps_linkSound h (s.setJoint_onlyChanges x) (by decide)
  exact ite_keeps h (ite_keeps (ite_keeps (run _) (run _))
    (ite_keeps (State.queueAlert_linkSound (run _) ..) (run _)))

theorem State.jointExpiry_linkSound (joint : AnalogIn) : (s.jointExpiry joint).linkSound := by
  refine ite_keeps (State.settle_linkSound (State.withCopy_keeps h fun p => ?_)) h
  have read := State.keeps_linkSound h (s.readJoint_onlyChanges joint) (by decide)
  exact ite_keeps read (State.keeps_linkSound (State.keeps_linkSound (State.alertWork_linkSound
    (State.keeps_linkSound read (State.compareJoint_onlyChanges _ p) (by decide)) p) (State.damperWork_onlyChanges _)
    (by decide)) (State.foldWork_onlyChanges _) (by decide))

theorem State.doorAlerts_linkSound (slot : Nat) (before after : DoorSlot) : (s.doorAlerts slot before after).linkSound := by
  have first := ite_keeps (c := before.state = .locked ∧ after.state = .unreleasedOpen)
    (State.queueAlert_linkSound h .doorUnreleased slot 0) h
  exact ite_keeps (State.queueAlert_linkSound first ..) first

theorem State.readDoors_linkSound (inputs : DoorInputs) : (s.readDoors inputs).linkSound :=
  State.keeps_linkSound (State.doorAlerts_linkSound (State.doorAlerts_linkSound
    (State.keeps_linkSound h (State.setDoors_onlyChanges ..) (by decide)) ..) ..) (State.doorFault_onlyChanges ..)
    (by decide)

theorem State.doorExpiry_linkSound (inputs : DoorInputs) : (s.doorExpiry inputs).linkSound := by
  refine ite_keeps (State.settle_linkSound (State.withCopy_keeps h fun p => ?_)) h
  refine ite_keeps (State.readDoors_linkSound h inputs) ?_
  have read := State.readDoors_linkSound (State.keeps_linkSound h s.outputDoors_onlyChanges (by decide)) inputs
  exact State.keeps_linkSound (State.keeps_linkSound (State.keeps_linkSound read (State.haltWork_onlyChanges _ p)
    (by decide)) (State.grantWork_onlyChanges _) (by decide)) (State.lineWork_onlyChanges _ p) (by decide)

theorem State.enterLimp_linkSound (cause : Int) : (s.enterLimp cause).linkSound := by
  refine State.queueAlert_linkSound ?_ ..
  have entered : (((s.safeOutputs true).closeWindow.limpBlocks).setSup
      { (s.safeOutputs true).closeWindow.limpBlocks.sup with mode := .limp, runFrom := none, syncFrom := none }).linkSound :=
    State.keeps_linkSound (State.keeps_linkSound (State.keeps_linkSound (State.keeps_linkSound h
      (s.safeOutputs_onlyChanges true) (by decide)) (State.closeWindow_onlyChanges _) (by decide))
      (State.limpBlocks_onlyChanges _) (by decide)) (State.setSup_onlyChanges ..) (by decide)
  exact ite_keeps (State.setLink_linkSound entered (Link.initial_sound.of_slots rfl rfl rfl rfl rfl (Nat.zero_le _)))
    entered

end

theorem State.linkSound_modeEntries : ModeEntries State.linkSound where
  reset _ _ := ⟨Nat.zero_lt_succ 7, Link.initial_sound⟩
  start _ h := ⟨h.1, Link.initial_sound⟩
  abandon s r h := by
    refine ⟨?_, Link.initial_sound⟩
    unfold State.station State.abandonStart
    change (match r.strap with | some x => x.toNat | none => s.loader.strap) < 8
    split
    · exact BitVec.isLt _
    · exact h.1
  blocks s r _ := by
    rcases s.startBlocks_cases r with ⟨p, -, e⟩ | ⟨-, e⟩ <;> rw [e] <;> exact ⟨BitVec.isLt _, Link.initial_sound⟩
  sync _ h := State.setLink_linkSound (State.keeps_linkSound h (State.setSup_onlyChanges ..) (by decide))
    (Link.initial_sound.of_slots rfl rfl rfl rfl rfl (Nat.zero_le _))
  restart _ h := ⟨h.1, Link.initial_sound⟩
  limp _ cause h := State.enterLimp_linkSound h cause

/-- The queue stays within its allotment through every command. -/
theorem Instr.work_linkSound (i : Instr) (s : State) (h : s.linkSound) : (i.work s).linkSound := by
  have errors := h.2.errors
  cases i
  case listenEnd => exact ite_keeps (State.linkSound_of_slots h rfl rfl rfl rfl rfl rfl errors) h
  case silentEnd => exact State.endSilent_linkSound h
  case transmitAttemptStart => exact ite_keeps (State.linkSound_of_slots h rfl rfl rfl rfl rfl rfl errors) h
  case attemptCompleted => exact State.completeAttempt_linkSound h
  case arbitrationLost => exact State.linkSound_of_slots h rfl rfl rfl rfl rfl rfl errors
  case attemptDestroyed => exact State.destroyAttempt_linkSound h
  case stateFrameReceived k p =>
    exact State.received_keeps (handle := fun u => (u.takeState k.toNat p).settle) _ h
      (State.settle_linkSound (State.keeps_linkSound h (State.changePeer_touches ..) (by decide)))
      (State.meetUnexpected_linkSound h)
  case driverFrameReceived k p =>
    exact State.received_keeps (handle := fun u => u.takeDriver k.toNat p) _ h
      (State.keeps_linkSound h (State.takeDriver_onlyChanges ..) (by decide)) (State.meetUnexpected_linkSound h)
  case pathFrameReceived k p =>
    exact State.received_keeps (handle := fun u => u.takePath k.toNat p) _ h
      (State.keeps_linkSound h (State.takePath_onlyChanges ..) (by decide)) (State.meetUnexpected_linkSound h)
  case alertFrameReceived k p =>
    exact State.received_keeps (handle := fun u => u.takeAlert k.toNat p) _ h
      (State.keeps_linkSound h (State.takeAlert_onlyChanges ..) (by decide)) (State.meetUnexpected_linkSound h)
  case readStatus | readFaults | clearFaults | readParameter | readTrack | serviceRequestRejected =>
    exact State.takeService_linkSound h ..
  case speedOdometryExpiry => exact State.speedExpiry_linkSound h
  case wheelZeroSpeedTimeout | wheelPlausibilityFail | standstillSet | cabMarkAdoption | rearAdoptionTimeout =>
    exact ite_keeps (State.speedExpiry_linkSound h) h
  case pathGeneratorExpiry a => exact State.pathExpiry_linkSound h a
  case jointMonitorExpiry a => exact State.jointExpiry_linkSound h a
  case jackAlertSetRun | jackAlertClearRun => exact ite_keeps (State.jointExpiry_linkSound h _) h
  case stateEmission => exact State.emitState_linkSound h
  case driverEmission lines => exact State.emitDriver_linkSound h lines
  case doorInterlockExpiry inputs => exact State.doorExpiry_linkSound h inputs
  all_goals
    exact State.linkSound_modeEntries.work State.linkSound_restsOn (by decide) (fun _ => State.settle_linkSound)
      (by simp [entersMode, Instr.settles, Instr.plain]) h

/-- Settles O54. -/
theorem stepsKeepLinkSound : Obligations.steps_keep_link_sound :=
  fun _ _ => step_keeps State.linkSound_restsOn Instr.work_linkSound

end Sys2Proof.Machine
end

section
/-! PROOFS. The working copy, the peer records and the marks (R4, R33 to R40, R54, R185): O55. -/

namespace Sys2Proof.Machine

/-! ## The working copy (R185) -/

theorem within_iff {lo hi x : Nat} : within lo hi x = true ↔ lo ≤ x ∧ x ≤ hi := by simp [within]

/-- The ranges of the refuse parameters that a sound copy holds (step 1 of R185). -/
theorem Params.refuseRanges_bounds {p : Params} {strap : Nat} (h : p.refuseRanges strap = true) :
    (3 ≤ p.axles ∧ p.axles ≤ 6) ∧ p.lag ≤ 4000 ∧ 40 ≤ p.teeth ∧ p.teeth ≤ 120 := by
  simp only [Params.refuseRanges, Bool.and_eq_true, within_iff] at h
  obtain ⟨⟨⟨⟨⟨⟨⟨⟨⟨⟨⟨⟨⟨⟨⟨⟨axles, lag⟩, -⟩, -⟩, -⟩, -⟩, -⟩, teeth⟩, -⟩, -⟩, -⟩, -⟩, -⟩, -⟩, -⟩, -⟩, -⟩ := h
  exact ⟨axles, lag.2, teeth⟩

/-- The clamps and the dependent clamps bring a copy that is not refused into its ranges (R185). -/
theorem Params.dependent_clamped_sound {p : Params} {strap : Nat} (h : p.refuseRanges strap = true) :
    p.clamped.dependent.sound := by
  obtain ⟨axles, lag, teeth⟩ := Params.refuseRanges_bounds h
  have protects := clampNat_bounds (show 500 ≤ 900 by decide) p.protectAt
  have releases := clampNat_bounds (show 500 ≤ 900 by decide) p.releaseAt
  have prewarns := clampNat_bounds (show 500 ≤ 900 by decide) p.prewarnAt
  exact {
    axles := axles
    lag := lag
    errorLimit := clampNat_bounds (by decide) _
    rateLimit := clampNat_bounds (by decide) _
    steerLimit := clampNat_bounds (by decide) _
    maxPressure := clampNat_bounds (by decide) _
    haltPressure := clampNat_bounds (by decide) _
    pulseWidth := clampNat_bounds (by decide) _
    slip := Nat.min_le_right ..
    raiseHeight := Nat.min_le_right ..
    thresholds := by
      simp only [Params.dependent, Params.clamped]
      omega
    teeth := teeth }

theorem loadParameters_sound {image : List (Option ParamWord)} {strap : Nat} {p : Params}
    (h : (loadParameters image strap).copy = some p) : p.sound := by
  unfold loadParameters at h
  split at h
  · simp at h
  · next ws _ =>
    dsimp only at h
    split at h
    · simp at h
    · next sound =>
      simp only [Bool.or_eq_true, Bool.not_eq_true', not_or, Bool.not_eq_false] at sound
      obtain rfl := Option.some.inj h
      exact Params.dependent_clamped_sound sound.2

/-! ## Peer records (R33 to R40) -/

/-- A record's counters, and the mark that its content carries, are in range. -/
def PeerRecord.inRange (r : PeerRecord) : Prop := r.sound ∧ ∀ c, r.content = some c → c.mark ≤ Config.maxMark

theorem PeerRecord.initial_inRange : PeerRecord.initial.inRange :=
  ⟨⟨Nat.zero_le _, Nat.zero_le _⟩, fun _ h => absurd h (by simp [PeerRecord.initial])⟩

theorem decodeState_mark_le {sender : Nat} {p : Payload} {c : StateContent} (h : decodeState sender p = some c) :
    c.mark ≤ Config.maxMark := by
  unfold decodeState at h
  split at h
  · simp at h
  unfold decodeStateFields at h
  dsimp only at h
  split at h
  · split at h
    · simp at h
    · obtain rfl := Option.some.inj h
      dsimp only
      split
      · exact Nat.min_le_left ..
      · exact Nat.zero_le _
  · simp at h

section
variable {r : PeerRecord} (h : r.inRange)
include h

theorem PeerRecord.countError_inRange {limit : Nat} (bound : limit ≤ 15) (now : Micros) :
    (r.countError limit now).inRange := by
  obtain ⟨⟨errors, good⟩, mark⟩ := h
  have good' : (if r.presence = .joining then 0 else r.goodRun) ≤ 8 := by split <;> omega
  unfold PeerRecord.countError
  dsimp only
  split
  · exact ⟨⟨by dsimp only; omega, good'⟩, mark⟩
  · refine ⟨⟨?_, good'⟩, mark⟩
    dsimp only
    split <;> omega

theorem PeerRecord.store_inRange {c : StateContent} (hc : c.mark ≤ Config.maxMark) (now : Micros) :
    (r.store c now).inRange := ⟨h.1, fun d e => by obtain rfl := Option.some.inj e; exact hc⟩

theorem PeerRecord.join_inRange {c : StateContent} (hc : c.mark ≤ Config.maxMark) (now : Micros) :
    (r.join c now).inRange := ⟨⟨Nat.zero_le _, Nat.zero_le _⟩, (PeerRecord.store_inRange h hc now).2⟩

theorem PeerRecord.good_inRange {c : StateContent} (hc : c.mark ≤ Config.maxMark) (now : Micros) :
    (r.good c now).inRange := by
  have stored := (PeerRecord.store_inRange h hc now).2
  obtain ⟨⟨errors, good⟩, -⟩ := h
  have fewer : r.errors - 1 ≤ 15 := by omega
  unfold PeerRecord.good
  dsimp only
  split
  · split
    · exact ⟨⟨Nat.zero_le _, Nat.le_refl _⟩, stored⟩
    · exact ⟨⟨fewer, by dsimp only; omega⟩, stored⟩
  · exact ⟨⟨fewer, good⟩, stored⟩

theorem PeerRecord.onState_inRange {limit : Nat} (bound : limit ≤ 15) {sender : Nat} {p : Payload} (now : Micros) :
    (r.onState (decodeState sender p) limit now).inRange := by
  unfold PeerRecord.onState
  split
  · split
    · exact PeerRecord.countError_inRange h bound now
    · exact h
  · next c read =>
    have mark := decodeState_mark_le read
    split
    · exact PeerRecord.join_inRange h mark now
    split
    · exact PeerRecord.countError_inRange h bound now
    split
    · exact PeerRecord.good_inRange h mark now
    · exact PeerRecord.countError_inRange (PeerRecord.store_inRange h mark now) bound now

theorem PeerRecord.miss_inRange {limit : Nat} (bound : limit ≤ 15) (now : Micros) : (r.miss limit now).inRange := by
  have counted := PeerRecord.countError_inRange h bound now
  unfold PeerRecord.miss
  split
  · dsimp only
    split
    · exact counted
    · exact counted
  · exact h

theorem PeerRecord.latch_inRange (a : Alert) : (r.latch a).inRange := by
  unfold PeerRecord.latch
  split
  · split <;> exact h
  · split <;> exact h
  all_goals exact h

end

/-! ## The ranges of a station -/

/-- The working copy, the peer records and the marks of a station are in range. -/
def State.rangesSound (s : State) : Prop := s.peersSound ∧ s.marksSound

theorem State.rangesSound_iff (s : State) :
    s.rangesSound ↔ s.copySound ∧ s.peersOrdered ∧ (∀ x ∈ s.peers, x.2.inRange) ∧ s.odo.mark ≤ Config.maxMark := by
  unfold State.rangesSound State.peersSound State.marksSound PeerRecord.inRange
  constructor
  · rintro ⟨⟨copy, ordered, sound⟩, own, marks⟩
    exact ⟨copy, ordered, fun x hx => ⟨sound x hx, marks x hx⟩, own⟩
  · rintro ⟨copy, ordered, records, own⟩
    exact ⟨⟨copy, ordered, fun x hx => (records x hx).1⟩, own, fun x hx => (records x hx).2⟩

/-- The ranges rest on the working copy, the peer records and the own mark. -/
theorem State.rangesSound_of {s t : State} (h : s.rangesSound) (copy : t.loader.copy = s.loader.copy)
    (peers : t.peers = s.peers) (mark : t.odo.mark ≤ Config.maxMark) : t.rangesSound := by
  rw [State.rangesSound_iff] at *
  obtain ⟨hc, ho, hr, -⟩ := h
  refine ⟨?_, ?_, ?_, mark⟩
  · unfold State.copySound
    rw [copy]
    exact hc
  · unfold State.peersOrdered
    rw [peers]
    exact ho
  · rw [peers]
    exact hr

theorem State.rangesSound_restsOn : restsOn State.rangesSound [.loader, .peers, .odo] := by
  intro s t same h
  have loader : t.loader = s.loader := same .loader (by decide)
  have odo : t.odo = s.odo := same .odo (by decide)
  exact State.rangesSound_of h (by rw [loader]) (same .peers (by decide)) (by rw [odo]; exact h.2.1)

/-! ## The own mark through faults and consequences -/

theorem Odometry.exclude_mark (o : Odometry) (side : Side) : (o.exclude side).mark = o.mark := by cases side <;> rfl

theorem State.applyConsequence_mark (s : State) (c : FaultCode) : (s.applyConsequence c).odo.mark = s.odo.mark := by
  cases c <;> rfl

theorem State.raiseFault_mark (s : State) (c : FaultCode) : (s.raiseFault c).odo.mark = s.odo.mark := by
  unfold State.raiseFault
  dsimp only
  split_ifs
  · rfl
  · rfl
  · rfl
  · rfl
  · exact State.applyConsequence_mark ..

theorem State.applyAll_mark (cs : List FaultCode) : ∀ s : State, (s.applyAll cs).odo.mark = s.odo.mark := by
  induction cs with
  | nil => exact fun _ => rfl
  | cons c rest ih => exact fun s => (ih _).trans (State.applyConsequence_mark ..)

theorem State.closeWindow_mark (s : State) : s.closeWindow.odo.mark = s.odo.mark := State.applyAll_mark _ s

theorem State.settle_mark (s : State) : s.settle.odo.mark = s.odo.mark := by
  rw [State.settle_odo]
  rcases s.closeIfIdle_cases with ⟨-, -, e⟩ | ⟨-, e⟩ <;> rw [e]
  exact s.closeWindow_mark

section
variable {s : State} (h : s.rangesSound)
include h

theorem State.settle_rangesSound : s.settle.rangesSound :=
  State.rangesSound_of h (by rw [State.settle_loader]) s.settle_peers (by rw [State.settle_mark]; exact h.2.1)

theorem State.closeWindow_rangesSound : s.closeWindow.rangesSound :=
  State.rangesSound_of h (by rw [State.closeWindow_loader]) s.closeWindow_peers
    (by rw [State.closeWindow_mark]; exact h.2.1)

theorem State.raiseFault_rangesSound (c : FaultCode) : (s.raiseFault c).rangesSound :=
  State.rangesSound_of h (by rw [State.raiseFault_loader]) (s.raiseFault_peers c)
    (by rw [State.raiseFault_mark]; exact h.2.1)

theorem State.follow_rangesSound (c : FaultCode) (present : Bool) : (s.follow c present).rangesSound := by
  rcases s.follow_cases c present with ⟨-, -, e⟩ | ⟨-, -, e⟩ | ⟨-, e⟩ <;> rw [e]
  · exact h
  · exact State.raiseFault_rangesSound h c
  · exact State.rangesSound_restsOn.keeps (s.endCondition_onlyChanges c) (by decide) h

theorem State.setOdo_rangesSound {o : Odometry} (mark : o.mark ≤ Config.maxMark) : (s.setOdo o).rangesSound :=
  State.rangesSound_of h rfl rfl mark

theorem State.keeps_rangesSound {t : State} {blocks : List Block} (k : s.onlyChanges blocks t)
    (apart : ∀ b ∈ [Block.loader, .peers, .odo], b ∉ blocks) : t.rangesSound := State.rangesSound_restsOn.keeps k apart h

/-! ## The peer table -/

theorem State.errorLimit_le : s.errorLimit ≤ 15 := by
  unfold State.errorLimit
  split
  · next p copy => exact (h.1.1 p copy).errorLimit.2
  · exact (clampNat_bounds (by decide) _).2

theorem State.updatePeer_rangesSound (k : Nat) {change : PeerRecord → PeerRecord}
    (keeps : ∀ r : PeerRecord, r.inRange → (change r).inRange) : (s.updatePeer k change).rangesSound := by
  obtain ⟨copy, ordered, records, own⟩ := s.rangesSound_iff.mp h
  refine (State.rangesSound_iff _).mpr ⟨copy, ?_, ?_, own⟩
  · refine List.pairwise_map.mpr (ordered.imp fun {x y} lt => ?_)
    split <;> split <;> exact lt
  · intro x hx
    obtain ⟨y, hy, rfl⟩ := List.mem_map.mp hx
    split
    · exact keeps _ (records y hy)
    · exact records y hy

theorem State.changePeer_rangesSound (k : Nat) {change : PeerRecord → PeerRecord}
    (keeps : ∀ r : PeerRecord, r.inRange → (change r).inRange) : (s.changePeer k change).rangesSound := by
  have updated := State.updatePeer_rangesSound h k keeps
  exact ite_keeps (State.raiseFault_rangesSound updated _)
    (ite_keeps updated (State.keeps_rangesSound updated (State.endCondition_onlyChanges ..) (by decide)))

theorem State.takeState_rangesSound (sender : Nat) (p : Payload) : (s.takeState sender p).rangesSound :=
  State.changePeer_rangesSound h _ fun _ hr => PeerRecord.onState_inRange hr (State.errorLimit_le h) _

theorem State.takeAlert_rangesSound (sender : Nat) (p : Payload) : (s.takeAlert sender p).rangesSound := by
  unfold State.takeAlert
  split
  · exact State.updatePeer_rangesSound h _ fun _ hr => PeerRecord.latch_inRange hr _
  · exact h

theorem State.missPeer_rangesSound (k : Nat) : (s.missPeer k).rangesSound :=
  ite_keeps (State.settle_rangesSound (State.changePeer_rangesSound h _ fun _ hr =>
    PeerRecord.miss_inRange hr (State.errorLimit_le h) _)) h

/-! ## The speed block -/

theorem State.followWheel_rangesSound (side : Side) (arises : Bool) : (s.followWheel side arises).rangesSound :=
  ite_keeps (State.raiseFault_rangesSound h _) (State.follow_rangesSound h ..)

theorem State.wheelWork_rangesSound (p : Params) : (s.wheelWork p).rangesSound := by
  have judged (l r : Wheel) : (s.setOdo { s.odo with left := l, right := r }).rangesSound :=
    State.setOdo_rangesSound h h.2.1
  unfold State.wheelWork State.followBoth
  dsimp only
  exact State.follow_rangesSound (State.followWheel_rangesSound (State.followWheel_rangesSound (judged ..) ..) ..) ..

theorem State.speedWork_rangesSound : s.speedWork.rangesSound := by
  have axle : s.odo.setAxleSpeed.mark = s.odo.mark := by
    unfold Odometry.setAxleSpeed
    split <;> rfl
  have bound : s.odo.setAxleSpeed.mark ≤ Config.maxMark := axle ▸ h.2.1
  exact State.setOdo_rangesSound (State.setOdo_rangesSound h bound) bound

theorem State.sourceWork_rangesSound : s.sourceWork.rangesSound :=
  ite_keeps (State.setOdo_rangesSound h h.2.1) (State.setOdo_rangesSound h h.2.1)

theorem State.directionWork_rangesSound : s.directionWork.rangesSound := by
  have turned (d : Direction) : (s.setOdo { s.odo with direction := d }).rangesSound :=
    State.setOdo_rangesSound h h.2.1
  exact ite_keeps (State.keeps_rangesSound (turned _) (State.clearTrack_onlyChanges _) (by decide)) (turned _)

theorem State.addDistance_rangesSound (increment : Nat) : (s.addDistance increment).rangesSound := by
  unfold State.addDistance
  dsimp only
  split
  · exact State.raiseFault_rangesSound (State.setOdo_rangesSound h (Nat.le_refl _)) _
  · next below => exact State.setOdo_rangesSound h (Nat.le_of_not_lt below)

theorem State.distanceWork_rangesSound (p : Params) : (s.distanceWork p).rangesSound := by
  have taken : (s.setOdo
      { s.odo with
        left := s.odo.left.takeWhole p, right := s.odo.right.takeWhole p
        halfCarry := (s.odo.axleIncrement p).2 }).rangesSound := State.setOdo_rangesSound h h.2.1
  exact ite_keeps (State.addDistance_rangesSound taken _) taken

theorem State.cabContent_mark_le {c : StateContent} (held : s.cabContent = some c) : c.mark ≤ Config.maxMark := by
  obtain ⟨r, found, adopted⟩ := Option.bind_eq_some_iff.mp held
  obtain ⟨x, hx, rfl⟩ := Option.map_eq_some_iff.mp found
  refine h.2.2 x (List.mem_of_find?_eq_some hx) c ?_
  unfold PeerRecord.adoptable at adopted
  split at adopted
  · next d content =>
    split at adopted
    · obtain rfl := Option.some.inj adopted
      exact content
    · simp at adopted
  · simp at adopted

theorem State.adoptionWork_rangesSound (p : Params) : (s.adoptionWork p).rangesSound := by
  have adopted {mark : Nat} (bound : mark ≤ Config.maxMark) : (s.adopt mark).rangesSound :=
    State.setOdo_rangesSound h bound
  unfold State.adoptionWork
  split
  · split
    · exact State.raiseFault_rangesSound (adopted (Nat.le_refl _)) _
    · next below => exact adopted (Nat.le_of_not_lt below)
  refine ite_keeps (adopted ?_) h
  split
  · next c held => exact (Nat.sub_le ..).trans (State.cabContent_mark_le h held)
  · exact (Nat.sub_le ..).trans (by decide)

theorem State.standstillWork_rangesSound : s.standstillWork.rangesSound := by
  have judged (run : Nat) (set : Bool) : (s.setOdo { s.odo with setRun := run, standstill := set }).rangesSound :=
    State.setOdo_rangesSound h h.2.1
  exact ite_keeps (State.keeps_rangesSound (judged _ _) (State.queueAlert_onlyChanges ..) (by decide)) (judged _ _)

theorem State.odometryWork_rangesSound (p : Params) : (s.odometryWork p).rangesSound :=
  State.standstillWork_rangesSound (State.adoptionWork_rangesSound (State.distanceWork_rangesSound
    (State.directionWork_rangesSound (State.sourceWork_rangesSound (State.speedWork_rangesSound
      (State.wheelWork_rangesSound h p)))) p) p)

theorem State.speedExpiry_rangesSound : s.speedExpiry.rangesSound :=
  ite_keeps (State.settle_rangesSound (State.withCopy_keeps h fun p => State.odometryWork_rangesSound h p)) h

theorem State.toothEdge_rangesSound (side : Side) : (s.toothEdge side).rangesSound := by
  refine ite_keeps (State.setOdo_rangesSound h ?_) h
  cases side <;> exact h.2.1

theorem State.openShort_rangesSound (side : Side) (present : Bool) : (s.openShort side present).rangesSound := by
  have noted : (s.setOdo (s.odo.setWheel side { s.odo.wheel side with openShort := present })).rangesSound := by
    refine State.setOdo_rangesSound h ?_
    cases side <;> exact h.2.1
  unfold State.openShort
  dsimp only
  split
  · exact h
  all_goals exact ite_keeps (State.settle_rangesSound (State.follow_rangesSound
      (State.followWheel_rangesSound noted ..) ..)) noted

end

/-! ## Entries to the modes -/

theorem peersInitial_ordered (axles own : Nat) : (peersInitial axles own).Pairwise (fun x y => x.1 < y.1) := by
  refine List.pairwise_map.mpr (List.Pairwise.filter _ ?_)
  decide

theorem peersInitial_inRange {axles own : Nat} {x : Nat × PeerRecord} (h : x ∈ peersInitial axles own) : x.2.inRange := by
  obtain ⟨k, -, rfl⟩ := List.mem_map.mp h
  exact PeerRecord.initial_inRange

/-- Blocks at their values after START are in range, with a sound copy. -/
theorem State.rangesSound_initial {t : State} (copy : t.copySound) {axles own : Nat}
    (peers : t.peers = peersInitial axles own) (mark : t.odo.mark = 0) : t.rangesSound := by
  refine t.rangesSound_iff.mpr ⟨copy, ?_, ?_, ?_⟩
  · unfold State.peersOrdered
    rw [peers]
    exact peersInitial_ordered axles own
  · rw [peers]
    exact fun x hx => peersInitial_inRange hx
  · rw [mark]
    exact Nat.zero_le _

theorem State.copySound_of_none {t : State} (h : t.loader.copy = none) : t.copySound :=
  fun p e => absurd e (by rw [h]; simp)

theorem State.enterLimp_mark (s : State) (cause : Int) : (s.enterLimp cause).odo.mark = s.odo.mark := by
  unfold State.enterLimp
  dsimp only
  rw [State.queueAlert_odo]
  have entered : (s.safeOutputs true).closeWindow.limpBlocks.odo.mark = s.odo.mark := by
    unfold State.limpBlocks
    simpa [Odometry.toLimp, State.safeOutputs] using State.closeWindow_mark (s.safeOutputs true)
  split_ifs <;> exact entered

theorem State.rangesSound_modeEntries : ModeEntries State.rangesSound where
  reset _ _ := State.rangesSound_initial (axles := 0) (own := 0) (State.copySound_of_none rfl) rfl rfl
  start s _ := State.rangesSound_initial (axles := 6) (own := s.station) (State.copySound_of_none rfl) rfl rfl
  abandon s r _ := State.rangesSound_initial (axles := 6) (own := (s.abandonStart r).station)
    (State.copySound_of_none rfl) rfl rfl
  blocks s r _ := by
    rcases s.startBlocks_cases r with ⟨p, copy, e⟩ | ⟨-, e⟩ <;> rw [e]
    · refine State.rangesSound_initial (axles := p.axles) (own := r.strap.toNat) (fun q hq => ?_) rfl rfl
      obtain rfl := Option.some.inj hq
      exact loadParameters_sound copy
    · exact State.rangesSound_initial (axles := 6) (own := r.strap.toNat) (State.copySound_of_none rfl) rfl rfl
  sync _ h := h
  restart _ h := h
  limp s cause h := by
    have changed := s.enterLimp_onlyChanges cause
    have loader : (s.enterLimp cause).loader = s.loader := State.same_of_onlyChanges changed .loader (by decide)
    exact State.rangesSound_of h (by rw [loader]) (State.same_of_onlyChanges changed .peers (by decide))
      (by rw [State.enterLimp_mark]; exact h.2.1)

/-- The ranges are kept by every command. -/
theorem Instr.work_rangesSound (i : Instr) (s : State) (h : s.rangesSound) : (i.work s).rangesSound := by
  cases i
  case deferralWindowTimeout => exact ite_keeps (State.settle_rangesSound (State.closeWindow_rangesSound h)) h
  case stateFrameReceived k p =>
    exact State.received_keeps (handle := fun u => (u.takeState k.toNat p).settle) _ h
      (State.settle_rangesSound (State.takeState_rangesSound h ..))
      (State.keeps_rangesSound h s.meetUnexpected_onlyChanges (by decide))
  case alertFrameReceived k p =>
    exact State.received_keeps (handle := fun u => u.takeAlert k.toNat p) _ h (State.takeAlert_rangesSound h ..)
      (State.keeps_rangesSound h s.meetUnexpected_onlyChanges (by decide))
  case missed k => exact State.missPeer_rangesSound h k
  case toothEdge side => exact State.toothEdge_rangesSound h side
  case wheelSensorOpenShort side present => exact State.openShort_rangesSound h side present
  case speedOdometryExpiry => exact State.speedExpiry_rangesSound h
  case wheelZeroSpeedTimeout | wheelPlausibilityFail | standstillSet | cabMarkAdoption | rearAdoptionTimeout =>
    exact ite_keeps (State.speedExpiry_rangesSound h) h
  all_goals
    exact State.rangesSound_modeEntries.work State.rangesSound_restsOn (by decide) (fun _ => State.settle_rangesSound)
      (by simp [entersMode, Instr.settles, Instr.plain]) h

/-- Settles O55. -/
theorem stepsKeepPeersAndMarksSound : Obligations.steps_keep_peers_and_marks_sound :=
  fun _ _ => step_keeps State.rangesSound_restsOn Instr.work_rangesSound

end Sys2Proof.Machine
end

section
/-! PROOFS. Passive steering and backup (R82, R88, R115, R127, R128, R163): O57. -/

namespace Sys2Proof.Machine

/-! ## Steering -/

/-- In LOCKED and FAILED the block is passive. -/
def Steering.sound (t : Steering) : Prop :=
  (t.mode = .locked ∨ t.mode = .failed → t.solenoid = false ∧ t.applied = 0 ∧ t.staged = 0)
  ∧ (t.mode = .failed → t.line = 0)

theorem State.steerSound_iff (s : State) : s.steerSound ↔ s.steer.sound := Iff.rfl

theorem Steering.sound_of_active {t : Steering} (h : t.mode = .centring ∨ t.mode = .tracking ∨ t.mode = .guided) :
    t.sound := by
  constructor
  · rintro (k | k) <;> simp [k] at h
  · intro k
    simp [k] at h

theorem Steering.toFailed_sound (t : Steering) : t.toFailed.sound := ⟨fun _ => ⟨rfl, rfl, rfl⟩, fun _ => rfl⟩

theorem Steering.initial_sound : Steering.initial.sound := ⟨fun _ => ⟨rfl, rfl, rfl⟩, fun _ => rfl⟩

theorem Steering.output_sound {t : Steering} (h : t.sound) : t.output.sound :=
  ⟨h.1, fun failed => (h.1 (.inr failed)).2.2⟩

theorem Steering.supervise_sound {t : Steering} (h : t.sound) : t.supervise.sound := h

section
variable {s : State} (h : s.steer.sound)
include h

theorem State.readSteer_steerSound (angle : AnalogIn) : (s.readSteer angle).steerSound := by
  have followed (present : Bool) (x : Int) :
      ((s.follow .steerSensor present).setSteer { (s.follow .steerSensor present).steer with measured := x }).steerSound := by
    rw [State.follow_steer]
    exact h
  unfold State.readSteer
  split
  · exact h
  · exact ite_keeps (followed _ _) (Steering.toFailed_sound _)

theorem State.superviseSteer_steerSound : s.superviseSteer.steerSound :=
  ite_keeps (Steering.toFailed_sound _) (Steering.supervise_sound h)

theorem State.modeFromLocked_sound : s.modeFromLocked.sound := by
  unfold State.modeFromLocked
  dsimp only
  split
  · exact Steering.sound_of_active (.inl rfl)
  split
  · exact Steering.sound_of_active (.inr (.inl rfl))
  · exact h

theorem State.modeFromTracking_sound : s.modeFromTracking.sound := by
  unfold State.modeFromTracking
  dsimp only
  split
  · exact Steering.sound_of_active (.inl rfl)
  split
  · split
    · exact Steering.sound_of_active (.inr (.inr rfl))
    · exact Steering.sound_of_active (.inl rfl)
  · exact h

theorem State.modeFromGuided_sound : s.modeFromGuided.sound := by
  unfold State.modeFromGuided
  dsimp only
  split
  · exact Steering.sound_of_active (.inl rfl)
  split
  · exact Steering.sound_of_active (.inr (.inl rfl))
  · exact h

theorem State.modeFromCentring_sound : s.modeFromCentring.sound := by
  unfold State.modeFromCentring
  dsimp only
  split
  · exact ⟨fun _ => ⟨rfl, rfl, rfl⟩, fun failed => absurd failed (by simp [Steering.toLocked])⟩
  · exact h

theorem State.steerMode_steerSound : s.steerMode.steerSound := by
  unfold State.steerMode
  split
  · exact State.modeFromLocked_sound h
  · exact State.modeFromTracking_sound h
  · exact State.modeFromGuided_sound h
  · exact State.modeFromCentring_sound h
  · exact h

theorem State.applySteer_steerSound (p : Params) : (s.applySteer p).steerSound := by
  refine ⟨fun passive => ?_, h.2⟩
  obtain ⟨solenoid, -, -⟩ := h.1 passive
  have zero : (match s.steer.mode with
      | .locked | .failed => (0 : Int)
      | .tracking | .guided | .centring => rateLimited p.rateLimit s.steer.applied s.steer.target) = 0 := by
    have mode : s.steer.mode = .locked ∨ s.steer.mode = .failed := passive
    rcases mode with k | k <;> rw [k]
  exact ⟨solenoid, zero, zero⟩

theorem State.steerWork_steerSound (angle : AnalogIn) (p : Params) : (s.steerWork angle p).steerSound := by
  have read : ((s.setSteer s.steer.output).readSteer angle).steerSound :=
    State.readSteer_steerSound (s := s.setSteer s.steer.output) (Steering.output_sound h) angle
  have supervised := ite_keeps (P := State.steerSound)
    (c := ((s.setSteer s.steer.output).readSteer angle).steer.mode = .failed) read (State.superviseSteer_steerSound read)
  have moded := ite_keeps (P := State.steerSound)
    (c := (if ((s.setSteer s.steer.output).readSteer angle).steer.mode = .failed
        then (s.setSteer s.steer.output).readSteer angle
        else ((s.setSteer s.steer.output).readSteer angle).superviseSteer).steer.failedLatch = true)
    supervised (State.steerMode_steerSound supervised)
  exact State.applySteer_steerSound (s := State.steerTarget p _) moded p

end

theorem State.steerSound_restsOn : restsOn State.steerSound [.steer] := by
  intro s t same h
  have e : t.steer = s.steer := same .steer (by decide)
  rw [State.steerSound_iff, e]
  exact h

theorem State.settle_steerSound {s : State} (h : s.steerSound) : s.settle.steerSound :=
  State.steerSound_restsOn.keeps s.settle_onlyChanges (by decide) h

theorem State.steerExpiry_steerSound {s : State} (h : s.steerSound) (angle : AnalogIn) :
    (s.steerExpiry angle).steerSound :=
  ite_keeps (State.settle_steerSound (State.withCopy_keeps h fun p => State.steerWork_steerSound h angle p)) h

theorem State.enterLimp_steer (s : State) (cause : Int) :
    ∃ marked, (s.enterLimp cause).steer = { s.steer with solenoid := false, line := 0 }.toLimp marked := by
  unfold State.enterLimp
  dsimp only
  rw [State.queueAlert_steer]
  refine ⟨s.marksSteered, ?_⟩
  split_ifs <;> simp [State.limpBlocks, State.startLink, State.safeOutputs, State.marksSteered]

theorem State.steerSound_modeEntries : ModeEntries State.steerSound where
  reset _ _ := Steering.initial_sound
  start _ _ := Steering.initial_sound
  abandon _ _ _ := Steering.initial_sound
  blocks s r _ := by rcases s.startBlocks_cases r with ⟨p, -, e⟩ | ⟨-, e⟩ <;> rw [e] <;> exact Steering.initial_sound
  sync _ h := h
  restart _ _ := ⟨fun _ => ⟨rfl, rfl, rfl⟩, fun _ => rfl⟩
  limp s cause _ := by
    obtain ⟨marked, e⟩ := s.enterLimp_steer cause
    rw [State.steerSound_iff, e]
    exact ⟨fun _ => ⟨rfl, rfl, rfl⟩, fun _ => rfl⟩

/-- Steering stays passive in LOCKED and FAILED through every command. -/
theorem Instr.work_steerSound (i : Instr) (s : State) (h : s.steerSound) : (i.work s).steerSound := by
  cases i
  case steeringExpiry a => exact State.steerExpiry_steerSound h a
  case lockLossRun | notValidRun | guidedExitRun | centredRun | steerMismatch | centringTravelTimeout =>
    exact ite_keeps (State.steerExpiry_steerSound h _) h
  all_goals
    exact State.steerSound_modeEntries.work State.steerSound_restsOn (by decide) (fun _ => State.settle_steerSound)
      (by simp [entersMode, Instr.settles, Instr.plain]) h

/-! ## Backup -/

/-- In backup the braking block is passive, and the halt state OFF. -/
def Braking.sound (b : Braking) (halt : HaltState) : Prop :=
  b.backup = (b.driverLost || b.latched.isSome)
  ∧ (b.backup = true →
      b.demand = 0 ∧ b.line = 0 ∧ b.select = false ∧ b.commanded = 0 ∧ b.staged = 0 ∧ b.halt = 0 ∧ halt = .off)

theorem State.backupSound_iff (s : State) : s.backupSound ↔ s.brake.sound s.doors.halt := Iff.rfl

theorem Braking.toBackup_sound {b : Braking} (h : (b.driverLost || b.latched.isSome) = true) :
    b.toBackup.sound .off := ⟨h.symm, fun _ => ⟨rfl, rfl, rfl, rfl, rfl, rfl, rfl⟩⟩

theorem Braking.initial_sound (laden : Nat) : (Braking.initial laden).sound .off :=
  ⟨rfl, fun _ => ⟨rfl, rfl, rfl, rfl, rfl, rfl, rfl⟩⟩

theorem State.backupSound_of {s t : State} (h : s.backupSound) (brake : t.brake = s.brake)
    (halt : t.doors.halt = s.doors.halt) : t.backupSound := by
  rw [State.backupSound_iff, brake, halt]
  exact h

theorem State.backupSound_restsOn : restsOn State.backupSound [.brake, .doors] := by
  intro s t same h
  have doors : t.doors = s.doors := same .doors (by decide)
  exact State.backupSound_of h (same .brake (by decide)) (by rw [doors])

/-- Entry to backup with a cause set, whether the station was in backup before or not. -/
theorem State.enterBackup_backupSound {s : State} {b : Braking} (h : s.backupSound) (backup : b.backup = s.brake.backup)
    (passive : s.brake.backup = true → b.demand = s.brake.demand ∧ b.line = s.brake.line ∧ b.select = s.brake.select
      ∧ b.commanded = s.brake.commanded ∧ b.staged = s.brake.staged ∧ b.halt = s.brake.halt)
    (cause : (b.driverLost || b.latched.isSome) = true) : (s.setBrake b).enterBackup.backupSound := by
  rcases (s.setBrake b).enterBackup_cases with ⟨held, e⟩ | ⟨-, e⟩ <;> rw [e]
  · have held : b.backup = true := held
    refine ⟨held.trans cause.symm, fun _ => ?_⟩
    have before : s.brake.backup = true := backup ▸ held
    obtain ⟨demand, line, select, commanded, staged, halt⟩ := passive before
    obtain ⟨demand', line', select', commanded', staged', halt', off⟩ := h.2 before
    exact ⟨demand.trans demand', line.trans line', select.trans select', commanded.trans commanded',
      staged.trans staged', halt.trans halt', off⟩
  · exact Braking.toBackup_sound cause

theorem State.settle_doors_halt (s : State) : s.settle.doors.halt = s.doors.halt := by
  have gated (t : State) : t.gateReleases.doors.halt = t.doors.halt := by
    rcases t.gateReleases_cases with ⟨-, e⟩ | ⟨-, -, e⟩
    all_goals rw [e]
    all_goals rfl
  have moved (t : State) : t.updateMode.doors.halt = t.doors.halt := by
    rcases t.updateMode_cases with ⟨-, -, e⟩ | ⟨-, -, e⟩ | e
    all_goals rw [e]
    all_goals rfl
  unfold State.settle
  rw [gated, moved, State.closeIfIdle_doors]

section
variable {s : State} (h : s.backupSound)
include h

theorem State.latchBackup_backupSound (c : LatchedCause) : (s.latchBackup c).backupSound :=
  State.enterBackup_backupSound h rfl (fun _ => ⟨rfl, rfl, rfl, rfl, rfl, rfl⟩) (by simp [Braking.latch])

theorem State.output_backupSound : (s.setBrake s.brake.output).backupSound := by
  unfold Braking.output
  split
  · exact h
  · next off => exact ⟨h.1, fun backup => absurd backup off⟩

theorem State.readPressure_backupSound (pressure : AnalogIn) : (s.readPressure pressure).backupSound := by
  have followed (present : Bool) (x : Nat) :
      ((s.follow .brakeSensor present).setBrake { (s.follow .brakeSensor present).brake with measured := x }).backupSound := by
    have supervised : (s.follow .brakeSensor present).backupSound :=
      State.backupSound_restsOn.keeps (State.follow_touches s .brakeSensor present) (by decide) h
    exact supervised
  unfold State.readPressure
  split
  · next v _ =>
    have read := followed false v
    rwa [State.follow_brake] at read
  · exact ite_keeps (followed _ _) (State.latchBackup_backupSound (followed _ _) _)

theorem State.supervisePressure_backupSound : s.supervisePressure.backupSound := by
  have compared : (s.setBrake s.brake.comparePressure).backupSound := by
    unfold Braking.comparePressure
    split
    · exact h
    split
    · exact h
    split <;> exact h
  refine ite_keeps (State.latchBackup_backupSound ?_ _) compared
  exact State.backupSound_restsOn.keeps (State.raiseEvent_touches _ .brakePressureMismatch) (by decide) compared

theorem State.loseDriver_backupSound : s.loseDriver.backupSound :=
  ite_keeps h (State.enterBackup_backupSound h rfl (fun _ => ⟨rfl, rfl, rfl, rfl, rfl, rfl⟩) rfl)

theorem State.exitBackup_backupSound : s.exitBackup.backupSound := by
  unfold State.exitBackup
  dsimp only
  split
  · next held =>
    split
    · simp only [Bool.and_eq_true] at held
      refine ⟨?_, fun backup => absurd backup Bool.false_ne_true⟩
      simpa using held.1.2
    · exact h
  · exact h

theorem State.demandWork_backupSound : s.demandWork.backupSound := by
  refine ⟨h.1, fun backup => ?_⟩
  have held : s.brake.backup = true := backup
  exact ⟨if_pos held, (h.2 held).2⟩

theorem State.pressureWork_backupSound (p : Params) : (s.pressureWork p).backupSound := by
  unfold State.pressureWork
  dsimp only
  split
  · next held =>
    obtain ⟨demand, line, select, -, -, -, off⟩ := h.2 held
    exact ⟨h.1, fun _ => ⟨demand, line, select, rfl, rfl, rfl, off⟩⟩
  · next out => exact ⟨h.1, fun backup => absurd backup out⟩

theorem State.settle_backupSound : s.settle.backupSound := State.backupSound_of h s.settle_brake s.settle_doors_halt

theorem State.brakeExpiry_backupSound (pressure : AnalogIn) : (s.brakeExpiry pressure).backupSound := by
  refine ite_keeps (State.settle_backupSound (State.withCopy_keeps h fun p => ?_)) h
  have read := State.supervisePressure_backupSound (State.readPressure_backupSound (State.output_backupSound h) pressure)
  exact State.pressureWork_backupSound (State.demandWork_backupSound (State.exitBackup_backupSound
    (State.loseDriver_backupSound read))) p

/-! ## The halt state of the interlock -/

theorem State.readDoors_backupSound (inputs : DoorInputs) : (s.readDoors inputs).backupSound := by
  have read (e0 e1 : DoorSlot) : (s.setDoors { s.doors with slot0 := e0, slot1 := e1 }).backupSound := h
  have kept {t u : State} {blocks : List Block} (ht : t.backupSound) (k : t.onlyChanges blocks u)
      (apart : ∀ b ∈ [Block.brake, .doors], b ∉ blocks) : u.backupSound := State.backupSound_restsOn.keeps k apart ht
  exact kept (kept (kept (read ..) (State.doorAlerts_onlyChanges ..) (by decide)) (State.doorAlerts_onlyChanges ..)
    (by decide)) (State.doorFault_onlyChanges ..) (by decide)

/-- In backup the halt state is OFF and stays there. -/
theorem State.haltWork_backupSound (p : Params) : (s.haltWork p).backupSound := by
  refine ⟨h.1, fun backup => ?_⟩
  have held : s.brake.backup = true := backup
  obtain ⟨demand, line, select, commanded, staged, halt, off⟩ := h.2 held
  refine ⟨demand, line, select, commanded, staged, halt, ?_⟩
  change s.nextHalt p = .off
  simp [State.nextHalt, off, held]

theorem State.doorExpiry_backupSound (inputs : DoorInputs) : (s.doorExpiry inputs).backupSound := by
  refine ite_keeps (State.settle_backupSound (State.withCopy_keeps h fun p => ?_)) h
  have output : s.outputDoors.backupSound := h
  have halted := State.haltWork_backupSound (State.readDoors_backupSound output inputs) p
  have granted : ((s.outputDoors.readDoors inputs).haltWork p).grantWork.backupSound :=
    State.backupSound_of halted rfl rfl
  have lined : (((s.outputDoors.readDoors inputs).haltWork p).grantWork.lineWork p).backupSound :=
    State.backupSound_of granted rfl rfl
  exact ite_keeps (State.readDoors_backupSound h inputs) lined

end

/-! ## Entries to the modes -/

theorem State.safeOutputs_backupSound {s : State} (h : s.backupSound) (limp : Bool) : (s.safeOutputs limp).backupSound := by
  refine ⟨h.1, fun backup => ?_⟩
  obtain ⟨demand, -, -, rest⟩ := h.2 backup
  exact ⟨demand, rfl, rfl, rest⟩

theorem State.limpBlocks_backupSound {s : State} (h : s.backupSound) : s.limpBlocks.backupSound := by
  have cleared : s.clearTrack.backupSound := State.backupSound_restsOn.keeps s.clearTrack_onlyChanges (by decide) h
  obtain ⟨cause, passive⟩ := State.latchBackup_backupSound cleared .limp
  refine ⟨cause, fun backup => ?_⟩
  obtain ⟨demand, line, select, commanded, staged, halt, -⟩ := passive backup
  exact ⟨demand, line, select, commanded, staged, halt, rfl⟩

theorem State.enterLimp_backupSound {s : State} (h : s.backupSound) (cause : Int) : (s.enterLimp cause).backupSound := by
  have closed := State.backupSound_restsOn.keeps (State.closeWindow_onlyChanges _) (by decide)
    (State.safeOutputs_backupSound h true)
  have entered : ((s.safeOutputs true).closeWindow.limpBlocks.setSup
      { (s.safeOutputs true).closeWindow.limpBlocks.sup with mode := .limp, runFrom := none, syncFrom := none }).backupSound :=
    State.limpBlocks_backupSound closed
  refine State.backupSound_restsOn.keeps (State.queueAlert_onlyChanges ..) (by decide) ?_
  exact ite_keeps (P := State.backupSound) entered entered

theorem State.backupSound_modeEntries : ModeEntries State.backupSound where
  reset _ _ := Braking.initial_sound 0
  start _ _ := Braking.initial_sound 0
  abandon _ _ _ := Braking.initial_sound 0
  blocks s r _ := by
    rcases s.startBlocks_cases r with ⟨p, -, e⟩ | ⟨-, e⟩ <;> rw [e]
    · exact Braking.initial_sound p.ladenDefault
    · exact Braking.initial_sound 0
  sync _ h := h
  restart s h := by
    obtain ⟨cause, passive⟩ := State.safeOutputs_backupSound h false
    refine ⟨cause, fun backup => ?_⟩
    obtain ⟨demand, line, select, commanded, staged, halt, -⟩ := passive backup
    exact ⟨demand, line, select, commanded, staged, halt, rfl⟩
  limp _ cause h := State.enterLimp_backupSound h cause

/-- Backup stays passive through every command. -/
theorem Instr.work_backupSound (i : Instr) (s : State) (h : s.backupSound) : (i.work s).backupSound := by
  cases i
  case syncTimeout => exact ite_keeps (State.settle_backupSound (State.backupSound_of h rfl rfl)) h
  case brakingExpiry a => exact State.brakeExpiry_backupSound h a
  case slipReapplyDone | brakePressureMismatch | backupExitRun =>
    exact ite_keeps (State.brakeExpiry_backupSound h _) h
  case doorInterlockExpiry inputs => exact State.doorExpiry_backupSound h inputs
  all_goals
    exact State.backupSound_modeEntries.work State.backupSound_restsOn (by decide) (fun _ => State.settle_backupSound)
      (by simp [entersMode, Instr.settles, Instr.plain]) h

/-- Settles O57. -/
theorem stepsKeepActuatorsSound : Obligations.steps_keep_actuators_sound :=
  fun _ _ h next =>
    ⟨step_keeps State.steerSound_restsOn Instr.work_steerSound h.1 next,
      step_keeps State.backupSound_restsOn Instr.work_backupSound h.2 next⟩

end Sys2Proof.Machine
end

section
/-! PROOFS. Release lines, the safe outputs and LIMP under every step (R166, R175, R178, R179): O59, O52, O11. -/

namespace Sys2Proof.Machine

/-! ## The release gate (R166): O59 -/

theorem State.releaseSound_iff (s : State) : s.releaseSound ↔ (s.doors.anyRelease = true → s.releaseGate = true) := by
  have usable : s.driverUsable = true ↔ s.driver.status = .fresh ∨ s.driver.status = .holding := by
    unfold State.driverUsable DriverHold.usable
    cases s.driver.status <;> simp
  have mode : s.runOrDegraded = true ↔ s.sup.mode = .run ∨ s.sup.mode = .degraded := by
    unfold State.runOrDegraded
    cases s.sup.mode <;> simp
  simp only [State.releaseSound, DoorInterlock.anyRelease, State.releaseGate, Bool.or_eq_true, Bool.and_eq_true, usable,
    mode, beq_iff_eq, Bool.not_eq_true', and_assoc]

/-- Lines that are off meet no gate. -/
theorem State.releaseSound_of_off {s : State} (h : s.doors.anyRelease = false) : s.releaseSound :=
  s.releaseSound_iff.mpr fun on => absurd (h.symm.trans on) Bool.false_ne_true

/-- Whatever came before, no line is energised past the gate once the station has settled. -/
theorem State.settle_releaseSound (s : State) : s.settle.releaseSound := by
  have gated (t : State) : t.gateReleases.releaseSound := by
    rcases t.gateReleases_cases with ⟨holds, e⟩ | ⟨-, off, -⟩
    · rw [e]
      exact t.releaseSound_iff.mpr fun _ => holds
    · exact State.releaseSound_of_off off
  exact gated _

theorem State.releaseSound_of_gate {s t : State} (h : s.releaseSound) (doors : t.doors = s.doors)
    (gate : t.releaseGate = s.releaseGate) : t.releaseSound := by
  rw [State.releaseSound_iff, doors, gate]
  exact s.releaseSound_iff.mp h

/-- The blocks that the gate looks at besides the mode. -/
def gateBlocks : List Block := [.loader, .peers, .driver, .odo, .brake, .doors]

theorem State.releaseSound_of_same {s t : State} (h : s.releaseSound) (same : ∀ b ∈ gateBlocks, s.same t b)
    (mode : t.sup.mode = s.sup.mode) : t.releaseSound := by
  have loader : t.loader = s.loader := same .loader (by decide)
  have peers : t.peers = s.peers := same .peers (by decide)
  have driver : t.driver = s.driver := same .driver (by decide)
  have odo : t.odo = s.odo := same .odo (by decide)
  have brake : t.brake = s.brake := same .brake (by decide)
  have doors : t.doors = s.doors := same .doors (by decide)
  refine State.releaseSound_of_gate h doors ?_
  simp only [State.releaseGate, State.cabPresent, State.isCab, State.station, State.peerPresent, State.peer,
    State.driverUsable, State.runOrDegraded, loader, peers, driver, odo, brake, doors, mode]

theorem State.releaseSound_moves : ModeMoves State.releaseSound where
  reset _ _ := State.releaseSound_of_off rfl
  start _ _ := State.releaseSound_of_off rfl
  abandon _ _ _ _ := State.releaseSound_of_off rfl
  blocks s r _ _ := by
    rcases s.startBlocks_cases r with ⟨p, -, e⟩ | ⟨-, e⟩ <;> rw [e]
    · refine State.releaseSound_of_off ?_
      change (DoorInterlock.afterStart p r.doors).anyRelease = false
      unfold DoorInterlock.afterStart DoorInterlock.anyRelease
      split_ifs <;> rfl
    · exact State.releaseSound_of_off rfl
  sync s start h := by
    refine State.releaseSound_of_off (s := s.enterSync) ?_
    change s.doors.anyRelease = false
    by_contra on
    have gate := s.releaseSound_iff.mp h (Bool.eq_true_of_not_eq_false on)
    simp [State.releaseGate, State.runOrDegraded, start] at gate
  restart _ _ := State.releaseSound_of_off (DoorInterlock.forceOff_anyRelease _)
  limp s cause _ := by
    refine State.releaseSound_of_off ?_
    have doors : ∃ d : DoorInterlock, (s.enterLimp cause).doors = d.forceOff := by
      unfold State.enterLimp
      dsimp only
      rw [State.queueAlert_doors]
      split_ifs
      · exact ⟨_, rfl⟩
      · exact ⟨_, rfl⟩
    obtain ⟨d, e⟩ := doors
    rw [e]
    exact DoorInterlock.forceOff_anyRelease d
  supervised s t changed mode _ h :=
    State.releaseSound_of_same h (fun b hb => State.same_of_onlyChanges changed b (by
      revert hb
      cases b <;> decide)) mode

/-- What latches does not change who is present. -/
theorem State.takeAlert_cabPresent (s : State) (k : Nat) (p : Payload) : (s.takeAlert k p).cabPresent = s.cabPresent := by
  have latched (r : PeerRecord) (a : Alert) : (r.latch a).presence = r.presence := by
    unfold PeerRecord.latch
    split
    all_goals try split
    all_goals rfl
  unfold State.takeAlert
  split
  · next a _ =>
    have present : (s.updatePeer k (fun r => r.latch a)).peerPresent 1 = s.peerPresent 1 := by
      unfold State.peerPresent
      rw [State.peer_updatePeer]
      by_cases one : 1 = k
      · rw [if_pos one]
        cases s.peer 1 <;> simp [latched]
      · rw [if_neg one]
    unfold State.cabPresent
    rw [present]
    rfl
  · rfl

theorem State.holdDriver_usable (s : State) : s.holdDriver.driverUsable = s.driverUsable := by
  unfold State.holdDriver
  split
  · next fresh =>
    simp only [Bool.and_eq_true, beq_iff_eq] at fresh
    simp [State.driverUsable, State.setStatus, DriverHold.usable, fresh.1.2]
  · rfl

/-- A change of one wheel's record is no change of the standstill flag. -/
theorem State.setWheel_releaseSound {s : State} (h : s.releaseSound) (side : Side) (w : Wheel) :
    (s.setOdo (s.odo.setWheel side w)).releaseSound := by
  cases side <;> exact h

/-- A command that does not settle, enters no mode and leaves what the gate looks at. -/
theorem Instr.work_releaseSound_of_apart {i : Instr} {s : State} (h : s.releaseSound) (keeps : keepsMode i = true)
    (apart : ∀ b ∈ gateBlocks, b ∉ i.plain) : (i.work s).releaseSound := by
  rcases Instr.work_settlesOr i s keeps with ⟨u, -, e⟩ | ⟨changed, stand⟩
  · rw [e]
    exact u.settle_releaseSound
  · exact State.releaseSound_of_same h (fun b hb => State.same_of_onlyChanges changed b (apart b hb))
      (Supervisor.mode_of_stand stand)

theorem Instr.work_releaseSound (i : Instr) (s : State) (h : s.releaseSound) : (i.work s).releaseSound := by
  by_cases enters : entersMode i = true
  · exact State.releaseSound_moves.enters enters h
  cases i
  case syncTimeout => exact ite_keeps (State.settle_releaseSound _) h
  case driverStatusHolding =>
    refine State.releaseSound_of_gate h (State.same_of_onlyChanges s.holdDriver_onlyChanges .doors (by decide)) ?_
    change s.holdDriver.releaseGate = _
    have usable := s.holdDriver_usable
    unfold State.releaseGate
    rw [usable]
    unfold State.holdDriver
    split <;> rfl
  case alertFrameReceived k p =>
    refine State.received_keeps (handle := fun u => u.takeAlert k.toNat p) _ h ?_ ?_
    · refine State.releaseSound_of_gate h (State.same_of_onlyChanges (s.takeAlert_onlyChanges ..) .doors (by decide)) ?_
      have cab := s.takeAlert_cabPresent k.toNat p
      unfold State.releaseGate
      rw [cab]
      unfold State.takeAlert
      split <;> rfl
    · exact State.releaseSound_of_same h (fun b hb => State.same_of_onlyChanges s.meetUnexpected_onlyChanges b (by
        revert hb
        cases b <;> decide)) (Supervisor.mode_of_stand s.meetUnexpected_stand)
  case toothEdge side => exact ite_keeps (State.setWheel_releaseSound h side _) h
  case wheelSensorOpenShort side present =>
    change (s.openShort side present).releaseSound
    unfold State.openShort
    dsimp only
    split
    · exact h
    all_goals exact ite_keeps (State.settle_releaseSound _) (State.setWheel_releaseSound h side _)
  case powerUp | powerUpWaitEnd | startComplete | supply | supplyGoodRun | powerOff => exact absurd rfl enters
  all_goals exact Instr.work_releaseSound_of_apart h rfl (by simp [gateBlocks, Instr.plain])

theorem State.releaseSound_restsOn : restsOn State.releaseSound (.sup :: gateBlocks) := by
  intro s t same h
  have sup : t.sup = s.sup := same .sup (by decide)
  exact State.releaseSound_of_same h (fun b hb => same b (List.mem_cons_of_mem _ hb)) (by rw [sup])

/-- Settles O59. -/
theorem stepsKeepReleasesGated : Obligations.steps_keep_releases_gated :=
  fun _ _ h next => step_keeps State.releaseSound_restsOn Instr.work_releaseSound h next

/-! ## The safe outputs (R175): O52 -/

/-- The blocks whose lines Table 10.3 lists. -/
def lineBlocks : List Block := [.steer, .joint, .brake, .air, .doors]

theorem State.outputsSafe_of_same {s t : State} {limp : Bool} (h : s.outputsSafe limp)
    (same : ∀ b ∈ lineBlocks, s.same t b) (line : t.sup.limpLine = s.sup.limpLine) : t.outputsSafe limp := by
  have steer : t.steer = s.steer := same .steer (by decide)
  have joint : t.joint = s.joint := same .joint (by decide)
  have brake : t.brake = s.brake := same .brake (by decide)
  have air : t.air = s.air := same .air (by decide)
  have doors : t.doors = s.doors := same .doors (by decide)
  obtain ⟨⟨s1, s2, b1, b2, b3, b4, a1, a2, d1, d2, j, d3⟩, speed, limpLine⟩ := h
  refine ⟨⟨?_, ?_, ?_, ?_, ?_, ?_, ?_, ?_, ?_, ?_, ?_, ?_⟩, ?_, ?_⟩
  all_goals simp only [steer, joint, brake, air, doors, line]
  all_goals assumption

/-- Safe outputs stay safe, and no mode is entered. -/
def State.keepsLines (s t : State) : Prop :=
  (∀ limp, s.outputsSafe limp → t.outputsSafe limp) ∧ t.sup.stand = s.sup.stand

theorem State.keepsLines_refl (s : State) : s.keepsLines s := ⟨fun _ h => h, rfl⟩

theorem State.keepsLines.trans {s t u : State} (h : s.keepsLines t) (k : t.keepsLines u) : s.keepsLines u :=
  ⟨fun limp safe => k.1 limp (h.1 limp safe), k.2.trans h.2⟩

theorem State.keepsLines_ite {s t u : State} {c : Prop} [Decidable c] (h : s.keepsLines t) (k : s.keepsLines u) :
    s.keepsLines (if c then t else u) := ite_keeps h k

theorem State.changesAt.keepsLines {s t : State} {blocks : List Block} (h : s.changesAt blocks t)
    (apart : ∀ b ∈ lineBlocks, b ∉ blocks) : s.keepsLines t :=
  ⟨fun _ safe => State.outputsSafe_of_same safe (fun b hb => State.same_of_onlyChanges h.1 b (apart b hb))
    (Supervisor.limpLine_of_stand h.2), h.2⟩

/-- Safe outputs are a matter of the modes START, RESTART and LIMP. -/
theorem State.linesSafe_of_working {s : State} (h : s.working = true) : s.linesSafe := by
  constructor
  · rintro (mode | mode) <;> simp [State.working, mode] at h
  · intro mode
    simp [State.working, mode] at h

theorem State.linesSafe_of_keepsLines {s t : State} (h : s.linesSafe) (k : s.keepsLines t) : t.linesSafe := by
  have mode := Supervisor.mode_of_stand k.2
  constructor
  · intro stopped
    rw [mode] at stopped
    exact k.1 _ (h.1 stopped)
  · intro limp
    rw [mode] at limp
    exact k.1 _ (h.2 limp)

theorem State.working_of_stand {s t : State} (h : t.sup.stand = s.sup.stand) : t.working = s.working := by
  unfold State.working
  rw [Supervisor.mode_of_stand h]

/-! ### Faults and settling -/

theorem State.setSup_keepsLines {s : State} {x : Supervisor} (h : x.stand = s.sup.stand) : s.keepsLines (s.setSup x) :=
  State.changesAt.keepsLines ⟨State.setSup_onlyChanges s x, h⟩ (by decide)

theorem State.setOdo_keepsLines (s : State) (x : Odometry) : s.keepsLines (s.setOdo x) :=
  State.changesAt.keepsLines ⟨State.setOdo_onlyChanges s x, rfl⟩ (by decide)

theorem State.setJoint_keepsLines {s : State} {x : JointMonitor} (h : x.damper = s.joint.damper) :
    s.keepsLines (s.setJoint x) :=
  ⟨fun _ ⟨safe, rest⟩ => ⟨{ safe with damper := h.trans safe.damper }, rest⟩, rfl⟩

/-- Both valves are closed. -/
def Levelling.closed (a : Levelling) : Prop := a.channelL.valveOpen = false ∧ a.channelR.valveOpen = false

theorem State.setAir_keepsLines {s : State} {x : Levelling} (h : s.air.closed → x.closed) : s.keepsLines (s.setAir x) :=
  ⟨fun _ ⟨safe, rest⟩ =>
    ⟨{ safe with valveL := (h ⟨safe.valveL, safe.valveR⟩).1, valveR := (h ⟨safe.valveL, safe.valveR⟩).2 }, rest⟩, rfl⟩

theorem State.setDoors_keepsLines {s : State} {x : DoorInterlock}
    (h : s.doors.slot0.release = false ∧ s.doors.slot1.release = false → x.slot0.release = false ∧ x.slot1.release = false)
    (traction : x.tractionInhibit = s.doors.tractionInhibit) (speed : x.speedLimit = s.doors.speedLimit) :
    s.keepsLines (s.setDoors x) :=
  ⟨fun _ ⟨safe, limit, line⟩ =>
    ⟨{ safe with
        door0 := (h ⟨safe.door0, safe.door1⟩).1, door1 := (h ⟨safe.door0, safe.door1⟩).2,
        traction := traction.trans safe.traction }, speed.trans limit, line⟩, rfl⟩

theorem Levelling.setChannel_closed {a : Levelling} (h : a.closed) (side : Side) {c : Channel} (k : c.valveOpen = false) :
    (a.setChannel side c).closed := by
  cases side
  · exact ⟨k, h.2⟩
  · exact ⟨h.1, k⟩

theorem Levelling.setCorner_closed {a : Levelling} (h : a.closed) (side : Side) (c : Corner) : (a.setCorner side c).closed := by
  cases side <;> exact h

theorem Channel.suspend_closed {c : Channel} (h : c.valveOpen = false) : c.suspend.valveOpen = false := by
  unfold Channel.suspend
  split
  · rfl
  · exact h

theorem Levelling.suspendFills_closed {a : Levelling} (h : a.closed) : a.suspendFills.closed :=
  ⟨Channel.suspend_closed h.1, Channel.suspend_closed h.2⟩

theorem Levelling.exclude_closed {a : Levelling} (h : a.closed) (side : Side) : (a.exclude side).closed :=
  Levelling.setChannel_closed (Levelling.setCorner_closed h side _) side rfl

theorem State.endCondition_keepsLines (s : State) (c : FaultCode) : s.keepsLines (s.endCondition c) :=
  State.setSup_keepsLines rfl

theorem State.applyConsequence_keepsLines (s : State) (c : FaultCode) : s.keepsLines (s.applyConsequence c) := by
  have marked : s.keepsLines (s.setSup (s.sup.addEffect c)) := State.setSup_keepsLines (Supervisor.addEffect_stand ..)
  cases c
  case wheelSensorL | wheelSensorR => exact marked.trans (State.setOdo_keepsLines _ _)
  case jointSensor => exact marked.trans (State.setJoint_keepsLines rfl)
  case heightSensorL | heightSensorR => exact marked.trans (State.setAir_keepsLines fun h => Levelling.exclude_closed h _)
  case reservoirSensor => exact marked.trans (State.setAir_keepsLines fun h => Levelling.suspendFills_closed h)
  case odometerSaturated => exact marked
  all_goals exact s.keepsLines_refl

theorem State.raiseFault_keepsLines (s : State) (c : FaultCode) : s.keepsLines (s.raiseFault c) := by
  have recorded (x : RecordState) (w : Option Micros) (d : List FaultCode) :
      s.keepsLines (s.setSup { (s.sup.addCondition c).record c x s.stationTime with windowFrom := w, deferred := d }) :=
    State.setSup_keepsLines
      (((s.sup.addCondition c).record_stand c x s.stationTime).trans (s.sup.addCondition_stand c))
  have active : s.keepsLines (s.setSup ((s.sup.addCondition c).record c .active s.stationTime)) := recorded ..
  unfold State.raiseFault
  dsimp only
  split
  · exact active.trans ((State.setSup_keepsLines (by simp)).trans (State.setOdo_keepsLines _ _))
  split
  · exact active
  split
  · exact recorded ..
  · exact active.trans (State.applyConsequence_keepsLines ..)

theorem State.follow_keepsLines (s : State) (c : FaultCode) (present : Bool) : s.keepsLines (s.follow c present) := by
  rcases s.follow_cases c present with ⟨-, -, e⟩ | ⟨-, -, e⟩ | ⟨-, e⟩ <;> rw [e]
  · exact s.keepsLines_refl
  · exact s.raiseFault_keepsLines c
  · exact s.endCondition_keepsLines c

theorem State.applyAll_keepsLines (s : State) (cs : List FaultCode) : s.keepsLines (s.applyAll cs) := by
  induction cs generalizing s with
  | nil => exact s.keepsLines_refl
  | cons c rest ih =>
    have undeferred : s.keepsLines (s.setSup (s.sup.undefer c)) := State.setSup_keepsLines rfl
    exact (undeferred.trans (State.applyConsequence_keepsLines ..)).trans (ih _)

theorem State.closeWindow_keepsLines (s : State) : s.keepsLines s.closeWindow :=
  (s.applyAll_keepsLines _).trans (State.setSup_keepsLines rfl)

theorem DoorSlot.gate_off (d : DoorSlot) : d.gate.release = false := d.gate_release

theorem State.settle_linesSafe {s : State} (h : s.linesSafe) : s.settle.linesSafe := by
  have gated (t : State) : t.keepsLines t.gateReleases := by
    rcases t.gateReleases_cases with ⟨-, e⟩ | ⟨-, -, e⟩ <;> rw [e]
    · exact t.keepsLines_refl
    · exact State.setDoors_keepsLines (fun _ => ⟨DoorSlot.gate_release _, DoorSlot.gate_release _⟩) rfl rfl
  have closed : s.closeIfIdle.linesSafe := by
    rcases s.closeIfIdle_cases with ⟨-, -, e⟩ | ⟨-, e⟩ <;> rw [e]
    · exact State.linesSafe_of_keepsLines h s.closeWindow_keepsLines
    · exact h
  refine State.linesSafe_of_keepsLines ?_ (gated _)
  rcases s.closeIfIdle.updateMode_cases with ⟨-, -, e⟩ | ⟨-, -, e⟩ | e <;> rw [e]
  · exact State.linesSafe_of_working rfl
  · exact State.linesSafe_of_working rfl
  · exact closed

/-! ### The entries to the modes -/

theorem State.limpBlocks_outputsSafe {s : State} (h : s.outputsSafe true) : s.limpBlocks.outputsSafe true := by
  obtain ⟨safe, limit, line⟩ := State.outputsSafe_of_same h (fun b hb => State.same_of_onlyChanges
    s.clearTrack_onlyChanges b (by revert hb; cases b <;> decide)) rfl
  obtain ⟨select, relay, left, right⟩ : (s.clearTrack.latchBackup .limp).brake.select = false
      ∧ (s.clearTrack.latchBackup .limp).brake.line = 0 ∧ (s.clearTrack.latchBackup .limp).brake.slipL.quiet
      ∧ (s.clearTrack.latchBackup .limp).brake.slipR.quiet := by
    unfold State.latchBackup
    rcases (s.clearTrack.setBrake (s.clearTrack.brake.latch .limp)).enterBackup_cases with ⟨-, e⟩ | ⟨-, e⟩ <;> rw [e]
    · exact ⟨safe.select, safe.relay, safe.left, safe.right⟩
    · exact ⟨rfl, rfl, ⟨rfl, rfl⟩, ⟨rfl, rfl⟩⟩
  obtain ⟨traction, speed⟩ : (s.clearTrack.latchBackup .limp).doors.tractionInhibit = .notDriven
      ∧ (s.clearTrack.latchBackup .limp).doors.speedLimit = .asserted := by
    unfold State.latchBackup
    rcases (s.clearTrack.setBrake (s.clearTrack.brake.latch .limp)).enterBackup_cases with ⟨-, e⟩ | ⟨-, e⟩ <;> rw [e]
    all_goals exact ⟨safe.traction, limit⟩
  have limpLine : s.limpBlocks.sup.limpLine = .asserted := by
    rw [show s.limpBlocks.sup = s.clearTrack.sup by simp [State.limpBlocks]]
    exact line
  exact ⟨{ solenoid := rfl, steerLine := rfl, select := select, relay := relay, left := left, right := right, valveL := rfl,
           valveR := rfl, door0 := DoorSlot.drop_release _, door1 := DoorSlot.drop_release _, damper := rfl,
           traction := traction }, speed, limpLine⟩

theorem State.enterLimp_outputsSafe (s : State) (cause : Int) : (s.enterLimp cause).outputsSafe true := by
  have limped := State.limpBlocks_outputsSafe
    ((s.safeOutputs true).closeWindow_keepsLines.1 true (s.safeOutputs_outputsSafe true))
  have queued (t : State) (safe : t.outputsSafe true) : (t.queueAlert .limpEntered 255 cause).outputsSafe true :=
    State.outputsSafe_of_same safe (fun b hb => State.same_of_onlyChanges (State.queueAlert_onlyChanges ..) b
      (by revert hb; cases b <;> decide)) (by rw [State.queueAlert_sup])
  unfold State.enterLimp
  dsimp only
  generalize (s.safeOutputs true).closeWindow.limpBlocks = t at limped
  obtain ⟨safe, speed, line⟩ := limped
  exact queued _ (ite_keeps (P := fun u : State => u.outputsSafe true) ⟨{ safe with }, speed, line⟩ ⟨{ safe with }, speed, line⟩)

theorem State.linesSafe_moves : ModeMoves State.linesSafe where
  reset _ _ := ⟨fun _ => ⟨⟨rfl, rfl, rfl, rfl, ⟨rfl, rfl⟩, ⟨rfl, rfl⟩, rfl, rfl, rfl, rfl, rfl, rfl⟩, rfl, rfl⟩,
    fun limp => absurd (show Mode.start = .limp from limp) (by decide)⟩
  start s _ := ⟨fun _ => s.enterStart_outputsSafe, fun limp => absurd limp (by simp)⟩
  abandon s r mode h := by
    obtain ⟨-, -, line⟩ := h.1 (.inl mode)
    refine ⟨fun _ => ⟨⟨rfl, rfl, rfl, rfl, ⟨rfl, rfl⟩, ⟨rfl, rfl⟩, rfl, rfl, rfl, rfl, rfl, rfl⟩, rfl, line⟩, fun limp => ?_⟩
    have same : s.sup.mode = .limp := limp
    simp [mode] at same
  blocks s r mode h := by
    obtain ⟨-, -, line⟩ := h.1 (.inl mode)
    have notLimp : (s.startBlocks r).sup.mode ≠ .limp := by simp [mode]
    refine ⟨fun _ => ?_, fun limp => absurd limp notLimp⟩
    rcases s.startBlocks_cases r with ⟨p, -, e⟩ | ⟨-, e⟩ <;> rw [e]
    · refine ⟨⟨rfl, rfl, rfl, rfl, ⟨rfl, rfl⟩, ⟨rfl, rfl⟩, rfl, rfl, ?_, ?_, rfl, rfl⟩, rfl, line⟩
      · exact ite_keeps (P := fun d : DoorSlot => d.release = false) (c := 1 ≤ p.doorCount) rfl rfl
      · exact ite_keeps (P := fun d : DoorSlot => d.release = false) (c := 2 ≤ p.doorCount) rfl rfl
    · exact ⟨⟨rfl, rfl, rfl, rfl, ⟨rfl, rfl⟩, ⟨rfl, rfl⟩, rfl, rfl, rfl, rfl, rfl, rfl⟩, rfl, line⟩
  sync s _ _ := State.linesSafe_of_working rfl
  restart s _ := ⟨fun _ => s.enterRestart_outputsSafe, fun limp => absurd limp (by simp)⟩
  limp s cause _ := ⟨fun stopped => absurd stopped (by simp), fun _ => s.enterLimp_outputsSafe cause⟩
  supervised s t changed mode line h := by
    have kept (limp : Bool) (safe : s.outputsSafe limp) : t.outputsSafe limp :=
      State.outputsSafe_of_same safe (fun b hb => State.same_of_onlyChanges changed b (by revert hb; cases b <;> decide)) line
    exact ⟨fun stopped => kept _ (h.1 (mode ▸ stopped)), fun limp => kept _ (h.2 (mode ▸ limp))⟩

/-! ### The expiries that work in LIMP -/

theorem State.readJoint_keepsLines (s : State) (joint : AnalogIn) : s.keepsLines (s.readJoint joint) := by
  unfold State.readJoint
  split
  all_goals exact (s.follow_keepsLines _ _).trans (State.setJoint_keepsLines rfl)

theorem State.readDoors_keepsLines (s : State) (inputs : DoorInputs) : s.keepsLines (s.readDoors inputs) := by
  have read (d : DoorSlot) (c e : SwitchIn) (off : d.release = false) : (d.read c e).release = false :=
    ite_keeps (P := fun x : DoorSlot => x.release = false) off off
  have alerts (t : State) (k : Nat) (b a : DoorSlot) : t.keepsLines (t.doorAlerts k b a) := by
    refine State.changesAt.keepsLines ⟨t.doorAlerts_onlyChanges k b a, ?_⟩ (by decide)
    unfold State.doorAlerts
    dsimp only
    split_ifs <;> simp
  have raised (t : State) (x : Bool) : t.keepsLines (t.raiseIf .doorUnreleased x) :=
    State.keepsLines_ite (t.raiseFault_keepsLines _) t.keepsLines_refl
  have faults (t : State) (x y : Bool) : t.keepsLines (t.doorFault x y) :=
    State.keepsLines_ite ((raised t x).trans (raised _ y))
      (((raised t x).trans (raised _ y)).trans (State.endCondition_keepsLines ..))
  have taken : s.keepsLines (s.setDoors
      { s.doors with
        slot0 := s.doors.slot0.read inputs.closed0 inputs.edge0, slot1 := s.doors.slot1.read inputs.closed1 inputs.edge1 }) :=
    State.setDoors_keepsLines (fun off => ⟨read _ _ _ off.1, read _ _ _ off.2⟩) rfl rfl
  exact ((taken.trans (alerts ..)).trans (alerts ..)).trans (faults ..)

theorem State.readLevel_keepsLines (s : State) (inputs : LevelInputs) : s.keepsLines (s.readLevel inputs) := by
  have reservoir (t : State) (x : AnalogIn) : t.keepsLines (t.readReservoir x) := by
    unfold State.readReservoir
    split
    all_goals exact (t.follow_keepsLines _ _).trans (State.setAir_keepsLines fun h => h)
  have height (t : State) (side : Side) (ran : Bool) (x : AnalogIn) : t.keepsLines (t.readHeight side ran x) := by
    refine State.keepsLines.trans (State.setAir_keepsLines fun h => ?_) (State.follow_keepsLines ..)
    have cornered := Levelling.setCorner_closed h side ((t.air.corner side).readHeight ran x)
    exact ite_keeps (P := Levelling.closed) (Levelling.setChannel_closed cornered side rfl) cornered
  have bellows (t : State) (l r : AnalogIn) : t.keepsLines (t.readBellows l r) := by
    refine State.keepsLines.trans ?_ (State.follow_keepsLines ..)
    exact State.setAir_keepsLines fun h => h
  exact ((((reservoir ..).trans (height ..)).trans (height ..)).trans (bellows ..))

theorem State.airWork_keepsLines (s : State) (p : Params) : s.keepsLines (s.airWork p) := by
  refine State.keepsLines_ite s.keepsLines_refl (State.setAir_keepsLines fun h => ?_)
  have resumed {c : Channel} (closed : c.valveOpen = false) : c.resume.valveOpen = false :=
    ite_keeps (P := fun x : Channel => x.valveOpen = false) closed closed
  unfold Levelling.setAirStatus
  split
  · exact Levelling.suspendFills_closed h
  all_goals exact ite_keeps (P := Levelling.closed) ⟨resumed h.1, resumed h.2⟩ h

theorem State.levelInLimp_keepsLines (s : State) (p : Params) : s.keepsLines (s.levelInLimp p) := by
  have left (t : State) (before : LevelState) : t.keepsLines (t.leaveReturning before) :=
    State.keepsLines_ite (t.endCondition_keepsLines _) t.keepsLines_refl
  refine State.keepsLines.trans ?_ (left ..)
  exact State.setAir_keepsLines fun h => h

/-- In LIMP the three blocks that still work read their inputs and drive nothing (R110, R151, R169). -/
theorem State.jointWork_keepsLines {s : State} (limp : s.inLimp = true) (joint : AnalogIn) (p : Params) :
    s.keepsLines (s.jointWork joint p) := by
  unfold State.jointWork
  rw [if_pos limp]
  exact s.readJoint_keepsLines joint

theorem State.doorWork_keepsLines {s : State} (limp : s.inLimp = true) (inputs : DoorInputs) (p : Params) :
    s.keepsLines (s.doorWork inputs p) := by
  unfold State.doorWork
  rw [if_pos limp]
  exact s.readDoors_keepsLines inputs

theorem State.levellingWork_keepsLines {s : State} (limp : s.inLimp = true) (inputs : LevelInputs) (p : Params) :
    s.keepsLines (s.levellingWork inputs p) := by
  have loaded (t : State) : t.keepsLines (t.loadWork p) :=
    State.keepsLines_ite (State.setAir_keepsLines fun h => h) t.keepsLines_refl
  unfold State.levellingWork
  rw [if_pos limp]
  exact (((s.readLevel_keepsLines inputs).trans (State.airWork_keepsLines ..)).trans (loaded _)).trans
    (State.levelInLimp_keepsLines ..)

/-- An expiry's work and what follows it: in SYNC, RUN and DEGRADED no line need be safe, and in LIMP none is driven. -/
theorem State.expiry_linesSafe {s : State} {work : Params → State → State} (h : s.linesSafe) (timers : s.timersRun = true)
    (stand : ∀ p, (work p s).sup.stand = s.sup.stand) (limp : s.inLimp = true → ∀ p, s.keepsLines (work p s)) :
    (s.withCopy work).settle.linesSafe := by
  refine State.settle_linesSafe ?_
  by_cases works : s.working = true
  · refine State.linesSafe_of_working ?_
    rw [State.working_of_stand (State.withCopy_stand stand), works]
  · have inLimp : s.inLimp = true := by simpa [State.timersRun, works] using timers
    exact State.withCopy_keeps h fun p => State.linesSafe_of_keepsLines h (limp inLimp p)

section
variable {s : State} (h : s.linesSafe)
include h

/-- An expiry in SYNC, RUN and DEGRADED alone. -/
theorem State.workingExpiry_linesSafe {work : Params → State → State} (works : s.working = true)
    (stand : ∀ p, (work p s).sup.stand = s.sup.stand) : (s.withCopy work).settle.linesSafe :=
  State.expiry_linesSafe h (by simp [State.timersRun, works]) stand (fun limp _ => by
    simp only [State.inLimp, beq_iff_eq] at limp
    simp [State.working, limp] at works)

theorem State.steerExpiry_linesSafe (angle : AnalogIn) : (s.steerExpiry angle).linesSafe := by
  unfold State.steerExpiry
  split
  · next works => exact State.workingExpiry_linesSafe h (Bool.and_eq_true_iff.mp works).1 (s.steerWork_stand angle)
  · exact h

theorem State.brakeExpiry_linesSafe (pressure : AnalogIn) : (s.brakeExpiry pressure).linesSafe := by
  unfold State.brakeExpiry
  split
  · next works => exact State.workingExpiry_linesSafe h works (s.brakeWork_stand pressure)
  · exact h

theorem State.jointExpiry_linesSafe (joint : AnalogIn) : (s.jointExpiry joint).linesSafe := by
  unfold State.jointExpiry
  split
  · next works =>
    exact State.expiry_linesSafe h (Bool.and_eq_true_iff.mp works).1 (s.jointWork_stand joint)
      (fun limp p => State.jointWork_keepsLines limp joint p)
  · exact h

theorem State.doorExpiry_linesSafe (inputs : DoorInputs) : (s.doorExpiry inputs).linesSafe := by
  unfold State.doorExpiry
  split
  · next works =>
    exact State.expiry_linesSafe h works (s.doorWork_stand inputs) (fun limp p => State.doorWork_keepsLines limp inputs p)
  · exact h

theorem State.levelExpiry_linesSafe (inputs : LevelInputs) : (s.levelExpiry inputs).linesSafe := by
  unfold State.levelExpiry
  split
  · next works =>
    exact State.expiry_linesSafe h works (s.levellingWork_stand inputs)
      (fun limp p => State.levellingWork_keepsLines limp inputs p)
  · exact h

/-- A command that enters no mode and touches no line. -/
theorem Instr.work_linesSafe_of_apart {i : Instr} (keeps : keepsMode i = true)
    (apart : ∀ b ∈ lineBlocks, b ∉ i.settles ∧ b ∉ i.plain) : (i.work s).linesSafe := by
  rcases Instr.work_settlesOr i s keeps with ⟨u, changed, e⟩ | changed
  · rw [e]
    exact State.settle_linesSafe (State.linesSafe_of_keepsLines h (changed.keepsLines fun b hb => (apart b hb).1))
  · exact State.linesSafe_of_keepsLines h (changed.keepsLines fun b hb => (apart b hb).2)

theorem State.setChannel_linesSafe (side : Side) {c : Channel}
    (closed : (s.air.channel side).valveOpen = false → c.valveOpen = false) :
    (s.setAir (s.air.setChannel side c)).linesSafe := by
  refine State.linesSafe_of_keepsLines h (State.setAir_keepsLines fun both => ?_)
  refine Levelling.setChannel_closed both side (closed ?_)
  cases side
  · exact both.1
  · exact both.2

end

theorem Instr.work_linesSafe (i : Instr) (s : State) (h : s.linesSafe) : (i.work s).linesSafe := by
  by_cases enters : entersMode i = true
  · exact State.linesSafe_moves.enters enters h
  cases i
  case syncTimeout =>
    exact ite_keeps (State.settle_linesSafe (State.linesSafe_of_working (s := s.enterDegraded) rfl)) h
  case deferralWindowTimeout =>
    exact ite_keeps (State.settle_linesSafe (State.linesSafe_of_keepsLines h s.closeWindow_keepsLines)) h
  case steeringExpiry a => exact State.steerExpiry_linesSafe h a
  case lockLossRun | notValidRun | guidedExitRun | centredRun | steerMismatch | centringTravelTimeout =>
    exact ite_keeps (State.steerExpiry_linesSafe h _) h
  case jointMonitorExpiry a => exact State.jointExpiry_linesSafe h a
  case jackAlertSetRun | jackAlertClearRun => exact ite_keeps (State.jointExpiry_linesSafe h _) h
  case brakingExpiry a => exact State.brakeExpiry_linesSafe h a
  case slipReapplyDone | brakePressureMismatch | backupExitRun =>
    exact ite_keeps (State.brakeExpiry_linesSafe h _) h
  case doorInterlockExpiry inputs => exact State.doorExpiry_linesSafe h inputs
  case levellingExpiry inputs => exact State.levelExpiry_linesSafe h inputs
  case heightStuck | kneelTimeout | raiseTimeout => exact ite_keeps (State.levelExpiry_linesSafe h _) h
  case pulseEnd side =>
    refine ite_keeps (State.setChannel_linesSafe h side fun _ => ?_) h
    exact ite_keeps (P := fun c : Channel => c.valveOpen = false) rfl rfl
  case continuousStopReached side _ => exact ite_keeps (State.setChannel_linesSafe h side fun _ => rfl) h
  case twistGateReached =>
    exact State.withCopy_keeps h fun p => ite_keeps (State.setChannel_linesSafe h _ fun _ => rfl) h
  case powerUp | powerUpWaitEnd | startComplete | supply | supplyGoodRun | powerOff => exact absurd rfl enters
  all_goals exact Instr.work_linesSafe_of_apart h rfl (by simp [lineBlocks, Instr.settles, Instr.plain])

theorem State.linesSafe_restsOn : restsOn State.linesSafe (.sup :: lineBlocks) := by
  intro s t same h
  have sup : t.sup = s.sup := same .sup (by decide)
  have kept (limp : Bool) (safe : s.outputsSafe limp) : t.outputsSafe limp :=
    State.outputsSafe_of_same safe (fun b hb => same b (List.mem_cons_of_mem _ hb)) (by rw [sup])
  exact ⟨fun stopped => kept _ (h.1 (sup ▸ stopped)), fun limp => kept _ (h.2 (sup ▸ limp))⟩

/-- Settles O52. -/
theorem stepsKeepLinesSafe : Obligations.steps_keep_lines_safe :=
  fun _ _ h next => step_keeps State.linesSafe_restsOn Instr.work_linesSafe h next

/-! ## LIMP is left by power-off alone (R178, R179): O11 -/

/-- Outside SYNC, RUN and DEGRADED settling moves no mode. -/
theorem State.settle_stand_of_stopped {s : State} (h : s.working = false) : s.settle.sup.stand = s.sup.stand := by
  have closed : s.closeIfIdle.working = false := by rw [State.working_of_stand s.closeIfIdle_stand, h]
  have unmoved : s.closeIfIdle.updateMode = s.closeIfIdle := by
    unfold State.updateMode
    unfold State.working at closed
    split <;> simp_all
  unfold State.settle
  rw [State.gateReleases_sup, unmoved, State.closeIfIdle_stand]

/-- Supplied, and in LIMP. -/
def State.limping (s : State) : Prop := s.sup.power = .on ∧ s.sup.mode = .limp

theorem State.limping_of_stand {s t : State} (h : s.limping) (stand : t.sup.stand = s.sup.stand) : t.limping :=
  ⟨(Supervisor.power_of_stand stand).trans h.1, (Supervisor.mode_of_stand stand).trans h.2⟩

theorem State.limping.notWorking {s : State} (h : s.limping) : s.working = false := by
  unfold State.working
  rw [h.2]

/-- In LIMP a reading of the supply records SUPPLY at most. -/
theorem State.readSupply_limping {s : State} (h : s.limping) (mv : Nat) (r : AbandonedReading) :
    (s.readSupply mv r).limping := by
  have good {t : State} (ht : t.limping) : (t.readGood mv).limping :=
    ite_keeps (P := State.limping) ht ht
  have read : (s.setSup (s.sup.readRuns mv s.now)).limping := h
  have raised : ((s.setSup (s.sup.readRuns mv s.now)).raiseSupply r).limping := by
    unfold State.raiseSupply
    rw [read.2]
    exact State.limping_of_stand read (State.raiseFault_stand ..)
  unfold State.readSupply
  rw [h.1]
  exact good (ite_keeps raised read)

theorem Instr.work_limping (i : Instr) (s : State) (h : s.limping) (supplied : ∀ dt, i ≠ .powerOff dt) :
    (i.work s).limping := by
  obtain ⟨power, mode⟩ := h
  by_cases keeps : keepsMode i = true
  · rcases Instr.work_settlesOr i s keeps with ⟨u, ⟨-, stand⟩, e⟩ | ⟨-, stand⟩
    · have before : u.limping := State.limping_of_stand ⟨power, mode⟩ stand
      rw [e]
      exact State.limping_of_stand before (State.settle_stand_of_stopped before.notWorking)
    · exact State.limping_of_stand ⟨power, mode⟩ stand
  cases i
  case powerOff dt => exact absurd rfl (supplied dt)
  case supply mv r => exact State.readSupply_limping ⟨power, mode⟩ mv r
  case supplyGoodRun =>
    change s.goodRun.limping
    unfold State.goodRun
    rw [mode]
    exact ite_keeps (P := State.limping) ⟨power, mode⟩ ⟨power, mode⟩
  case powerUp =>
    change s.powerUp.limping
    rw [State.powerUp, if_neg (by simp [power])]
    exact ⟨power, mode⟩
  case powerUpWaitEnd =>
    change s.endWait.limping
    rw [State.endWait, if_neg (by simp [power])]
    exact ⟨power, mode⟩
  case startComplete _ r =>
    change (s.endStart r).limping
    rw [State.endStart, if_neg (by simp [mode])]
    exact ⟨power, mode⟩
  case syncTimeout =>
    change s.syncTimeout.limping
    rw [State.syncTimeout, if_neg (by simp [mode])]
    exact ⟨power, mode⟩
  all_goals exact absurd rfl keeps

/-- Settles O11. -/
theorem limpIsLeftByPowerOffOnly : Obligations.limp_is_left_by_power_off_only := by
  intro i s t power mode supplied next
  rw [exec_eq_work] at next
  injection next with next
  subst next
  exact Instr.work_limping i _ ⟨power, mode⟩ supplied

end Sys2Proof.Machine
end

section
/-! PROOFS. The supervisor's properties before supply, and a state from which a step loses them (R172, R182): O60, O53. -/

namespace Sys2Proof.Machine

/-! ## Before supply: O60 -/

/-- Settles O60. -/
theorem resetStateIsSound : Obligations.reset_state_is_sound := by
  have lines := State.linesSafe_moves.reset [] 0
  have releases := State.releaseSound_moves.reset [] 0
  have link := State.linkSound_modeEntries.reset [] 0
  have track := State.trackSound_modeEntries.reset [] 0
  have steer := State.steerSound_modeEntries.reset [] 0
  have backup := State.backupSound_modeEntries.reset [] 0
  have air := State.airSound_modeEntries.reset [] 0
  have counter : State.reset.counterSound := Nat.zero_le 3
  have faults : State.reset.faultsSound := ⟨Nat.zero_le _, List.nodup_nil⟩
  have window : State.reset.windowSound := ⟨fun opened => absurd opened (by decide), fun held => absurd rfl held⟩
  have deferral : State.reset.deferralSound :=
    { pending := fun f mem => absurd mem List.not_mem_nil
      effective := fun f mem => absurd mem List.not_mem_nil
      waiting := fun c mem => absurd mem List.not_mem_nil
      resting := fun _ f mem => absurd mem List.not_mem_nil }
  have mode : State.reset.modeSound := ⟨fun run => absurd run (by decide), fun degraded => absurd degraded (by decide)⟩
  have peers : State.reset.peersSound :=
    ⟨State.copySound_of_none rfl, List.Pairwise.nil, fun x mem => absurd mem List.not_mem_nil⟩
  have marks : State.reset.marksSound := ⟨Nat.zero_le _, fun x mem => absurd mem List.not_mem_nil⟩
  exact ⟨lines, counter, faults, window, deferral, mode, link, peers, marks, track, steer, backup, air, releases⟩

/-! ## The end of the power-up wait: O53 -/

/-- The power-up wait, 50 ms of good run gone, with the supervisor in DEGRADED and WHEEL_SENSOR_L on its list: the
hypotheses of O53 leave `power` free of `mode`. -/
def waitingDegraded : State :=
  { State.reset with
    pending := [.powerUpWaitEnd 0]
    now := 50000
    doors := { DoorInterlock.initial with speedLimit := .asserted }
    sup :=
      { Supervisor.initial with
        power := .waiting, mode := .degraded, goodFrom := some 0, effects := [.wheelSensorL],
        conditions := [.wheelSensorL],
        faults := [{ code := .wheelSensorL, state := .active, count := 1, first := 0, last := 0 }] } }

theorem waitingDegraded_deferralSound : waitingDegraded.deferralSound where
  pending f mem := by
    obtain rfl := List.mem_singleton.mp mem
    decide
  effective f mem _ _ := by
    obtain rfl := List.mem_singleton.mp mem
    decide
  waiting c mem := absurd mem List.not_mem_nil
  resting stopped := absurd stopped (by decide)

theorem waitingDegraded_modeSound : waitingDegraded.modeSound :=
  ⟨fun run => absurd run (by decide), fun _ => ⟨.inr (.inl (by decide)), rfl⟩⟩

/-- The state that the end of the wait leaves: START, with the fault list as it was (R172). -/
def waitingDegradedStarted : State :=
  ({ waitingDegraded with pending := [], sup := { waitingDegraded.sup with power := .on } }).enterStart

theorem step_waitingDegraded : step waitingDegraded = .next waitingDegradedStarted := rfl

/-- Refutes O53: entry to START keeps the fault list and ends every consequence, so an ACTIVE record of a deferrable code
stays ACTIVE where the blocks do not work. -/
theorem not_stepsKeepSupervisorSound : ¬ Obligations.steps_keep_supervisor_sound := by
  intro h
  have before : waitingDegraded.counterSound ∧ waitingDegraded.faultsSound ∧ waitingDegraded.windowSound
      ∧ waitingDegraded.deferralSound ∧ waitingDegraded.modeSound :=
    ⟨Nat.zero_le 3, ⟨by decide, by decide⟩, ⟨fun opened => absurd opened (by decide), fun held => absurd rfl held⟩,
      waitingDegraded_deferralSound, waitingDegraded_modeSound⟩
  obtain ⟨-, -, -, deferral, -, -⟩ := h _ _ before step_waitingDegraded
  exact deferral.resting rfl _ (List.mem_singleton.mpr rfl) rfl rfl

end Sys2Proof.Machine
end

section
/-! PROOFS. Commands that do nothing but pass time (R2, R9, R24, R66, R79, R101, R113): O3. -/

namespace Sys2Proof.Machine

/-! ## Work that is not due -/

/-- A command whose work finds nothing to do passes its time. -/
theorem exec_idle {i : Instr} {s : State} (idle : i.work (s.advance i.elapsed) = s.advance i.elapsed) :
    exec i s = .next (s.advance i.elapsed) := by
  rw [exec_eq_work, idle]

@[simp] theorem State.expiryIf_self (s : State) (happens : Bool) : s.expiryIf s happens = s := ite_self s

theorem State.expiryIf_of_idle {s after : State} (h : after = s) (happens : Bool) : s.expiryIf after happens = s := by
  rw [h, State.expiryIf_self]

section
variable {s : State}

theorem State.speedExpiry_idle (h : s.timersRun = false) : s.speedExpiry = s := if_neg (by simp [h])

theorem State.trackExpiry_idle (h : s.timersRun = false ∨ s.keepsTrack = false) : s.trackExpiry = s :=
  if_neg (by rcases h with h | h <;> simp [h])

theorem State.steerExpiry_idle (h : s.working = false ∨ s.isSteered = false) (a : AnalogIn) : s.steerExpiry a = s :=
  if_neg (by rcases h with h | h <;> simp [h])

theorem State.jointExpiry_idle (h : s.timersRun = false ∨ s.ownsJoint = false) (a : AnalogIn) : s.jointExpiry a = s :=
  if_neg (by rcases h with h | h <;> simp [h])

theorem State.brakeExpiry_idle (h : s.working = false) (a : AnalogIn) : s.brakeExpiry a = s := if_neg (by simp [h])

theorem State.levelExpiry_idle (h : s.timersRun = false) (inputs : LevelInputs) : s.levelExpiry inputs = s :=
  if_neg (by simp [h])

theorem State.doorExpiry_idle (h : s.timersRun = false) (inputs : DoorInputs) : s.doorExpiry inputs = s :=
  if_neg (by simp [h])

theorem State.pathExpiry_idle (h : s.timersRun = false ∨ s.isCab = false) (a : AnalogIn) : s.pathExpiry a = s :=
  if_neg (by rcases h with h | h <;> simp [h])

theorem State.emitDriver_idle (h : s.timersRun = false ∨ s.isCab = false) (lines : DriverLines) : s.emitDriver lines = s :=
  if_neg (by rcases h with h | h <;> simp [h])

end

/-! ## The commands of a block that stands still -/

section
variable {s : State} {i : Instr} (dt k : Nat) (side : Side) (a : AnalogIn)

theorem speedCommands_idle (off : s.timersRun = false)
    (mem : i ∈ [Instr.toothEdge dt side, .speedOdometryExpiry dt, .wheelZeroSpeedTimeout dt side,
      .wheelPlausibilityFail dt side, .standstillSet dt, .cabMarkAdoption dt, .rearAdoptionTimeout dt]) :
    i.work s = s := by
  have idle := State.speedExpiry_idle off
  simp only [List.mem_cons, List.not_mem_nil, or_false] at mem
  rcases mem with rfl | rfl | rfl | rfl | rfl | rfl | rfl
  · exact if_neg (by simp [off])
  · exact idle
  all_goals exact State.expiryIf_of_idle idle _

theorem trackCommands_idle (off : s.timersRun = false ∨ s.keepsTrack = false)
    (mem : i ∈ [Instr.trackMemoryExpiry dt, .trackStarved dt]) : i.work s = s := by
  have idle := State.trackExpiry_idle off
  simp only [List.mem_cons, List.not_mem_nil, or_false] at mem
  rcases mem with rfl | rfl
  · exact idle
  · exact State.expiryIf_of_idle idle _

theorem steerCommands_idle (off : s.working = false ∨ s.isSteered = false)
    (mem : i ∈ [Instr.steeringExpiry dt a, .lockLossRun dt a, .notValidRun dt a, .guidedExitRun dt a, .centredRun dt a,
      .steerMismatch dt a, .centringTravelTimeout dt a]) : i.work s = s := by
  have idle := State.steerExpiry_idle off a
  simp only [List.mem_cons, List.not_mem_nil, or_false] at mem
  rcases mem with rfl | rfl | rfl | rfl | rfl | rfl | rfl
  · exact idle
  all_goals exact State.expiryIf_of_idle idle _

theorem jointCommands_idle (off : s.timersRun = false ∨ s.ownsJoint = false)
    (mem : i ∈ [Instr.jointMonitorExpiry dt a, .jackAlertSetRun dt a, .jackAlertClearRun dt a]) : i.work s = s := by
  have idle := State.jointExpiry_idle off a
  simp only [List.mem_cons, List.not_mem_nil, or_false] at mem
  rcases mem with rfl | rfl | rfl
  · exact idle
  all_goals exact State.expiryIf_of_idle idle _

theorem brakeCommands_idle (off : s.working = false)
    (mem : i ∈ [Instr.brakingExpiry dt a, .slipReapplyDone dt side a, .brakePressureMismatch dt a, .backupExitRun dt a]) :
    i.work s = s := by
  have idle := State.brakeExpiry_idle off a
  simp only [List.mem_cons, List.not_mem_nil, or_false] at mem
  rcases mem with rfl | rfl | rfl | rfl
  · exact idle
  all_goals exact State.expiryIf_of_idle idle _

theorem levelCommands_idle (levels : LevelInputs) (off : s.timersRun = false)
    (mem : i ∈ [Instr.levellingExpiry dt levels, .heightStuck dt side levels, .kneelTimeout dt levels,
      .raiseTimeout dt levels]) : i.work s = s := by
  have idle := State.levelExpiry_idle off levels
  simp only [List.mem_cons, List.not_mem_nil, or_false] at mem
  rcases mem with rfl | rfl | rfl | rfl
  · exact idle
  all_goals exact State.expiryIf_of_idle idle _

theorem peerCommands_idle (off : s.timersRun = false)
    (mem : i ∈ [Instr.missed dt k, .driverStatusHolding dt, .driverStatusExpired dt, .cabLost dt]) : i.work s = s := by
  simp only [List.mem_cons, List.not_mem_nil, or_false] at mem
  rcases mem with rfl | rfl | rfl | rfl
  all_goals exact if_neg (by simp [off])

/-- The commands of every block that the block timers drive. -/
theorem timedCommands_idle (levels : LevelInputs) (doors : DoorInputs) (lines : DriverLines) (off : s.timersRun = false)
    (mem : i ∈ [Instr.toothEdge dt side, .speedOdometryExpiry dt, .wheelZeroSpeedTimeout dt side,
        .wheelPlausibilityFail dt side, .standstillSet dt, .cabMarkAdoption dt, .rearAdoptionTimeout dt]
      ++ [Instr.trackMemoryExpiry dt, .trackStarved dt]
      ++ [Instr.jointMonitorExpiry dt a, .jackAlertSetRun dt a, .jackAlertClearRun dt a]
      ++ [Instr.levellingExpiry dt levels, .heightStuck dt side levels, .kneelTimeout dt levels, .raiseTimeout dt levels]
      ++ [Instr.missed dt k, .driverStatusHolding dt, .driverStatusExpired dt, .cabLost dt]
      ++ [.pathGeneratorExpiry dt a, .stateEmission dt, .driverEmission dt lines, .doorInterlockExpiry dt doors]) :
    i.work s = s := by
  rcases List.mem_append.mp mem with mem | mem
  · simp only [List.append_assoc] at mem
    rcases List.mem_append.mp mem with mem | mem
    · exact speedCommands_idle dt side off mem
    rcases List.mem_append.mp mem with mem | mem
    · exact trackCommands_idle dt (.inl off) mem
    rcases List.mem_append.mp mem with mem | mem
    · exact jointCommands_idle dt a (.inl off) mem
    rcases List.mem_append.mp mem with mem | mem
    · exact levelCommands_idle dt side levels off mem
    · exact peerCommands_idle dt k off mem
  · simp only [List.mem_cons, List.not_mem_nil, or_false] at mem
    rcases mem with rfl | rfl | rfl | rfl
    · exact State.pathExpiry_idle (.inl off) a
    · exact if_neg (by simp [off])
    · exact State.emitDriver_idle (.inl off) lines
    · exact State.doorExpiry_idle off doors

theorem cabCommands_idle (lines : DriverLines) (off : s.isCab = false)
    (mem : i ∈ [Instr.pathGeneratorExpiry dt a, .driverEmission dt lines, .cabMarkAdoption dt]) : i.work s = s := by
  simp only [List.mem_cons, List.not_mem_nil, or_false] at mem
  rcases mem with rfl | rfl | rfl
  · exact State.pathExpiry_idle (.inr off) a
  · exact State.emitDriver_idle (.inr off) lines
  · exact if_neg (by simp [State.cabAdopts, off])

theorem attemptCommands_idle (none : s.link.attempt = none)
    (mem : i ∈ [Instr.attemptCompleted dt, .arbitrationLost dt, .attemptDestroyed dt]) : i.work s = s := by
  simp only [List.mem_cons, List.not_mem_nil, or_false] at mem
  rcases mem with rfl | rfl | rfl
  · change s.completeAttempt = s
    simp [State.completeAttempt, none]
  · change s.setLink { s.link with attempt := .none } = s
    rw [← none]
    rfl
  · change s.destroyAttempt = s
    simp [State.destroyAttempt, none]

theorem closedValve_idle (h : Int) (closed : (s.air.channel side).valveOpen = false)
    (mem : i ∈ [Instr.pulseEnd dt side, .continuousStopReached dt side h]) : i.work s = s := by
  simp only [List.mem_cons, List.not_mem_nil, or_false] at mem
  rcases mem with rfl | rfl
  · exact if_neg (by simp [State.pulseDue, closed])
  · exact if_neg (by simp [Channel.flows, closed])

/-- Without a twist gate the watch holds nothing. -/
theorem State.reachGate_idle (none : s.air.gate = none) (h : Int) : s.reachGate h = s := by
  have free (d : FlowDirection) : s.air.gateHolds true d h = false := by simp [Levelling.gateHolds, none]
  unfold State.reachGate State.withCopy
  split
  · simp [free]
  · rfl

end

/-- Settles O3. -/
theorem commandsOutOfTurnDoNothing : Obligations.commands_out_of_turn_do_nothing := by
  intro dt mv k side a levels doors lines h r b s i speed track steer joint brake level peers outOfTurn
  suffices idle : i.elapsed = dt ∧ i.work (s.advance dt) = s.advance dt by
    obtain ⟨rfl, idle⟩ := idle
    exact exec_idle idle
  have elapsed {is : List Instr} (all : ∀ j ∈ is, j.elapsed = dt) (mem : i ∈ is) : i.elapsed = dt := all i mem
  rcases outOfTurn with ⟨off, mem⟩ | ⟨off, mem⟩ | ⟨off, mem⟩ | ⟨off, mem⟩ | ⟨off, mem⟩ | ⟨off, mem⟩ | ⟨off, rfl⟩
    | ⟨off, rfl⟩ | ⟨off, rfl⟩ | ⟨off, rfl⟩ | ⟨off, rfl⟩ | ⟨off, rfl⟩ | ⟨off, rfl⟩ | ⟨off, rfl⟩ | ⟨off, rfl⟩ | ⟨off, rfl⟩
    | ⟨off, rfl⟩ | ⟨off, mem⟩ | ⟨off, rfl⟩ | ⟨off, mem⟩ | ⟨off, rfl⟩
  · exact ⟨elapsed (by simp [speed, track, joint, level, peers, Instr.elapsed]) mem,
      timedCommands_idle (s := s.advance dt) dt k side a levels doors lines off mem⟩
  · refine ⟨elapsed (by simp [steer, brake, Instr.elapsed]) mem, ?_⟩
    rcases List.mem_append.mp mem with mem | mem
    · exact steerCommands_idle (s := s.advance dt) dt a (.inl off) mem
    · exact brakeCommands_idle (s := s.advance dt) dt side a off mem
  · exact ⟨elapsed (by simp [steer, Instr.elapsed]) mem, steerCommands_idle (s := s.advance dt) dt a (.inr off) mem⟩
  · exact ⟨elapsed (by simp [joint, Instr.elapsed]) mem, jointCommands_idle (s := s.advance dt) dt a (.inr off) mem⟩
  · exact ⟨elapsed (by simp [track, Instr.elapsed]) mem, trackCommands_idle (s := s.advance dt) dt (.inr off) mem⟩
  · exact ⟨elapsed (by simp [Instr.elapsed]) mem, cabCommands_idle (s := s.advance dt) dt a lines off mem⟩
  · exact ⟨rfl, if_neg off⟩
  · exact ⟨rfl, if_neg fun wait => off wait.1⟩
  · exact ⟨rfl, if_neg fun start => off.elim (fun power => power start.1) (fun mode => mode start.2)⟩
  · refine ⟨rfl, ?_⟩
    change (s.advance dt).readSupply mv b = s.advance dt
    unfold State.readSupply
    rw [show (s.advance dt).sup.power = .off from off]
  · refine ⟨rfl, ?_⟩
    change (s.advance dt).goodRun = s.advance dt
    unfold State.goodRun
    rcases off with off | off
    · rw [show (s.advance dt).sup.goodFrom = none from off]
      rfl
    · split
      · split
        · next restart => exact absurd restart off.1
        · next limp => exact absurd limp off.2
        all_goals rfl
      · rfl
  · exact ⟨rfl, if_neg fun sync => off sync.1⟩
  · exact ⟨rfl, if_neg (by simp [State.reached, off])⟩
  · exact ⟨rfl, if_neg (by simp [State.reached, off])⟩
  · exact ⟨rfl, if_neg (by simp [State.linkDue, off])⟩
  · exact ⟨rfl, if_neg (by simp [State.linkDue, off])⟩
  · exact ⟨rfl, if_neg fun idle => off.elim (fun state => state idle.1) (fun attempt => attempt idle.2)⟩
  · exact ⟨elapsed (by simp [Instr.elapsed]) mem, attemptCommands_idle (s := s.advance dt) dt off mem⟩
  · refine ⟨rfl, if_neg ?_⟩
    rw [show (s.advance dt).peer k = none from off]
    simp
  · exact ⟨elapsed (by simp [Instr.elapsed]) mem, closedValve_idle (s := s.advance dt) dt side h off mem⟩
  · exact ⟨rfl, State.reachGate_idle (s := s.advance dt) off h⟩

end Sys2Proof.Machine
end

section
/-! PROOFS. Power, START, RESTART, LIMP, and the supervisor's times (R171 to R181): O4 to O10. -/

namespace Sys2Proof.Machine

/-- A command completes with what holds of the state that its work leaves. -/
theorem completes_of {i : Instr} {s t : State} {holds : State → Prop} (work : i.work (s.advance i.elapsed) = t)
    (h : holds t) : completes i s holds := completes_iff_work.mpr (work ▸ h)

theorem exec_next {i : Instr} {s t : State} (h : i.work (s.advance i.elapsed) = t) : exec i s = .next t := by
  rw [exec_eq_work, h]

/-! ## Power-up, the wait, and power-off: O4 -/

theorem State.powerUp_of_off {s : State} (off : s.sup.power = .off) :
    s.powerUp = { State.reset with
      pending := s.pending, now := s.now,
      sup := { Supervisor.initial with power := .waiting, poweredAt := s.now, goodFrom := some s.now } } := if_pos off

theorem State.reached_iff {s : State} {since : Option Micros} {f span : Micros} (running : since = some f) :
    s.reached since span = true ↔ span ≤ s.now - f := by
  subst running
  exact decide_eq_true_iff

theorem State.endWait_of_due {s : State} {g : Micros} (waiting : s.sup.power = .waiting) (good : s.sup.goodFrom = some g)
    (due : 50000 ≤ s.now - g) : s.endWait = (s.setSup { s.sup with power := .on }).enterStart :=
  if_pos ⟨waiting, (State.reached_iff good).mpr due⟩

theorem State.endWait_of_early {s : State} {g : Micros} (good : s.sup.goodFrom = some g) (early : s.now - g < 50000) :
    s.endWait = s := by
  refine if_neg fun due => ?_
  exact absurd ((State.reached_iff good).mp due.2) (Nat.not_le.mpr early)

/-- Settles O4. -/
theorem powerUpWaitAndPowerOff : Obligations.power_up_wait_and_power_off := by
  refine ⟨fun dt s off => ?_, fun dt s g waiting good => ⟨fun due => ?_, fun early => ?_⟩, fun dt s => rfl⟩
  · have safe := State.linesSafe_moves.reset s.pending (s.now + dt)
    refine completes_of (State.powerUp_of_off (s := s.advance dt) off) ?_
    refine ⟨State.outputsSafe_of_same (safe.1 (.inl rfl)) (fun b mem => ?_) rfl, rfl, rfl, rfl, rfl, ?_, rfl, rfl,
      rfl, rfl, rfl, rfl, rfl⟩
    · revert mem
      cases b <;> simp [lineBlocks, State.same]
    · simp [State.stationTime, State.elapsed]
  · refine completes_of (State.endWait_of_due (s := s.advance dt) waiting good due) ?_
    exact ⟨rfl, rfl, State.enterStart_outputsSafe _, rfl, rfl, rfl, rfl, rfl⟩
  · exact exec_next (State.endWait_of_early (s := s.advance dt) good early)

/-! ## START that enters SYNC: O5 -/

theorem State.endStart_of_start {s : State} (power : s.sup.power = .on) (mode : s.sup.mode = .start) (r : StartReading) :
    s.endStart r = s.completeStart r := if_pos ⟨power, mode⟩

/-- Recording no clamp leaves the fault list. -/
theorem State.started_faults {s : State} {r : StartReading}
    (clean : (loadParameters r.words r.strap.toNat).clampedAny = false) : (s.started r).sup.faults = s.sup.faults := by
  unfold State.started
  rw [clean, if_neg Bool.false_ne_true, State.startBlocks_sup]

theorem peersInitial_find (axles own k : Nat) :
    ((peersInitial axles own).find? (fun p => p.1 == k)).map Prod.snd
      = if 1 ≤ k ∧ k ≤ 6 ∧ k ≤ axles ∧ k ≠ own then some PeerRecord.initial else none := by
  have keys : (fun p : Nat × PeerRecord => p.1 == k) ∘ (fun j => (j, PeerRecord.initial)) = fun j => j == k := rfl
  rw [peersInitial, List.find?_map, keys, Option.map_map]
  by_cases known : 1 ≤ k ∧ k ≤ 6 ∧ k ≤ axles ∧ k ≠ own
  · rw [if_pos known]
    have mem : k ∈ [1, 2, 3, 4, 5, 6].filter (fun j => decide (j ≤ axles) && j != own) := by
      simp only [List.mem_filter, List.mem_cons, Bool.and_eq_true, decide_eq_true_eq, bne_iff_ne]
      exact ⟨by omega, known.2.2⟩
    obtain ⟨j, found⟩ := Option.isSome_iff_exists.mp
      (List.find?_isSome (p := fun j => j == k) |>.mpr ⟨k, mem, beq_self_eq_true k⟩)
    rw [found]
    rfl
  · rw [if_neg known, Option.map_eq_none_iff, List.find?_eq_none]
    intro j mem same
    obtain rfl := beq_iff_eq.mp same
    simp only [List.mem_filter, List.mem_cons, List.not_mem_nil, or_false, Bool.and_eq_true, decide_eq_true_eq,
      bne_iff_ne] at mem
    exact known ⟨by omega, by omega, mem.2.1, mem.2.2⟩

/-- Settles O5. -/
theorem startEntersSync : Obligations.start_enters_sync := by
  intro dt r s p clamped power mode loaded
  have e : (Instr.startComplete dt r).work (s.advance dt) = ((s.advance dt).started r).enterSync := by
    refine (State.endStart_of_start (s := s.advance dt) power mode r).trans ?_
    rw [State.completeStart_eq, loaded]
    rfl
  have loader : ((s.advance dt).started r).loader = { strap := r.strap.toNat, image := r.words, copy := some p } := by
    rw [State.started_loader, loaded]
  have now : ((s.advance dt).started r).now = s.now + dt := State.started_now ..
  have brake : ((s.advance dt).started r).brake = Braking.initial p.ladenDefault := by
    rw [State.started_brake, loaded]
    rfl
  have air : ((s.advance dt).started r).air = Levelling.afterStart p r := by
    rw [State.started_air, loaded]
    rfl
  have doors : ((s.advance dt).started r).doors = DoorInterlock.afterStart p r.doors := by
    rw [State.started_doors, loaded]
    rfl
  have axles : ((s.advance dt).started r).axles = p.axles := by
    unfold State.axles
    rw [loader]
  refine completes_of e ?_
  refine ⟨rfl, congrArg some now, loader, rfl, now, rfl, rfl, rfl, rfl, rfl, ?_, fun k => ?_, ?_, ?_, ?_, ?_, ?_, ?_, ?_, ?_, ?_,
    ?_, fun clean => ?_⟩
  · change tokenSeed ((s.advance dt).started r).loader.strap = _
    rw [loader]
    rfl
  · change ((((s.advance dt).started r).peers).find? _).map Prod.snd = _
    rw [State.started_peers, axles, peersInitial_find]
  · exact congrArg DriverHold.status (State.started_driver ..)
  · exact congrArg Odometry.markValid (State.started_odo ..)
  · exact congrArg TrackMemory.entries (State.started_track ..)
  · exact congrArg Steering.mode (State.started_steer ..)
  · exact congrArg Braking.backup brake
  · exact congrArg Braking.driverLost brake
  · exact congrArg Braking.latched brake
  · exact congrArg Braking.load brake
  · exact congrArg Levelling.air air
  · exact congrArg DoorInterlock.halt doors
  · subst clean
    exact State.started_faults (s := s.advance dt) (by rw [loaded])

/-! ## What entry to LIMP leaves (R179) -/

/-- The blocks as entry to LIMP leaves them, before the mode is set and the ALERT is queued. -/
def State.limped (s : State) : State := (s.safeOutputs true).closeWindow.limpBlocks

section
variable (s : State) (cause : Int)

theorem State.enterLimp_eq : s.enterLimp cause =
    (if s.sup.mode = .start then
      (s.limped.setSup { s.limped.sup with mode := .limp, runFrom := none, syncFrom := none }).startLink
    else s.limped.setSup { s.limped.sup with mode := .limp, runFrom := none, syncFrom := none }).queueAlert
      .limpEntered 255 cause := rfl

theorem State.enterLimp_sup : (s.enterLimp cause).sup =
    { s.limped.sup with mode := .limp, runFrom := none, syncFrom := none } := by
  rw [State.enterLimp_eq, State.queueAlert_sup]
  split <;> rfl

theorem State.limped_sup : s.limped.sup = (s.safeOutputs true).closeWindow.sup.endCondition .trackNearFull := by
  simp [State.limped, State.limpBlocks, State.clearTrack, State.endCondition]

/-- Entry to LIMP ends TRACK_NEAR_FULL (R71) and no other condition. -/
theorem State.enterLimp_hasCondition {c : FaultCode} (other : c ≠ .trackNearFull) :
    (s.enterLimp cause).hasCondition c = s.hasCondition c := by
  have closed : (s.safeOutputs true).closeWindow.sup.conditions = s.sup.conditions := State.applyAll_conditions ..
  have ended := State.hasCondition_endCondition (s.safeOutputs true).closeWindow .trackNearFull c
  unfold State.hasCondition at ended ⊢
  rw [State.enterLimp_sup, State.limped_sup]
  refine ended.trans ?_
  rw [closed]
  simp [other]

theorem State.enterLimp_deferred : (s.enterLimp cause).sup.deferred = [] := by
  rw [State.enterLimp_sup, State.limped_sup]
  rfl

theorem State.enterLimp_brake : (s.enterLimp cause).brake = s.limped.brake := by
  rw [State.enterLimp_eq, State.queueAlert_brake]
  split <;> rfl

theorem State.limped_brake :
    s.limped.brake = ((s.safeOutputs true).closeWindow.clearTrack.latchBackup .limp).brake := rfl

theorem State.enterLimp_backup : (s.enterLimp cause).brake.backup = true := by
  rw [State.enterLimp_brake, State.limped_brake, State.latchBackup_backup]

theorem State.enterLimp_latched : (s.enterLimp cause).brake.latched = some (s.brake.latched.getD .limp) := by
  rw [State.enterLimp_brake, State.limped_brake, State.latchBackup_latched]
  rw [State.same_of_onlyChanges (State.clearTrack_onlyChanges _) .brake (by decide)]
  rw [State.same_of_onlyChanges (State.closeWindow_onlyChanges _) .brake (by decide)]
  rfl

theorem State.enterLimp_halt : (s.enterLimp cause).doors.halt = .off := by
  rw [State.enterLimp_eq, State.queueAlert_doors]
  split <;> rfl

theorem State.enterLimp_markValid : (s.enterLimp cause).odo.markValid = false := by
  rw [State.enterLimp_eq, State.queueAlert_odo]
  split <;> rfl

theorem State.enterLimp_entries : (s.enterLimp cause).track.entries = [] := by
  rw [State.enterLimp_track]
  rfl

theorem State.enterLimp_loader : (s.enterLimp cause).loader = s.loader :=
  State.same_of_onlyChanges (s.enterLimp_onlyChanges cause) .loader (by decide)

theorem State.enterLimp_steerMode :
    (s.enterLimp cause).steer.mode = if s.marksSteered then SteerMode.failed else .locked := by
  have loader : ((s.safeOutputs true).closeWindow.clearTrack.latchBackup .limp).marksSteered = s.marksSteered := by
    unfold State.marksSteered
    rw [State.same_of_onlyChanges (State.latchBackup_onlyChanges ..) .loader (by decide),
      State.same_of_onlyChanges (State.clearTrack_onlyChanges _) .loader (by decide),
      State.same_of_onlyChanges (State.closeWindow_onlyChanges _) .loader (by decide)]
    rfl
  rw [← loader, State.enterLimp_eq, State.queueAlert_steer]
  split <;> rfl

/-- An entry from START starts the link engine, whose queue then holds the ALERT alone (R18, R179). -/
theorem State.enterLimp_link_of_start (start : s.sup.mode = .start) :
    (s.enterLimp cause).link =
      { Link.initial with
        state := .listen, since := s.now, token := tokenSeed s.station, nextTicket := 1,
        alerts := [⟨0, ⟨s.station, encodeAlert ⟨.limpEntered, s.station, 255, cause⟩⟩⟩] } := by
  have loader : s.limped.station = s.station := by
    have e := s.enterLimp_loader cause
    rw [State.enterLimp_eq, State.queueAlert_loader, if_pos start] at e
    exact congrArg Loader.strap e
  have now : s.limped.now = s.now := by
    have e := (s.enterLimp_onlyChanges cause).2.1
    rw [State.enterLimp_eq, State.queueAlert_now, if_pos start] at e
    exact e
  rw [State.enterLimp_eq, if_pos start]
  rw [← loader, ← now]
  simp [State.queueAlert, State.ticketed, identifierOf, classAlert, State.startLink, Link.initial, State.station]

end

/-- The payload of ALERT LIMP_ENTERED by its cause (Tables 2.8, 2.9). -/
theorem encodeAlert_limpEntered (station : Nat) :
    encodeAlert ⟨.limpEntered, station, 255, 1⟩ = [5, toByte station, 255, 0, 1, 0, 0, 0]
      ∧ encodeAlert ⟨.limpEntered, station, 255, 2⟩ = [5, toByte station, 255, 0, 2, 0, 0, 0] := by
  have one : le16 (signed16 1) = [1, 0] := by decide
  have two : le16 (signed16 2) = [2, 0] := by decide
  simp [encodeAlert, one, two, AlertKind.code, toByte]

/-- Settles O6. -/
theorem startConfigEntersLimp : Obligations.start_config_enters_limp := by
  intro dt r s power mode config
  have e : (Instr.startComplete dt r).work (s.advance dt)
      = (((s.advance dt).started r).raiseFault .config).enterLimp 1 := by
    refine (State.endStart_of_start (s := s.advance dt) power mode r).trans ?_
    rw [State.completeStart_eq, config]
    rfl
  have raised := State.raiseFault_touches ((s.advance dt).started r) .config
  have start : (((s.advance dt).started r).raiseFault .config).sup.mode = .start := by simp [mode]
  have loader : (((s.advance dt).started r).raiseFault .config).loader
      = { strap := r.strap.toNat, image := r.words, copy := (loadParameters r.words r.strap.toNat).copy } := by
    rw [State.same_of_onlyChanges raised .loader (by decide), State.started_loader]
  have station : (((s.advance dt).started r).raiseFault .config).station = r.strap.toNat := congrArg Loader.strap loader
  have now : (((s.advance dt).started r).raiseFault .config).now = s.now + dt := by
    rw [raised.2.1]
    exact State.started_now ..
  have link := State.enterLimp_link_of_start _ 1 start
  refine completes_of e ?_
  refine ⟨State.enterLimp_mode .., State.enterLimp_outputsSafe .., ?_, ?_, ?_, ?_, ?_, ?_, ?_, State.enterLimp_backup ..,
    State.enterLimp_halt .., State.enterLimp_markValid .., State.enterLimp_entries .., State.enterLimp_windowFrom ..,
    State.enterLimp_deferred ..⟩
  · rw [State.enterLimp_hasCondition _ _ (by decide), State.hasCondition_raiseFault]
    simp
  · rw [State.enterLimp_loader, loader]
  · rw [State.enterLimp_steerMode]
    unfold State.marksSteered
    rw [loader]
    cases (loadParameters r.words r.strap.toNat).copy <;> rfl
  · rw [link]
  · rw [link]
    exact now
  · rw [link, station]
    exact congrArg (fun payload => [({ identifier := r.strap.toNat, payload := payload } : Frame)])
      (encodeAlert_limpEntered r.strap.toNat).1
  · rw [State.enterLimp_latched, State.same_of_onlyChanges raised .brake (by decide), State.started_brake]
    rfl

end Sys2Proof.Machine
end

section
/-! PROOFS. The supply monitor and the supervisor's times (R173, R174, R176 to R178, R181): O7 to O10. -/

namespace Sys2Proof.Machine

/-! ## The restart counter under faults -/

@[simp] theorem Supervisor.addCondition_restartCounter (u : Supervisor) (c : FaultCode) :
    (u.addCondition c).restartCounter = u.restartCounter := by
  unfold Supervisor.addCondition
  split <;> rfl
@[simp] theorem Supervisor.record_restartCounter (u : Supervisor) (c : FaultCode) (x : RecordState) (time : Nat) :
    (u.record c x time).restartCounter = u.restartCounter := by
  obtain ⟨_, _, _, e⟩ := u.record_frame c x time
  rw [e]
@[simp] theorem Supervisor.addEffect_restartCounter (u : Supervisor) (c : FaultCode) :
    (u.addEffect c).restartCounter = u.restartCounter := by
  unfold Supervisor.addEffect
  split <;> rfl
@[simp] theorem State.applyConsequence_restartCounter (s : State) (c : FaultCode) :
    (s.applyConsequence c).sup.restartCounter = s.sup.restartCounter := by
  cases c <;> simp [State.applyConsequence]
theorem State.applyAll_restartCounter (s : State) (cs : List FaultCode) :
    (s.applyAll cs).sup.restartCounter = s.sup.restartCounter := by
  induction cs generalizing s with
  | nil => rfl
  | cons c rest ih =>
    rw [State.applyAll, ih, State.applyConsequence_restartCounter]
    rfl

/-! ## A reading of the supply (R176, R177) -/

theorem Supervisor.runDue_of_counting {u : Supervisor} {f now : Micros}
    (counting : u.lowRun = .counting f ∨ u.highRun = .counting f) (due : 5000 ≤ now - f) : u.runDue now = true := by
  have reached : (SupplyRun.counting f).due now = true := decide_eq_true_iff.mpr due
  rcases counting with run | run <;> simp [Supervisor.runDue, run, reached]

theorem Supervisor.runDue_of_early {u : Supervisor} {now : Micros}
    (early : ∀ f, u.lowRun = .counting f ∨ u.highRun = .counting f → now - f < 5000) : u.runDue now = false := by
  have notDue (r : SupplyRun) (h : ∀ f, r = .counting f → now - f < 5000) : r.due now = false := by
    cases r with
    | counting f => exact decide_eq_false (Nat.not_le.mpr (h f rfl))
    | clear | reached => rfl
  simp [Supervisor.runDue, notDue _ fun f run => early f (.inl run), notDue _ fun f run => early f (.inr run)]

theorem State.readSupply_of_due {s : State} (power : s.sup.power = .on) (due : s.sup.runDue s.now = true) (mv : Nat)
    (r : AbandonedReading) :
    s.readSupply mv r = ((s.setSup (s.sup.readRuns mv s.now)).raiseSupply r).readGood mv := by
  simp only [State.readSupply, power, due, if_true]

theorem goodSupply_iff (mv : Nat) : goodSupply mv = true ↔ 18000 ≤ mv ∧ mv ≤ 32000 := by
  rw [goodSupply, Bool.and_eq_true]
  exact and_congr decide_eq_true_iff decide_eq_true_iff

theorem State.readGood_of_keeps {s : State} (keeps : s.keepsGoodRun = true) (mv : Nat) :
    s.readGood mv = s.setSup
      { s.sup with
        goodFrom := if 18000 ≤ mv ∧ mv ≤ 32000 then some (s.sup.goodFrom.getD s.now) else none } := by
  rw [State.readGood, if_pos keeps]
  simp only [goodSupply_iff]

theorem State.keepsGoodRun_of_mode {s : State} (mode : s.sup.mode = .restart ∨ s.sup.mode = .limp) :
    s.keepsGoodRun = true := by
  rcases mode with mode | mode <;> simp [State.keepsGoodRun, mode]

@[simp] theorem State.raiseFault_supply (s : State) :
    s.raiseFault .supply = s.setSup ((s.sup.addCondition .supply).record .supply .active s.stationTime) :=
  State.raiseFault_recorded s (by decide) rfl

@[simp] theorem State.raiseFault_restartLimit (s : State) :
    s.raiseFault .restartLimit
      = s.setSup ((s.sup.addCondition .restartLimit).record .restartLimit .active s.stationTime) :=
  State.raiseFault_recorded s (by decide) rfl

/-- The state in which SUPPLY's consequence is decided: an abandoned START has given up what it read. -/
def State.supplyRaised (s : State) (mv : Nat) (r : AbandonedReading) : State :=
  let t := s.setSup (s.sup.readRuns mv s.now)
  (if s.sup.mode = .start then t.abandonStart r else t).raiseFault .supply

/-- A mode that SUPPLY ends: START, SYNC, RUN or DEGRADED. -/
def Mode.endsBySupply (m : Mode) : Prop := m = .start ∨ m = .sync ∨ m = .run ∨ m = .degraded

section
variable {s : State} (mv : Nat) (r : AbandonedReading)

theorem State.readSupply_of_raised (power : s.sup.power = .on) (due : s.sup.runDue s.now = true)
    (mode : s.sup.mode.endsBySupply) : s.readSupply mv r = ((s.supplyRaised mv r).callRestart).readGood mv := by
  rw [State.readSupply_of_due power due]
  unfold State.raiseSupply State.supplyRaised
  dsimp only
  rw [State.setSup_sup]
  have read : (s.sup.readRuns mv s.now).mode = s.sup.mode := rfl
  rw [read]
  rcases mode with mode | mode | mode | mode <;> rw [mode] <;> rfl

theorem State.supplyRaised_onlyChanges (mode : s.sup.mode ≠ .start) : s.onlyChanges [.sup] (s.supplyRaised mv r) := by
  unfold State.supplyRaised
  dsimp only
  rw [if_neg mode]
  exact State.onlyChanges_trans (State.setSup_onlyChanges ..) (State.raiseFault_touches _ .supply)

theorem State.supplyRaised_sup : (s.supplyRaised mv r).sup =
    ((s.sup.readRuns mv s.now).addCondition .supply).record .supply .active s.stationTime := by
  unfold State.supplyRaised
  split <;> rw [State.raiseFault_supply] <;> rfl

theorem State.supplyRaised_now : (s.supplyRaised mv r).now = s.now := by
  unfold State.supplyRaised
  split <;> rw [State.raiseFault_supply] <;> rfl

theorem State.supplyRaised_restartCounter : (s.supplyRaised mv r).sup.restartCounter = s.sup.restartCounter := by
  rw [State.supplyRaised_sup, Supervisor.record_restartCounter, Supervisor.addCondition_restartCounter]
  rfl

theorem State.supplyRaised_mode : (s.supplyRaised mv r).sup.mode = s.sup.mode := by
  rw [State.supplyRaised_sup, Supervisor.record_mode, Supervisor.addCondition_mode]
  rfl

theorem State.supplyRaised_poweredAt : (s.supplyRaised mv r).sup.poweredAt = s.sup.poweredAt := by
  have stand : (s.supplyRaised mv r).sup.stand = (s.sup.readRuns mv s.now).stand := by
    rw [State.supplyRaised_sup, Supervisor.record_stand, Supervisor.addCondition_stand]
  have e := congrArg (fun u : Supervisor => u.poweredAt) stand
  exact e

theorem State.supplyRaised_hasCondition : (s.supplyRaised mv r).hasCondition .supply = true := by
  unfold State.supplyRaised
  rw [State.hasCondition_raiseFault]
  simp

theorem State.supplyRaised_link (mode : s.sup.mode ≠ .start) : (s.supplyRaised mv r).link = s.link :=
  State.same_of_onlyChanges (State.supplyRaised_onlyChanges mv r mode) .link (by decide)

theorem State.supplyRaised_copy (mode : s.sup.mode = .start) : (s.supplyRaised mv r).loader.copy = none := by
  unfold State.supplyRaised
  dsimp only
  rw [if_pos mode, State.raiseFault_supply]
  rfl

end

/-! ## RESTART (R177, R178) -/

/-- What a call for RESTART leaves, with the reading that follows it: the counter raised, the station in RESTART. -/
theorem State.restarted_of_callRestart {s : State} (counter : s.sup.restartCounter < 3)
    (supply : s.hasCondition .supply = true) (mv : Nat) :
    let t := s.callRestart.readGood mv
    t.sup.mode = .restart ∧ t.sup.restartCounter = s.sup.restartCounter + 1 ∧ t.outputsSafe false
    ∧ t.hasCondition .supply = true ∧ t.link = Link.initial ∧ t.sup.windowFrom = none ∧ t.sup.deferred = []
    ∧ t.sup.runFrom = none ∧ t.sup.goodFrom = (if 18000 ≤ mv ∧ mv ≤ 32000 then some s.now else none)
    ∧ (∀ x ∈ t.sup.faults, x.code ≠ .supply → x.state = .passive)
    ∧ t.doors.halt = .off ∧ t.doors.anyGrant = false ∧ t.sup.poweredAt = s.sup.poweredAt := by
  have e : s.callRestart = (s.setSup { s.sup with restartCounter := s.sup.restartCounter + 1 }).enterRestart := if_pos counter
  rw [e, State.readGood_of_keeps (State.keepsGoodRun_of_mode (.inl (State.enterRestart_mode _)))]
  refine ⟨rfl, rfl, ?_, ?_, rfl, rfl, rfl, rfl, rfl, ?_, rfl, rfl, rfl⟩
  · obtain ⟨safe, limit, line⟩ :=
      (s.setSup { s.sup with restartCounter := s.sup.restartCounter + 1 }).enterRestart_outputsSafe
    exact ⟨{ safe with }, limit, line⟩
  · rw [State.hasCondition_iff] at supply ⊢
    exact List.mem_filter.mpr ⟨supply, rfl⟩
  · intro x mem other
    obtain ⟨f, -, rfl⟩ := List.mem_map.mp mem
    unfold FaultRecord.toRestart at other ⊢
    split
    · next is =>
      rw [if_pos is] at other
      exact absurd is other
    · rfl

/-! ## LIMP (R178, R179) -/

theorem State.enterLimp_restartCounter (s : State) (cause : Int) :
    (s.enterLimp cause).sup.restartCounter = s.sup.restartCounter := by
  rw [State.enterLimp_sup, State.limped_sup]
  exact State.applyAll_restartCounter ..

theorem State.enterLimp_linkState (s : State) (cause : Int) :
    (s.enterLimp cause).link.state = if s.sup.mode = .start then LinkState.listen else s.link.state := by
  have queued (t : State) : (t.queueAlert .limpEntered 255 cause).link.state = t.link.state := by
    unfold State.queueAlert
    dsimp only
    split <;> rfl
  have kept : s.limped.link = s.link := by
    simp [State.limped, State.limpBlocks, State.clearTrack, State.safeOutputs]
  rw [State.enterLimp_eq, queued]
  split
  · rfl
  · exact congrArg Link.state kept

/-- The newest ALERT after an entry to LIMP is LIMP_ENTERED (R179). -/
theorem State.enterLimp_alert (s : State) (cause : Int) :
    ((s.enterLimp cause).link.alerts.getLast?).map (fun q => q.frame.payload)
      = some (encodeAlert ⟨.limpEntered, (s.enterLimp cause).station, 255, cause⟩) := by
  have queued (t : State) : ((t.queueAlert .limpEntered 255 cause).link.alerts.getLast?).map (fun q => q.frame.payload)
      = some (encodeAlert ⟨.limpEntered, t.station, 255, cause⟩) := by
    unfold State.queueAlert
    dsimp only
    split <;> simp [State.ticketed]
  have station (t : State) : (t.queueAlert .limpEntered 255 cause).station = t.station := by
    simp [State.station]
  rw [State.enterLimp_eq, queued, station]

/-- What a call for RESTART with the counter at 3 leaves, with the reading that follows it. -/
theorem State.limped_of_callRestart {s : State} (counter : s.sup.restartCounter = 3)
    (supply : s.hasCondition .supply = true) (mv : Nat) :
    let t := s.callRestart.readGood mv
    t.sup.mode = .limp ∧ t.sup.restartCounter = 3 ∧ t.outputsSafe true ∧ t.hasCondition .supply = true
    ∧ t.hasCondition .restartLimit = true ∧ t.brake.backup = true ∧ t.odo.markValid = false
    ∧ (t.link.alerts.getLast?).map (fun q => q.frame.payload) = some [5, toByte t.station, 255, 0, 2, 0, 0, 0]
    ∧ t.link.state = (if s.sup.mode = .start then LinkState.listen else s.link.state) ∧ t.loader = s.loader := by
  have e : s.callRestart = (s.raiseFault .restartLimit).enterLimp 2 := if_neg (by omega)
  have mode := State.enterLimp_mode (s.raiseFault .restartLimit) 2
  have count : ((s.raiseFault .restartLimit).enterLimp 2).sup.restartCounter = 3 := by
    rw [State.enterLimp_restartCounter, State.raiseFault_restartLimit]
    simp [counter]
  have safe := State.enterLimp_outputsSafe (s.raiseFault .restartLimit) 2
  have supplied : ((s.raiseFault .restartLimit).enterLimp 2).hasCondition .supply = true := by
    rw [State.enterLimp_hasCondition _ _ (by decide), State.hasCondition_raiseFault, supply]
    rfl
  have limited : ((s.raiseFault .restartLimit).enterLimp 2).hasCondition .restartLimit = true := by
    rw [State.enterLimp_hasCondition _ _ (by decide), State.hasCondition_raiseFault]
    simp
  have backup := State.enterLimp_backup (s.raiseFault .restartLimit) 2
  have mark := State.enterLimp_markValid (s.raiseFault .restartLimit) 2
  have alert := (State.enterLimp_alert (s.raiseFault .restartLimit) 2).trans (congrArg some (encodeAlert_limpEntered _).2)
  have link : ((s.raiseFault .restartLimit).enterLimp 2).link.state
      = if s.sup.mode = .start then LinkState.listen else s.link.state := by
    rw [State.enterLimp_linkState, State.raiseFault_restartLimit]
    simp
  have loader : ((s.raiseFault .restartLimit).enterLimp 2).loader = s.loader := by
    rw [State.enterLimp_loader, State.raiseFault_restartLimit]
    rfl
  rw [e]
  generalize (s.raiseFault .restartLimit).enterLimp 2 = t at *
  rw [State.readGood_of_keeps (State.keepsGoodRun_of_mode (.inr mode))]
  obtain ⟨safe, limit, line⟩ := safe
  exact ⟨mode, count, ⟨{ safe with }, limit, line⟩, supplied, limited, backup, mark, alert, link, loader⟩

/-- Settles O7. -/
theorem supplyFaultEntersRestartOrLimp : Obligations.supply_fault_enters_restart_or_limp := by
  intro dt mv r s f counting span
  have due : (s.advance dt).sup.runDue (s.advance dt).now = true := Supervisor.runDue_of_counting counting span
  have raised := State.supplyRaised_hasCondition (s := s.advance dt) mv r
  refine ⟨fun power mode counter => ?_, fun power mode counter => ?_, fun power mode => ?_, fun power => ?_⟩
  · refine completes_of (State.readSupply_of_raised (s := s.advance dt) mv r power due mode) ?_
    have below : ((s.advance dt).supplyRaised mv r).sup.restartCounter < 3 := by
      rw [State.supplyRaised_restartCounter]
      exact counter
    obtain ⟨mode', counter', safe, supply, link, window, deferred, run, good, faults, halt, grant, powered⟩ :=
      State.restarted_of_callRestart below raised mv
    refine ⟨mode', ?_, safe, supply, link, window, deferred, run, ?_, faults, halt, grant, ?_, fun notStart => ?_⟩
    · rw [counter', State.supplyRaised_restartCounter]
      rfl
    · rw [good, State.supplyRaised_now]
      rfl
    · rw [powered, State.supplyRaised_poweredAt]
      rfl
    · have e : ((s.advance dt).supplyRaised mv r).callRestart = _ := if_pos below
      rw [e]
      exact (((State.onlyChanges_mono (State.supplyRaised_onlyChanges (s := s.advance dt) mv r notStart) (by decide)).step
        (State.setSup_onlyChanges ..) (by decide)).step (State.enterRestart_onlyChanges _) (by decide)).step
        (State.readGood_onlyChanges ..) (by decide)
  · refine completes_of (State.readSupply_of_raised (s := s.advance dt) mv r power due mode) ?_
    have atLimit : ((s.advance dt).supplyRaised mv r).sup.restartCounter = 3 := by
      rw [State.supplyRaised_restartCounter]
      exact counter
    obtain ⟨mode', counter', safe, supply, limit, backup, mark, alert, link, loader⟩ :=
      State.limped_of_callRestart atLimit raised mv
    refine ⟨mode', counter', safe, supply, limit, backup, mark, alert, ?_, fun start => ?_, fun notStart => ?_⟩
    · rw [link, State.supplyRaised_mode]
      change (if s.sup.mode = .start then _ else _) = _
      split
      · rfl
      · next notStart =>
        rw [State.supplyRaised_link (s := s.advance dt) mv r notStart]
        rfl
    · rw [loader]
      exact State.supplyRaised_copy (s := s.advance dt) mv r start
    · have e : ((s.advance dt).supplyRaised mv r).callRestart = _ := if_neg (by omega)
      rw [e]
      have limped := State.enterLimp_onlyChanges (((s.advance dt).supplyRaised mv r).raiseFault .restartLimit) 2
      have queued := (State.onlyChanges_mono (State.supplyRaised_onlyChanges (s := s.advance dt) mv r notStart)
        (more := [.link, .odo, .track, .steer, .joint, .brake, .air, .doors, .sup]) (by decide)).step
        (State.raiseFault_touches _ .restartLimit) (by decide)
      exact (queued.step limped (by decide)).step (State.readGood_onlyChanges ..) (by decide)
  · have e : (s.advance dt).readSupply mv r = (((s.advance dt).setSup
        ((s.advance dt).sup.readRuns mv (s.advance dt).now)).raiseFault .supply).readGood mv := by
      rw [State.readSupply_of_due (s := s.advance dt) power due]
      unfold State.raiseSupply
      rw [State.setSup_sup]
      rcases mode with mode | mode
      all_goals
        have read : ((s.advance dt).sup.readRuns mv (s.advance dt).now).mode = _ := mode
        rw [read]
    refine completes_of e ⟨?_, ?_, ?_, ?_⟩
    · rw [State.readGood_mode, State.raiseFault_mode]
      rfl
    · unfold State.hasCondition
      rw [State.readGood_conditions]
      have present := State.hasCondition_raiseFault ((s.advance dt).setSup
        ((s.advance dt).sup.readRuns mv (s.advance dt).now)) .supply .supply
      unfold State.hasCondition at present
      rw [present]
      simp
    · have good (t : State) : (t.readGood mv).sup.restartCounter = t.sup.restartCounter :=
        ite_keeps (P := fun u : State => u.sup.restartCounter = t.sup.restartCounter) rfl rfl
      rw [good, State.raiseFault_supply, State.setSup_sup, Supervisor.record_restartCounter,
        Supervisor.addCondition_restartCounter]
      rfl
    · exact State.onlyChanges_trans (State.onlyChanges_trans (State.setSup_onlyChanges ..)
        (State.raiseFault_touches _ .supply)) (State.readGood_onlyChanges ..)
  · have e : (s.advance dt).readSupply mv r = ((s.advance dt).setSup
        ((s.advance dt).sup.readRuns mv (s.advance dt).now)).readGood mv := by
      unfold State.readSupply
      rw [show (s.advance dt).sup.power = .waiting from power]
    have keeps : ((s.advance dt).setSup ((s.advance dt).sup.readRuns mv (s.advance dt).now)).keepsGoodRun = true := by
      have waiting : ((s.advance dt).sup.readRuns mv (s.advance dt).now).power = .waiting := power
      unfold State.keepsGoodRun
      rw [State.setSup_sup, waiting]
      rfl
    rw [State.readGood_of_keeps keeps] at e
    exact completes_of e ⟨power, rfl, rfl, State.onlyChanges_trans (State.setSup_onlyChanges ..)
      (State.setSup_onlyChanges ..)⟩

end Sys2Proof.Machine
end

section
/-! PROOFS. The good run, the SYNC and RUN times, and the end of the deferral window (R173, R174, R176 to R178, R181):
O8 to O10. -/

namespace Sys2Proof.Machine

/-! ## The good run and a quiet reading: O8 -/

/-- No record of a condition that has ended is ACTIVE (R182). -/
theorem Supervisor.endCondition_notActive {u : Supervisor} {c : FaultCode} {x : FaultRecord}
    (mem : x ∈ (u.endCondition c).faults) (code : x.code = c) : x.state ≠ .active := by
  obtain ⟨r, -, rfl⟩ := List.mem_map.mp mem
  by_cases is : r.code = c
  · rw [if_pos is]
    dsimp only
    split
    · exact RecordState.noConfusion
    · assumption
  · rw [if_neg is] at code
    exact absurd code is

theorem State.goodRun_of_due {s : State} {g : Micros} (good : s.sup.goodFrom = some g) (due : 50000 ≤ s.now - g) :
    (s.sup.mode = .restart →
      s.goodRun = ((s.setSup { s.sup with goodFrom := none }).endCondition .supply).enterStart)
    ∧ (s.sup.mode = .limp → s.goodRun = (s.setSup { s.sup with goodFrom := none }).endCondition .supply) := by
  have reached : s.reached s.sup.goodFrom goodRunLength = true := (State.reached_iff good).mpr due
  unfold State.goodRun
  rw [if_pos reached]
  exact ⟨fun mode => by rw [mode], fun mode => by rw [mode]⟩

/-- A run that is not due goes on, begins, or is cleared (R176). -/
theorem SupplyRun.read_of_early {r : SupplyRun} {now : Micros} (early : r.due now = false) (inBand : Prop)
    [Decidable inBand] :
    r.read (decide inBand) now = if inBand then (if r = .clear then .counting now else r) else .clear := by
  by_cases h : inBand
  · rw [decide_eq_true h, if_pos h]
    cases r with
    | clear | reached => rfl
    | counting f => simp [SupplyRun.read, early]
  · rw [decide_eq_false h, if_neg h]
    rfl

theorem State.keepsGoodRun_iff (s : State) :
    s.keepsGoodRun = true ↔ s.sup.power = .waiting ∨ s.sup.mode = .restart ∨ s.sup.mode = .limp := by
  simp [State.keepsGoodRun, or_assoc]

/-- Settles O8. -/
theorem supplyGoodRunEndsSupply : Obligations.supply_good_run_ends_supply := by
  refine ⟨fun dt s g good due => ⟨fun mode => ?_, fun mode => ?_⟩, fun dt mv r s power early => ?_⟩
  · have ended := (State.goodRun_of_due (s := s.advance dt) good due).1 mode
    refine completes_of ended ⟨rfl, ?_, State.enterStart_outputsSafe _, rfl,
      fun x mem code => Supervisor.endCondition_notActive mem code, rfl, rfl⟩
    refine (State.hasCondition_endCondition _ _ _).trans ?_
    simp
  · have ended := (State.goodRun_of_due (s := s.advance dt) good due).2 mode
    refine completes_of ended ⟨mode, ?_, fun x mem code => Supervisor.endCondition_notActive mem code,
      State.onlyChanges_trans (State.setSup_onlyChanges ..) (State.endCondition_onlyChanges ..)⟩
    rw [State.hasCondition_endCondition]
    simp
  · have quiet : (s.advance dt).sup.runDue (s.advance dt).now = false := Supervisor.runDue_of_early early
    obtain ⟨low, high⟩ := Bool.or_eq_false_iff.mp quiet
    have lowRun := SupplyRun.read_of_early low (mv < Config.supplyLow)
    have highRun := SupplyRun.read_of_early high (Config.supplyHigh < mv)
    refine exec_next ((State.readSupply_quiet quiet power mv r).trans ?_)
    have runs : (s.advance dt).sup.readRuns mv (s.advance dt).now =
        { (s.advance dt).sup with
          lowRun := if mv < 16000 then (if s.sup.lowRun = .clear then .counting (s.now + dt) else s.sup.lowRun) else .clear
          highRun :=
            if 34000 < mv then (if s.sup.highRun = .clear then .counting (s.now + dt) else s.sup.highRun) else .clear } := by
      unfold Supervisor.readRuns
      rw [lowRun, highRun]
      rfl
    have kept : ((s.advance dt).setSup ((s.advance dt).sup.readRuns mv (s.advance dt).now)).keepsGoodRun = true
        ↔ s.sup.power = .waiting ∨ s.sup.mode = .restart ∨ s.sup.mode = .limp := State.keepsGoodRun_iff _
    by_cases keeps : s.sup.power = .waiting ∨ s.sup.mode = .restart ∨ s.sup.mode = .limp
    · rw [State.readGood_of_keeps (kept.mpr keeps), if_pos keeps, runs]
      rfl
    · rw [State.readGood, if_neg (mt kept.mp keeps), if_neg keeps, runs]
      rfl

/-! ## The consequences that the window's end applies (R181) -/

/-- One pending consequence takes effect, its record leaving DEFERRED. -/
def State.applyPending (s : State) (c : FaultCode) : State := (s.setSup (s.sup.undefer c)).applyConsequence c

/-- What one of the pending consequences makes so, and none undoes, is so when all have taken effect. -/
theorem State.applyAll_makes {Q : State → Prop} (keeps : ∀ (s : State) (d : FaultCode), Q s → Q (s.applyPending d))
    {c : FaultCode} (makes : ∀ s : State, Q (s.applyPending c)) {cs : List FaultCode} (mem : c ∈ cs) (s : State) :
    Q (s.applyAll cs) := by
  have kept (ds : List FaultCode) (t : State) (ht : Q t) : Q (t.applyAll ds) := by
    induction ds generalizing t with
    | nil => exact ht
    | cons d rest ih => exact ih _ (keeps t d ht)
  induction cs generalizing s with
  | nil => exact absurd mem List.not_mem_nil
  | cons d rest ih =>
    rcases List.mem_cons.mp mem with rfl | later
    · exact kept rest _ (makes s)
    · exact ih later _

theorem State.applyAll_keeps {Q : State → Prop} (keeps : ∀ (s : State) (d : FaultCode), Q s → Q (s.applyPending d))
    (cs : List FaultCode) {s : State} (hs : Q s) : Q (s.applyAll cs) := by
  induction cs generalizing s with
  | nil => exact hs
  | cons d rest ih => exact ih (keeps s d hs)

theorem State.inEffect_applyPending (s : State) (c d : FaultCode) :
    (s.applyPending c).inEffect d = (s.inEffect d || c.deferrable && d == c) := by
  by_cases deferrable : c.deferrable = true
  · rw [State.applyPending, State.inEffect_applyConsequence _ deferrable, deferrable]
    rfl
  · have none : s.applyPending c = s.setSup (s.sup.undefer c) := by
      cases c
      case wheelSensorL | wheelSensorR | jointSensor | heightSensorL | heightSensorR | reservoirSensor | odometerSaturated =>
        exact absurd rfl deferrable
      all_goals rfl
    rw [none, Bool.eq_false_iff.mpr deferrable]
    simp [State.inEffect, Supervisor.undefer, Supervisor.update]

theorem State.applyPending_faults (s : State) (c : FaultCode) : (s.applyPending c).sup.faults = (s.sup.undefer c).faults := by
  have added (u : Supervisor) : (u.addEffect c).faults = u.faults := by
    unfold Supervisor.addEffect
    split <;> rfl
  unfold State.applyPending State.applyConsequence
  dsimp only
  cases c
  case wheelSensorL | wheelSensorR | jointSensor | heightSensorL | heightSensorR | reservoirSensor | odometerSaturated =>
    exact added _
  all_goals rfl

/-- No record of a code is DEFERRED. -/
def State.undeferred (c : FaultCode) (s : State) : Prop := ∀ x ∈ s.sup.faults, x.code = c → x.state ≠ .deferred

theorem State.applyPending_keeps_undeferred (c : FaultCode) (s : State) (d : FaultCode) (h : s.undeferred c) :
    (s.applyPending d).undeferred c := by
  intro x mem code
  rw [State.applyPending_faults] at mem
  obtain ⟨r, known, rfl⟩ := List.mem_map.mp mem
  by_cases other : r.code = d
  · rw [if_pos other] at code ⊢
    dsimp only at code ⊢
    split at code
    · next held => exact absurd held (h r known code)
    · next clear =>
      rw [if_neg clear]
      exact clear
  · rw [if_neg other] at code ⊢
    exact h r known code

theorem State.applyPending_makes_undeferred (c : FaultCode) (s : State) : (s.applyPending c).undeferred c := by
  intro x mem code
  rw [State.applyPending_faults] at mem
  obtain ⟨r, -, rfl⟩ := List.mem_map.mp mem
  by_cases is : r.code = c
  · rw [if_pos is]
    dsimp only
    split
    · dsimp only
      split <;> exact RecordState.noConfusion
    · assumption
  · rw [if_neg is] at code
    exact absurd code is

/-- The parts of the blocks that a consequence sets, and no consequence clears (Table 10.6). -/
theorem State.applyPending_keeps_consequences (s : State) (d : FaultCode) :
    (s.odo.left.excluded = true → (s.applyPending d).odo.left.excluded = true)
    ∧ (s.odo.right.excluded = true → (s.applyPending d).odo.right.excluded = true)
    ∧ (s.joint.protectionOff = true → (s.applyPending d).joint.protectionOff = true)
    ∧ (s.air.cornerL.excluded = true ∧ s.air.kneelDisabled = true →
        (s.applyPending d).air.cornerL.excluded = true ∧ (s.applyPending d).air.kneelDisabled = true)
    ∧ (s.air.cornerR.excluded = true ∧ s.air.kneelDisabled = true →
        (s.applyPending d).air.cornerR.excluded = true ∧ (s.applyPending d).air.kneelDisabled = true)
    ∧ (s.air.reservoirLatch = true ∧ s.air.air = .protect →
        (s.applyPending d).air.reservoirLatch = true ∧ (s.applyPending d).air.air = .protect) := by
  cases d
  case wheelSensorL => exact ⟨fun _ => rfl, id, id, id, id, id⟩
  case wheelSensorR => exact ⟨id, fun _ => rfl, id, id, id, id⟩
  case jointSensor => exact ⟨id, id, fun _ => rfl, id, id, id⟩
  case heightSensorL => exact ⟨id, id, id, fun _ => ⟨rfl, rfl⟩, fun h => ⟨h.1, rfl⟩, id⟩
  case heightSensorR => exact ⟨id, id, id, fun h => ⟨h.1, rfl⟩, fun _ => ⟨rfl, rfl⟩, id⟩
  case reservoirSensor => exact ⟨id, id, id, id, id, fun _ => ⟨rfl, rfl⟩⟩
  all_goals exact ⟨id, id, id, id, id, id⟩

/-! ## Settling where the window stays as it is -/

/-- After the window, settling moves the mode and its RUN time in the supervisor. -/
theorem State.settle_sup_of_closeIfIdle (s : State) :
    ∃ mode runFrom, s.settle.sup = { s.closeIfIdle.sup with mode := mode, runFrom := runFrom } := by
  unfold State.settle
  rw [State.gateReleases_sup]
  rcases s.closeIfIdle.updateMode_cases with ⟨-, -, e⟩ | ⟨-, -, e⟩ | e <;> rw [e]
  · exact ⟨_, _, rfl⟩
  · exact ⟨_, _, rfl⟩
  · exact ⟨_, _, rfl⟩

/-- No window is there to close. -/
theorem State.closeIfIdle_of_closed {s : State} (closed : s.sup.windowFrom = none) : s.closeIfIdle = s :=
  if_neg (by simp [closed])

/-- A protected manoeuvre keeps the window open. -/
theorem State.closeIfIdle_of_protected {s : State} (manoeuvre : s.protectedManoeuvre = true) : s.closeIfIdle = s :=
  if_neg (by simp [manoeuvre])

section
variable {s : State} (stays : s.closeIfIdle = s)
include stays

/-- Where the window does not close, settling moves the mode and the release lines, and nothing else. -/
theorem State.settle_onlyChanges_of_stays : s.onlyChanges [.sup, .doors] s.settle := by
  unfold State.settle
  rw [stays]
  have gated (t : State) : t.onlyChanges [.sup, .doors] t.gateReleases :=
    State.onlyChanges_ite (t.onlyChanges_refl _) (State.onlyChanges_mono (State.setDoors_onlyChanges ..) (by decide))
  refine State.onlyChanges_trans ?_ (gated _)
  rcases s.updateMode_cases with ⟨-, -, e⟩ | ⟨-, -, e⟩ | e <;> rw [e]
  · exact (State.onlyChanges_mono (State.setSup_onlyChanges ..) (by decide)).step (State.setDoors_onlyChanges ..) (by decide)
  · exact s.enterDegraded_onlyChanges
  · exact s.onlyChanges_refl _

theorem State.settle_sup_of_stays :
    ∃ mode runFrom, s.settle.sup = { s.sup with mode := mode, runFrom := runFrom } := by
  obtain ⟨mode, runFrom, e⟩ := s.settle_sup_of_closeIfIdle
  exact ⟨mode, runFrom, by rw [e, stays]⟩

end

theorem State.settle_onlyChanges_of_closed {s : State} (closed : s.sup.windowFrom = none) :
    s.onlyChanges [.sup, .doors] s.settle := State.settle_onlyChanges_of_stays (State.closeIfIdle_of_closed closed)

theorem State.settle_sup_of_closed {s : State} (closed : s.sup.windowFrom = none) :
    ∃ mode runFrom, s.settle.sup = { s.sup with mode := mode, runFrom := runFrom } :=
  State.settle_sup_of_stays (State.closeIfIdle_of_closed closed)

/-- Settles O10. -/
theorem windowTimeoutAppliesConsequences : Obligations.window_timeout_applies_consequences := by
  intro dt s w opened due
  have reached : (s.advance dt).reached (s.advance dt).sup.windowFrom windowLimit = true :=
    (State.reached_iff (s := s.advance dt) opened).mpr due
  have closed : (s.advance dt).closeWindow.sup.windowFrom = none := rfl
  have kept := State.settle_onlyChanges_of_closed closed
  obtain ⟨mode, runFrom, sup⟩ := State.settle_sup_of_closed closed
  have odo : (s.advance dt).closeWindow.settle.odo = ((s.advance dt).applyAll s.sup.deferred).odo :=
    State.same_of_onlyChanges kept .odo (by decide)
  have joint : (s.advance dt).closeWindow.settle.joint = ((s.advance dt).applyAll s.sup.deferred).joint :=
    State.same_of_onlyChanges kept .joint (by decide)
  have air : (s.advance dt).closeWindow.settle.air = ((s.advance dt).applyAll s.sup.deferred).air :=
    State.same_of_onlyChanges kept .air (by decide)
  have kept (t : State) (d : FaultCode) := t.applyPending_keeps_consequences d
  have ends : (s.advance dt).windowTimeout = (s.advance dt).closeWindow.settle := if_pos reached
  refine completes_of ends ⟨?_, ?_, fun c mem deferrable => ?_, fun x mem pending => ?_, fun mem => ?_, fun mem => ?_,
    fun mem => ?_, fun mem => ?_, fun mem => ?_, fun mem => ?_, ?_⟩
  · rw [sup]
    rfl
  · rw [sup]
    rfl
  · unfold State.inEffect
    rw [sup]
    exact State.applyAll_makes (Q := fun t => t.inEffect c = true)
      (fun t d h => by rw [State.inEffect_applyPending, h, Bool.true_or])
      (fun t => by rw [State.inEffect_applyPending, deferrable]; simp) mem (s.advance dt)
  · rw [sup] at mem
    exact State.applyAll_makes (Q := State.undeferred x.code) (State.applyPending_keeps_undeferred x.code)
      (State.applyPending_makes_undeferred x.code) pending (s.advance dt) x mem rfl
  · rw [odo]
    exact State.applyAll_makes (Q := fun t => t.odo.left.excluded = true) (fun t d => (kept t d).1) (fun t => rfl) mem _
  · rw [odo]
    exact State.applyAll_makes (Q := fun t => t.odo.right.excluded = true) (fun t d => (kept t d).2.1) (fun t => rfl) mem _
  · rw [joint]
    exact State.applyAll_makes (Q := fun t => t.joint.protectionOff = true) (fun t d => (kept t d).2.2.1) (fun t => rfl) mem _
  · rw [air]
    exact State.applyAll_makes (Q := fun t => t.air.cornerL.excluded = true ∧ t.air.kneelDisabled = true)
      (fun t d => (kept t d).2.2.2.1) (fun t => ⟨rfl, rfl⟩) mem _
  · rw [air]
    exact State.applyAll_makes (Q := fun t => t.air.cornerR.excluded = true ∧ t.air.kneelDisabled = true)
      (fun t d => (kept t d).2.2.2.2.1) (fun t => ⟨rfl, rfl⟩) mem _
  · rw [air]
    exact State.applyAll_makes (Q := fun t => t.air.reservoirLatch = true ∧ t.air.air = .protect)
      (fun t d => (kept t d).2.2.2.2.2) (fun t => ⟨rfl, rfl⟩) mem _
  · exact (State.onlyChanges_mono (State.closeWindow_onlyChanges _) (by decide)).step (State.settle_onlyChanges _) (by decide)

/-! ## The SYNC time and the RUN time: O9 -/

/-- A degraded cause stays where what it looks at stays and consequences only come into effect. -/
theorem State.degradedCause_mono {s t : State} (peers : t.peers = s.peers) (driver : t.driver = s.driver)
    (mark : t.odo.markValid = s.odo.markValid) (steer : t.steer = s.steer) (brake : t.brake = s.brake)
    (loader : t.loader = s.loader) (conditions : t.sup.conditions = s.sup.conditions)
    (effects : ∀ c, s.inEffect c = true → t.inEffect c = true) (cause : s.degradedCause = true) :
    t.degradedCause = true := by
  have more : degradingEffects.any (fun c => s.inEffect c) = true → degradingEffects.any (fun c => t.inEffect c) = true := by
    intro some
    obtain ⟨c, mem, h⟩ := List.any_eq_true.mp some
    exact List.any_eq_true.mpr ⟨c, mem, effects c h⟩
  unfold State.degradedCause State.driverUsable State.isCab State.station State.hasCondition at cause ⊢
  rw [peers, driver, mark, steer, brake, loader, conditions]
  simp only [Bool.or_eq_true] at cause ⊢
  exact cause.imp (Or.imp_right more) id

theorem State.closeIfIdle_degradedCause {s : State} (cause : s.degradedCause = true) : s.closeIfIdle.degradedCause = true := by
  rcases s.closeIfIdle_cases with ⟨-, -, e⟩ | ⟨-, e⟩ <;> rw [e]
  · have changed := s.closeWindow_onlyChanges
    refine State.degradedCause_mono (State.same_of_onlyChanges changed .peers (by decide))
      (State.same_of_onlyChanges changed .driver (by decide)) ?_ (State.same_of_onlyChanges changed .steer (by decide))
      (State.same_of_onlyChanges changed .brake (by decide)) (State.same_of_onlyChanges changed .loader (by decide))
      (State.applyAll_conditions ..) (fun c on => ?_) cause
    · refine State.applyAll_keeps (Q := fun t => t.odo.markValid = s.odo.markValid) (fun t d h => ?_) _ rfl
      cases d <;> exact h
    · exact State.applyAll_keeps (Q := fun t => t.inEffect c = true)
        (fun t d h => by rw [State.inEffect_applyPending, h, Bool.true_or]) _ on
  · exact cause

/-- DEGRADED stays while a cause is present, and its line with it (R168, R174). -/
theorem State.settle_of_degraded {s : State} (mode : s.sup.mode = .degraded) (cause : s.degradedCause = true) :
    s.settle.sup.mode = .degraded ∧ s.settle.doors.speedLimit = s.doors.speedLimit := by
  have stays : s.closeIfIdle.updateMode = s.closeIfIdle := by
    have mode' : s.closeIfIdle.sup.mode = .degraded := (Supervisor.mode_of_stand s.closeIfIdle_stand).trans mode
    unfold State.updateMode
    rw [mode', State.closeIfIdle_degradedCause cause]
    rfl
  have line (t : State) : t.gateReleases.doors.speedLimit = t.doors.speedLimit :=
    ite_keeps (P := fun u : State => u.doors.speedLimit = t.doors.speedLimit) rfl rfl
  unfold State.settle
  rw [stays, line, State.gateReleases_sup, State.closeIfIdle_doors]
  exact ⟨(Supervisor.mode_of_stand s.closeIfIdle_stand).trans mode, rfl⟩

/-- From DEGRADED with no cause, and no window open, the station goes to RUN, which releases the line (R174). -/
theorem State.settle_of_recovered {s : State} (mode : s.sup.mode = .degraded) (cause : s.degradedCause = false)
    (closed : s.sup.windowFrom = none) : s.settle.sup.mode = .run ∧ s.settle.doors.speedLimit = .released := by
  have moves : s.updateMode = s.enterRun := by
    unfold State.updateMode
    rw [mode, cause]
    rfl
  have line (t : State) : t.gateReleases.doors.speedLimit = t.doors.speedLimit :=
    ite_keeps (P := fun u : State => u.doors.speedLimit = t.doors.speedLimit) rfl rfl
  rw [State.settle_of_no_window closed, line, State.gateReleases_sup, moves]
  exact ⟨rfl, if_pos mode⟩

/-- Settles O9. -/
theorem syncTimeAndRunTime : Obligations.sync_time_and_run_time := by
  refine ⟨fun dt s f mode since due => ?_, fun dt s f since due => exec_next ?_⟩
  · have reached : (s.advance dt).reached (s.advance dt).sup.syncFrom syncLimit = true :=
      (State.reached_iff (s := s.advance dt) since).mpr due
    have ends : (s.advance dt).syncTimeout = (s.advance dt).enterDegraded.settle := if_pos ⟨mode, reached⟩
    refine ⟨fun cause => ?_, fun cause closed => ?_⟩
    · obtain ⟨mode', line⟩ := State.settle_of_degraded (s := (s.advance dt).enterDegraded) rfl cause
      exact completes_of ends ⟨mode', line, (State.onlyChanges_mono (State.enterDegraded_onlyChanges _) (by decide)).step
        (State.settle_onlyChanges _) (by decide)⟩
    · obtain ⟨mode', line⟩ := State.settle_of_recovered (s := (s.advance dt).enterDegraded) rfl cause closed
      exact completes_of ends ⟨mode', line, State.onlyChanges_trans (State.enterDegraded_onlyChanges _)
        (State.settle_onlyChanges_of_closed (s := (s.advance dt).enterDegraded) closed)⟩
  · exact if_pos ((State.reached_iff (s := s.advance dt) since).mpr due)

end Sys2Proof.Machine
end

section
/-! PROOFS. The link engine's attempts, and the ends of LISTEN and SILENT (R12 to R14, R18 to R20): O12, O13. -/

namespace Sys2Proof.Machine

/-! ## The choice of a frame (R14): O12 -/

/-- In a sound queue the waiting frames stand by class. -/
theorem Link.sound.waiting_classes {l : Link} (h : l.sound) :
    l.waiting.Pairwise (fun x y => x.frame.identifier / 8 ≤ y.frame.identifier / 8) := by
  have apart (m : Nat) {qs : List Queued} (k : ofClass m qs) : qs.Pairwise fun x y =>
      x.frame.identifier / 8 ≤ y.frame.identifier / 8 :=
    List.pairwise_of_forall_mem_list fun x hx y hy => by rw [k x hx, k y hy]
  have driver := apart 1 h.classDriver
  have state := apart 3 h.classState
  have answer := apart 6 h.classAnswer
  unfold Link.waiting
  simp only [List.append_assoc, List.pairwise_append, List.mem_append]
  refine ⟨apart 0 h.classAlerts, ⟨driver, ⟨apart 2 h.classPaths, ⟨state, answer, ?_⟩, ?_⟩, ?_⟩, ?_⟩
  · intro x hx y hy
    rw [h.classState x hx, h.classAnswer y hy]
    decide
  · intro x hx y hy
    rw [h.classPaths x hx]
    rcases hy with hy | hy
    · rw [h.classState y hy]
      decide
    · rw [h.classAnswer y hy]
      decide
  · intro x hx y hy
    rw [h.classDriver x hx]
    rcases hy with hy | hy | hy
    · rw [h.classPaths y hy]
      decide
    · rw [h.classState y hy]
      decide
    · rw [h.classAnswer y hy]
      decide
  · intro x hx y _
    rw [h.classAlerts x hx]
    exact Nat.zero_le _

/-- The first waiting frame is the oldest ALERT where its class is 0, and the oldest PATH frame where it is 2. -/
theorem Link.sound.head_oldest {l : Link} (h : l.sound) {q : Queued} (head : l.waiting.head? = some q) :
    (q.frame.identifier / 8 = 0 → l.alerts.head? = some q) ∧ (q.frame.identifier / 8 = 2 → l.paths.head? = some q) := by
  unfold Link.waiting at head
  simp only [List.append_assoc] at head
  cases alerts : l.alerts with
  | cons a rest =>
    rw [alerts] at head
    obtain rfl : a = q := Option.some.inj head
    have kind := h.classAlerts a (by simp [alerts])
    exact ⟨fun _ => rfl, fun two => absurd (kind.symm.trans two) (by decide)⟩
  | nil =>
    rw [alerts, List.nil_append] at head
    cases driver : l.driver with
    | some d =>
      rw [driver] at head
      obtain rfl : d = q := Option.some.inj head
      have kind := h.classDriver d (by simp [driver])
      exact ⟨fun zero => absurd (kind.symm.trans zero) (by decide), fun two => absurd (kind.symm.trans two) (by decide)⟩
    | none =>
      rw [driver, Option.toList_none, List.nil_append] at head
      cases paths : l.paths with
      | cons p rest =>
        rw [paths] at head
        obtain rfl : p = q := Option.some.inj head
        have kind := h.classPaths p (by simp [paths])
        exact ⟨fun zero => absurd (kind.symm.trans zero) (by decide), fun _ => rfl⟩
      | nil =>
        rw [paths, List.nil_append] at head
        have mem := List.mem_of_mem_head? head
        rcases List.mem_append.mp mem with late | late
        · have kind := h.classState q late
          exact ⟨fun zero => absurd (kind.symm.trans zero) (by decide), fun two => absurd (kind.symm.trans two) (by decide)⟩
        · have kind := h.classAnswer q late
          exact ⟨fun zero => absurd (kind.symm.trans zero) (by decide), fun two => absurd (kind.symm.trans two) (by decide)⟩

/-- Settles O12. -/
theorem attemptTakesLowestClass : Obligations.attempt_takes_lowest_class := by
  intro dt s sound active idle waits
  obtain ⟨q, rest, waiting⟩ := List.exists_cons_of_ne_nil waits
  have head : s.link.waiting.head? = some q := by rw [waiting]; rfl
  have classes := sound.waiting_classes
  rw [waiting] at classes
  refine ⟨q, by simp [waiting], exec_next ?_, fun x mem => ?_, sound.head_oldest head⟩
  · refine (if_pos ⟨active, idle⟩).trans ?_
    change (s.advance dt).setLink { s.link with attempt := s.link.waiting.head? } = _
    rw [head]
  · rw [waiting] at mem
    rcases List.mem_cons.mp mem with rfl | later
    · exact Nat.le_refl _
    · exact List.rel_of_pairwise_cons classes later

/-! ## The ends of an attempt, of LISTEN and of SILENT (R12 to R14, R18 to R20): O13 -/

/-- The frame of a ticket leaves the queue, and no other frame does. -/
theorem Link.mem_waiting_dequeue (l : Link) (ticket : Nat) (x : Queued) :
    x ∈ (l.dequeue ticket).waiting ↔ x ∈ l.waiting ∧ x.ticket ≠ ticket := by
  simp only [Link.waiting, Link.dequeue, List.mem_append, List.mem_filter, Option.mem_toList, Option.filter_eq_some_iff,
    keepUnless, bne_iff_ne]
  tauto

theorem State.linkDue_of {s : State} {x : LinkState} (state : s.link.state = x) (due : 100000 ≤ s.now - s.link.since) :
    s.linkDue x = true := by
  have late : linkWait ≤ s.elapsed s.link.since := due
  simp [State.linkDue, state, late]

theorem State.destroyAttempt_of {s : State} {q : Queued} (attempt : s.link.attempt = some q) (below : s.link.errors ≤ 31) :
    s.destroyAttempt =
      if s.link.errors = 31 then (s.setLink { s.link with attempt := none, errors := 32 }).enterSilent
      else s.setLink { s.link with attempt := none, errors := s.link.errors + 1 } := by
  have count : min silentAt (s.link.errors + 1) = s.link.errors + 1 := Nat.min_eq_right (Nat.succ_le_succ below)
  unfold State.destroyAttempt
  rw [attempt]
  dsimp only
  rw [count]
  by_cases last : s.link.errors = 31
  · rw [if_pos last, if_pos (by rw [State.setLink_link, last]; exact Nat.le_refl _), last]
  · rw [if_neg last, if_neg]
    have less : s.link.errors + 1 < silentAt := by
      have : silentAt = 32 := rfl
      omega
    exact Nat.not_le.mpr less

/-- Settles O13. -/
theorem attemptsListenAndSilentEnd : Obligations.attempts_listen_and_silent_end := by
  refine ⟨fun dt s q attempt => ⟨?_, ?_, fun below => ?_, fun last => ?_⟩, fun dt s state due => ?_, fun dt s state due => ?_⟩
  · have e : (s.advance dt).completeAttempt =
        (s.advance dt).setLink { s.link.dequeue q.ticket with attempt := none, errors := s.link.errors - 1 } := by
      unfold State.completeAttempt
      rw [show (s.advance dt).link.attempt = some q from attempt]
      rfl
    exact completes_of e ⟨rfl, rfl, rfl, fun x => s.link.mem_waiting_dequeue q.ticket x, State.setLink_onlyChanges ..⟩
  · exact exec_next rfl
  · refine exec_next ((State.destroyAttempt_of (s := s.advance dt) attempt (Nat.le_of_lt below)).trans ?_)
    exact if_neg (Nat.ne_of_lt below)
  · have e := (State.destroyAttempt_of (s := s.advance dt) attempt (Nat.le_of_eq last)).trans (if_pos last)
    refine completes_of e ⟨?_, ?_, ?_⟩
    · unfold State.enterSilent
      rw [State.raiseFault_link]
      rfl
    · unfold State.enterSilent
      rw [State.hasCondition_raiseFault]
      simp
    · exact ((State.onlyChanges_mono (State.setLink_onlyChanges ..) (by decide)).step (State.setLink_onlyChanges ..)
        (by decide)).step (State.raiseFault_touches _ .linkSilent) (by decide)
  · exact exec_next (if_pos (State.linkDue_of (s := s.advance dt) state due))
  · have e : (s.advance dt).endSilent = _ := if_pos (State.linkDue_of (s := s.advance dt) state due)
    refine completes_of e ⟨rfl, ?_, (State.onlyChanges_mono (State.setLink_onlyChanges ..) (by decide)).step
      (State.endCondition_onlyChanges ..) (by decide)⟩
    rw [State.hasCondition_endCondition]
    simp

end Sys2Proof.Machine
end

section
/-! PROOFS. Frames of peers and of other senders, and the peer and driver timers (R21, R25, R26, R35, R36, R40 to R42):
O16 to O20. -/

namespace Sys2Proof.Machine

/-! ## Missed deadlines (R35, R36): O16 -/

/-- A deadline that passes costs a tracked record one error, and the next one falls 10 ms later unless the record is
lost. -/
theorem PeerRecord.miss_eq {r : PeerRecord} {d : Micros} (tracked : r.presence = .joining ∨ r.presence = .present)
    (deadline : r.deadline = some d) (limit : Nat) (now : Micros) :
    r.miss limit now =
      { r.afterError limit now with deadline := if r.errors < limit then some (d + 10000) else none } := by
  have notLost : r.presence ≠ .lost := by rintro h; simp [h] at tracked
  unfold PeerRecord.miss
  rw [deadline]
  dsimp only
  rw [PeerRecord.countError_eq_afterError]
  unfold PeerRecord.afterError
  by_cases below : r.errors < limit
  · simp [below, notLost, missedEvery, Config.ms]
  · simp [below]

theorem PeerRecord.miss_lost {r : PeerRecord} {d : Micros} {limit : Nat} (tracked : r.presence = .joining ∨ r.presence = .present)
    (deadline : r.deadline = some d) (full : limit ≤ r.errors) (now : Micros) : (r.miss limit now).presence = .lost := by
  rw [PeerRecord.miss_eq tracked deadline]
  simp [PeerRecord.afterError, Nat.not_lt.mpr full]

theorem PeerRecord.missDue_iff {r : PeerRecord} {d : Micros} (tracked : r.presence = .joining ∨ r.presence = .present)
    (deadline : r.deadline = some d) (now : Micros) : r.missDue now = true ↔ d ≤ now := by
  simp [PeerRecord.missDue, r.tracked_iff.mpr tracked, deadline]

/-- Settles O16. -/
theorem missedDeadlineCountsAnError : Obligations.missed_deadline_counts_an_error := by
  intro dt k s r d timers held tracked deadline
  have notLost : r.presence ≠ .lost := by rintro h; simp [h] at tracked
  have due : ((s.advance dt).peer k).any (fun x => x.missDue (s.advance dt).now) = true ↔ d ≤ s.now + dt := by
    rw [show (s.advance dt).peer k = some r from held]
    exact PeerRecord.missDue_iff tracked deadline _
  have on : (s.advance dt).timersRun = true := timers
  refine ⟨fun passed => ?_, fun early => exec_next (if_neg fun h => ?_)⟩
  · have ends : (s.advance dt).missPeer k =
        ((s.advance dt).changePeer k fun x => x.miss s.errorLimit (s.now + dt)).settle :=
      if_pos (by rw [on, due.mpr passed]; rfl)
    have peers := (State.settle_peers _).trans
      (State.changePeer_peers (s := s.advance dt) held fun x => x.miss s.errorLimit (s.now + dt))
    refine completes_of ends ⟨?_, fun j other => ?_, ?_, fun full => ?_⟩
    · exact (State.changePeer_onlyChanges (s := s.advance dt) held _).step (State.settle_onlyChanges _) (by decide)
    · rw [State.peer_of_peers_eq peers, State.peer_updatePeer, if_neg other]
      rfl
    · rw [State.peer_of_peers_eq peers, State.peer_updatePeer_self (s := s.advance dt) held,
        PeerRecord.miss_eq tracked deadline]
    · exact (State.hasCondition_settle _ _).trans (State.changePeer_raises_peerLost (s := s.advance dt) held _ notLost
        (PeerRecord.miss_lost tracked deadline full _))
  · exact absurd (due.mp (Bool.and_eq_true_iff.mp h).2) (Nat.not_le.mpr early)

/-! ## The driver content and its age (R26, R41, R42): O17, O18 -/

/-- Settles O17. -/
theorem driverFrameIsTakenFromStation1 : Obligations.driver_frame_is_taken_from_station_1 := by
  intro dt k payload s hears
  have taken : (Instr.driverFrameReceived dt k payload).work (s.advance dt) = (s.advance dt).takeDriver k.toNat payload :=
    State.received_peer (s := s.advance dt) hears fun u => u.takeDriver k.toNat payload
  refine ⟨fun c cab read => ?_, fun other => exec_next (taken.trans ?_)⟩
  · have ends : (s.advance dt).takeDriver k.toNat payload = ((s.advance dt).newDriver c).settle := by
      unfold State.takeDriver
      rw [if_pos cab, read]
    refine completes_of (taken.trans ends) ⟨State.settle_driver _, ?_, ?_⟩
    · rw [State.hasCondition_settle, State.newDriver, State.hasCondition_endCondition]
      simp
    · exact (State.onlyChanges_mono (State.newDriver_onlyChanges ..) (by decide)).step (State.settle_onlyChanges _) (by decide)
  · unfold State.takeDriver
    by_cases cab : k.toNat = 1
    · rw [if_pos cab, other.resolve_left (fun h => h cab)]
    · exact if_neg cab

theorem State.driverOlder_iff (s : State) (span : Micros) : s.driverOlder span = true ↔ span < s.now - s.driver.since :=
  decide_eq_true_iff

/-- Settles O18. -/
theorem driverStatusFollowsAge : Obligations.driver_status_follows_age := by
  intro dt s timers
  have on : (s.advance dt).timersRun = true := timers
  have older (span : Micros) := (s.advance dt).driverOlder_iff span
  refine ⟨fun fresh aged _ => ?_, fun young => exec_next (if_neg fun h => ?_),
    fun usable aged => ?_, fun young => exec_next (if_neg fun h => ?_), fun l none left due clear => ?_⟩
  · have fresh' : (s.advance dt).driver.status = .fresh := fresh
    have due : ((s.advance dt).timersRun && (s.advance dt).driver.status == .fresh
        && (s.advance dt).driverOlder holdingAfter) = true := by
      rw [on, fresh', (older holdingAfter).mpr aged]
      rfl
    exact exec_next (if_pos due)
  · exact Nat.not_lt.mpr young ((older holdingAfter).mp (Bool.and_eq_true_iff.mp h).2)
  · have usable' : (s.advance dt).driverUsable = true := by
      change s.driver.usable = true
      unfold DriverHold.usable
      rcases usable with h | h <;> rw [h]
    have ends : (s.advance dt).expireDriver = (((s.advance dt).setStatus .expired).raiseFault .cabLost).settle :=
      if_pos (by rw [on, usable', (older expiredAfter).mpr aged]; rfl)
    refine completes_of ends ⟨?_, ?_, ?_⟩
    · rw [State.settle_driver, State.raiseFault_driver]
      rfl
    · rw [State.hasCondition_settle, State.hasCondition_raiseFault]
      simp
    · exact ((State.onlyChanges_mono (State.setDriver_onlyChanges ..) (by decide)).step
        (State.raiseFault_touches _ .cabLost) (by decide)).step (State.settle_onlyChanges _) (by decide)
  · exact Nat.not_lt.mpr young ((older expiredAfter).mp (Bool.and_eq_true_iff.mp h).2)
  · have reached : (s.advance dt).reached (s.advance dt).link.leftListen cabLostAfter = true :=
      (State.reached_iff (s := s.advance dt) left).mpr due
    have none' : (s.advance dt).driver.status = .none := none
    have clear' : (s.advance dt).hasCondition .cabLost = false := clear
    have ends : (s.advance dt).loseCab = ((s.advance dt).raiseFault .cabLost).settle :=
      if_pos (by rw [on, none', reached, clear']; rfl)
    refine completes_of ends ⟨?_, ?_⟩
    · rw [State.hasCondition_settle, State.hasCondition_raiseFault]
      simp
    · exact (State.onlyChanges_mono (State.raiseFault_touches _ .cabLost) (by decide)).step
        (State.settle_onlyChanges _) (by decide)

/-! ## Alerts of peers (R32, R40): O19 -/

/-- A decoded ALERT names a slot of its kind. -/
theorem slotFits_of_decodeAlert {sender : Nat} {p : Payload} {a : Alert} (read : decodeAlert sender p = some a) :
    a.kind.slotFits a.slot = true := by
  unfold decodeAlert at read
  split at read
  · cases read
  · split at read
    · cases read
    · split at read
      · next fits =>
        cases read
        exact fits
      · cases read

/-- An ALERT whose slot fits its kind sets the one latch that it names. -/
theorem PeerRecord.latch_eq (r : PeerRecord) {a : Alert} (fits : a.kind.slotFits a.slot = true) :
    r.latch a =
      { r with
        doorLatch0 := if a.kind = .doorUnreleased ∧ a.slot = 0 then some 0 else r.doorLatch0
        doorLatch1 := if a.kind = .doorUnreleased ∧ a.slot = 1 then some 0 else r.doorLatch1
        edgeLatch0 := if a.kind = .edge ∧ a.slot = 0 then some 0 else r.edgeLatch0
        edgeLatch1 := if a.kind = .edge ∧ a.slot = 1 then some 0 else r.edgeLatch1
        jackLatch := if a.kind = .jackknife then some 0 else r.jackLatch } := by
  have slots (h : (a.slot == 0 || a.slot == 1) = true) : a.slot = 0 ∨ a.slot = 1 := by simpa using h
  unfold PeerRecord.latch
  cases kind : a.kind <;> rw [kind] at fits
  case doorUnreleased => rcases slots fits with slot | slot <;> simp [slot]
  case edge => rcases slots fits with slot | slot <;> simp [slot]
  all_goals simp

/-- Settles O19. -/
theorem alertSetsItsLatch : Obligations.alert_sets_its_latch := by
  intro dt k payload s r a hears held read
  have taken : (Instr.alertFrameReceived dt k payload).work (s.advance dt) =
      (s.advance dt).updatePeer k.toNat fun x => x.latch a := by
    refine (State.received_peer (s := s.advance dt) hears fun u => u.takeAlert k.toNat payload).trans ?_
    unfold State.takeAlert
    rw [read]
  refine completes_of taken ⟨?_, fun j other => ?_, State.updatePeer_onlyChanges ..⟩
  · rw [State.peer_updatePeer_self (s := s.advance dt) held, PeerRecord.latch_eq r (slotFits_of_decodeAlert read)]
  · rw [State.peer_updatePeer, if_neg other]
    rfl

/-! ## Other senders (R21, R25, R26): O20 -/

/-- A raise in a list with room leaves a record of its code, with the time of the raise as its last (R182). -/
theorem Supervisor.exists_record {u : Supervisor} (room : u.faults.length < 16) (c : FaultCode) (x : RecordState)
    (time : Nat) : ∃ r ∈ (u.record c x time).faults, r.code = c ∧ r.last = time := by
  rcases u.record_cases c x time with ⟨⟨r, found⟩, e⟩ | ⟨-, e⟩ <;> rw [e]
  · refine ⟨_, List.mem_map_of_mem (List.mem_of_find?_eq_some found), ?_⟩
    have code : r.code = c := by simpa using List.find?_some found
    rw [if_pos code]
    unfold FaultRecord.raiseAgain
    split <;> exact ⟨code, rfl⟩
  · rcases u.addRecord_cases { code := c, state := x, count := 1, first := time, last := time } with
      ⟨-, f⟩ | ⟨full, -⟩ | ⟨full, -⟩
    · rw [f]
      exact ⟨_, List.mem_append_right _ (List.mem_singleton.mpr rfl), rfl, rfl⟩
    · exact absurd room (Nat.not_lt.mpr full)
    · exact absurd room (Nat.not_lt.mpr full)

/-- The end of a condition removes no record. -/
theorem Supervisor.exists_record_endCondition {u : Supervisor} {c : FaultCode} {time : Nat} (d : FaultCode)
    (h : ∃ r ∈ u.faults, r.code = c ∧ r.last = time) : ∃ r ∈ (u.endCondition d).faults, r.code = c ∧ r.last = time := by
  obtain ⟨r, mem, known⟩ := h
  refine ⟨_, List.mem_map_of_mem mem, ?_⟩
  split
  · dsimp only
    split <;> exact known
  · exact known

/-- A single event of a code without a deferrable consequence is recorded where the list has room. -/
theorem State.exists_record_raiseEvent {s : State} (room : s.sup.faults.length < 16) {c : FaultCode}
    (both : c ≠ .wheelSensorsBoth) (plain : c.deferrable = false) :
    ∃ r ∈ (s.raiseEvent c).sup.faults, r.code = c ∧ r.last = s.stationTime := by
  refine Supervisor.exists_record_endCondition c ?_
  rw [State.raiseFault_recorded s both plain]
  refine Supervisor.exists_record ?_ ..
  unfold Supervisor.addCondition
  split <;> exact room

section
variable {s : State} {k : BitVec 3} (runs : s.link.state ≠ .stopped) (other : k.toNat ≠ s.station)
include runs other

theorem State.arrival_unexpected (tool : k.toNat ≠ 7) (outside : k.toNat = 0 ∨ s.axles < k.toNat) :
    s.arrival k.toNat = .unexpected := by
  unfold State.arrival
  rw [if_neg (by simp [runs, other]), if_neg tool, if_pos outside]

theorem State.arrival_peer (hears : s.hearsPeer k) : s.arrival k.toNat = .peer := by
  obtain ⟨-, -, least, most, tool⟩ := hears
  unfold State.arrival
  rw [if_neg (by simp [runs, other]), if_neg tool, if_neg (by omega)]

end

theorem State.arrival_ignored {s : State} {k : Nat} (h : s.link.state = .stopped ∨ k = s.station) :
    s.arrival k = .ignored := if_pos h

/-- A request reaches nothing but the link engine from the tool, and is met as a frame of any class otherwise. -/
theorem State.takeService_of_not_tool {s : State} {k : Nat} (h : s.arrival k ≠ .tool) (request : Payload) :
    s.takeService k request = s.received k id := by
  unfold State.takeService State.received
  cases e : s.arrival k
  case tool => exact absurd e h
  all_goals rfl

/-- The first frame of an unexpected sender marks the engine and records a single event (R25). -/
theorem State.meetUnexpected_of_first {s : State} (first : s.link.unexpectedSeen = false) :
    s.meetUnexpected = (s.setLink { s.link with unexpectedSeen := true }).raiseEvent .stationUnexpected := by
  unfold State.meetUnexpected
  rw [first]
  rfl

section
variable {s : State} (dt : Micros) (k : BitVec 3) (p : Payload) (target tag argument : Byte)

/-- A frame of the classes 0..3 is met by its sender. -/
theorem frame_work {i : Instr}
    (mem : i ∈ [Instr.stateFrameReceived dt k p, .driverFrameReceived dt k p, .pathFrameReceived dt k p,
      .alertFrameReceived dt k p]) :
    i.elapsed = dt ∧ ∃ handle : State → State, i.work s = s.received k.toNat handle := by
  simp only [List.mem_cons, List.not_mem_nil, or_false] at mem
  rcases mem with rfl | rfl | rfl | rfl
  · exact ⟨rfl, fun u => (u.takeState k.toNat p).settle, rfl⟩
  · exact ⟨rfl, fun u => u.takeDriver k.toNat p, rfl⟩
  · exact ⟨rfl, fun u => u.takePath k.toNat p, rfl⟩
  · exact ⟨rfl, fun u => u.takeAlert k.toNat p, rfl⟩

/-- So is a request. -/
theorem request_work {i : Instr}
    (mem : i ∈ [Instr.serviceRequestRejected dt k p, .readStatus dt k target tag argument,
      .readFaults dt k target tag argument, .clearFaults dt k target tag argument, .readParameter dt k target tag argument,
      .readTrack dt k target tag argument]) :
    i.elapsed = dt ∧ ∃ request : Payload, i.work s = s.takeService k.toNat request := by
  simp only [List.mem_cons, List.not_mem_nil, or_false] at mem
  rcases mem with rfl | rfl | rfl | rfl | rfl | rfl
  all_goals exact ⟨rfl, _, rfl⟩

end

/-- Settles O20. -/
theorem framesOfOtherSenders : Obligations.frames_of_other_senders := by
  intro dt k p target tag argument s i
  dsimp only
  have idle {i : Instr} (time : i.elapsed = dt) (h : i.work (s.advance dt) = s.advance dt) :
      exec i s = .next (s.advance dt) := exec_next (by rw [time]; exact h)
  refine ⟨fun mem quiet => ?_, fun mem quiet => ?_, fun mem runs own tool outside => ?_⟩
  · obtain ⟨time, handle, work⟩ := frame_work (s := s.advance dt) dt k p mem
    exact idle time (work.trans (State.received_ignored (s := s.advance dt) quiet handle))
  · obtain ⟨time, request, work⟩ := request_work (s := s.advance dt) dt k p target tag argument mem
    refine idle time (work.trans ?_)
    have arrival : (s.advance dt).arrival k.toNat = .ignored ∨ (s.advance dt).arrival k.toNat = .peer := by
      rcases quiet with stopped | own | peer
      · exact .inl (State.arrival_ignored (.inl stopped))
      · exact .inl (State.arrival_ignored (.inr own))
      · exact .inr (State.arrival_peer (s := s.advance dt) peer.1 peer.2.1 peer)
    unfold State.takeService
    rcases arrival with e | e <;> rw [e]
  · have arrival : (s.advance dt).arrival k.toNat = .unexpected :=
      State.arrival_unexpected (s := s.advance dt) runs own tool outside
    have met (handle : State → State) : (s.advance dt).received k.toNat handle = (s.advance dt).meetUnexpected := by
      unfold State.received
      rw [arrival]
    have work : i.elapsed = dt ∧ i.work (s.advance dt) = (s.advance dt).meetUnexpected := by
      rcases List.mem_append.mp mem with frame | request
      · obtain ⟨time, handle, work⟩ := frame_work (s := s.advance dt) dt k p frame
        exact ⟨time, work.trans (met handle)⟩
      · obtain ⟨time, request, work⟩ := request_work (s := s.advance dt) dt k p target tag argument request
        exact ⟨time, work.trans ((State.takeService_of_not_tool (by simp [arrival]) request).trans (met id))⟩
    refine ⟨fun seen => idle work.1 (work.2.trans (if_pos seen)), fun first => ?_⟩
    have ends : i.work (s.advance i.elapsed) =
        ((s.advance dt).setLink { s.link with unexpectedSeen := true }).raiseEvent .stationUnexpected := by
      rw [work.1]
      exact work.2.trans (State.meetUnexpected_of_first (s := s.advance dt) first)
    refine completes_of ends ⟨State.raiseEvent_link _ _, ?_, fun room => ?_, ?_⟩
    · rw [State.hasCondition_raiseEvent]
      simp
    · obtain ⟨r, mem, code, -⟩ :=
        State.exists_record_raiseEvent (s := (s.advance dt).setLink _) room (c := .stationUnexpected) (by decide) rfl
      exact ⟨r, mem, code⟩
    · exact (State.onlyChanges_mono (State.setLink_onlyChanges ..) (by decide)).step
        (State.raiseEvent_touches _ .stationUnexpected) (by decide)

end Sys2Proof.Machine
end

section
/-! PROOFS. Admission of a PATH sample (R68 to R71): O21. -/

namespace Sys2Proof.Machine

theorem TrackMemory.isStale_eq (t : TrackMemory) (x : PathSample) :
    t.isStale x = t.entries.getLast?.any (fun e => x.mark ≤ e.mark) := by
  unfold TrackMemory.isStale TrackMemory.newest
  cases t.entries.getLast? <;> rfl

theorem TrackMemory.gapBefore_eq (t : TrackMemory) (x : PathSample) :
    t.gapBefore x = (x.gapBefore || t.entries.getLast?.any (fun e => e.mark + 50 < x.mark)) := by
  unfold TrackMemory.gapBefore TrackMemory.newest
  cases t.entries.getLast? <;> rfl

/-- The entry that case 4 of R68 appends for a sample. -/
def TrackMemory.entryOf (t : TrackMemory) (x : PathSample) : TrackEntry :=
  { mark := x.mark, curvature := x.curvature, gap := t.gapBefore x }

section
variable (s : State) (x : PathSample)

/-- A full memory loses its oldest entry (R69). -/
theorem State.admitSample_of_full (full : 128 ≤ s.track.entries.length) :
    s.admitSample x = (s.setTrack (s.track.dropOldest.append (s.track.entryOf x))).raiseEvent .trackOverflow := if_pos full

/-- The admission that brings the count to 112 sets the high watermark (R70). -/
theorem State.admitSample_of_high (high : s.track.entries.length = 111) :
    s.admitSample x =
      (s.setTrack { s.track.append (s.track.entryOf x) with highWater := true }).raiseFault .trackNearFull := by
  have room : ¬Config.trackCapacity ≤ s.track.entries.length := by rw [high]; decide
  refine (if_neg room).trans (if_pos ?_)
  simp [TrackMemory.append, high]

/-- Any other admission only appends. -/
theorem State.admitSample_of_room (room : s.track.entries.length < 128) (low : s.track.entries.length ≠ 111) :
    s.admitSample x = s.setTrack (s.track.append (s.track.entryOf x)) := by
  refine (if_neg (Nat.not_le.mpr room)).trans (if_neg ?_)
  simp only [State.setTrack_track, TrackMemory.append, List.length_append, List.length_singleton]
  omega

/-- What an admission by case 4 of R68 does to the entries, the counts and the two faults of the memory. -/
theorem State.admitSample_effect :
    (s.admitSample x).track.entries =
        (if 128 ≤ s.track.entries.length then s.track.entries.tail else s.track.entries) ++ [s.track.entryOf x]
    ∧ (s.admitSample x).track.staleCount = s.track.staleCount
    ∧ (128 ≤ s.track.entries.length →
        (s.admitSample x).hasCondition .trackOverflow = false
        ∧ (s.sup.faults.length < 16 →
            ∃ f ∈ (s.admitSample x).sup.faults, f.code = .trackOverflow ∧ f.last = s.stationTime))
    ∧ (s.track.entries.length = 111 →
        (s.admitSample x).track.highWater = true ∧ (s.admitSample x).hasCondition .trackNearFull = true)
    ∧ (s.track.entries.length ≠ 111 → (s.admitSample x).track.highWater = s.track.highWater) := by
  by_cases full : 128 ≤ s.track.entries.length
  · have dropped : s.track.dropOldest.staleCount = s.track.staleCount ∧ s.track.dropOldest.highWater = s.track.highWater := by
      unfold TrackMemory.dropOldest
      cases s.track.entries <;> exact ⟨rfl, rfl⟩
    rw [s.admitSample_of_full x full, State.raiseEvent_track, if_pos full]
    refine ⟨?_, dropped.1, fun _ => ⟨?_, fun room => ?_⟩, fun high => ?_, fun _ => dropped.2⟩
    · exact congrArg (· ++ [s.track.entryOf x]) s.track.dropOldest_entries
    · rw [State.hasCondition_raiseEvent]
      simp
    · exact State.exists_record_raiseEvent (s := s.setTrack _) room (by decide) rfl
    · omega
  · rw [if_neg full]
    by_cases high : s.track.entries.length = 111
    · rw [s.admitSample_of_high x high, State.raiseFault_track]
      refine ⟨rfl, rfl, fun h => absurd h full, fun _ => ⟨rfl, ?_⟩, fun low => absurd high low⟩
      rw [State.hasCondition_raiseFault]
      simp
    · rw [s.admitSample_of_room x (Nat.not_le.mp full) high]
      exact ⟨rfl, rfl, fun h => absurd h full, fun h => absurd h high, fun _ => rfl⟩

end

/-- The first case of R68 that fits. -/
theorem State.offerSample_cases (s : State) (x : PathSample) :
    ((s.odo.direction = .reverse ∨ s.sup.mode = .limp) ∧ s.offerSample x = s.setTrack s.track.countStale)
    ∨ (¬(s.odo.direction = .reverse ∨ s.sup.mode = .limp) ∧ x.firstAfterBreak = true
        ∧ s.offerSample x =
          s.clearTrack.setTrack (s.track.cleared.append { mark := x.mark, curvature := x.curvature, gap := false }))
    ∨ (¬(s.odo.direction = .reverse ∨ s.sup.mode = .limp) ∧ x.firstAfterBreak = false ∧ s.track.isStale x = true
        ∧ s.offerSample x = s.setTrack s.track.countStale)
    ∨ (¬(s.odo.direction = .reverse ∨ s.sup.mode = .limp) ∧ x.firstAfterBreak = false ∧ s.track.isStale x = false
        ∧ s.offerSample x = s.admitSample x) := by
  have limp : s.inLimp = true ↔ s.sup.mode = .limp := beq_iff_eq
  by_cases away : s.odo.direction = .reverse ∨ s.sup.mode = .limp
  · exact .inl ⟨away, if_pos (Or.imp_right limp.mpr away)⟩
  · have stays : s.offerSample x = _ := if_neg fun h => away (Or.imp_right limp.mp h)
    rw [stays]
    cases x.firstAfterBreak with
    | true => exact .inr (.inl ⟨away, rfl, rfl⟩)
    | false =>
      cases s.track.isStale x with
      | true => exact .inr (.inr (.inl ⟨away, rfl, rfl, rfl⟩))
      | false => exact .inr (.inr (.inr ⟨away, rfl, rfl, rfl⟩))

/-- Settles O21. -/
theorem pathSampleIsAdmittedOrDiscarded : Obligations.path_sample_is_admitted_or_discarded := by
  intro dt k payload s x hears cab keeps read
  have taken : (Instr.pathFrameReceived dt k payload).work (s.advance dt) = (s.advance dt).offerSample x := by
    refine (State.received_peer (s := s.advance dt) hears fun u => u.takePath k.toNat payload).trans ?_
    unfold State.takePath
    rw [if_pos ⟨cab, keeps⟩, read]
  have stale : s.track.isStale x = s.track.entries.getLast?.any (fun e => x.mark ≤ e.mark) := s.track.isStale_eq x
  refine completes_of taken ⟨State.offerSample_onlyChanges .., ?_⟩
  rcases (s.advance dt).offerSample_cases x with
    ⟨away, e⟩ | ⟨stays, first, e⟩ | ⟨stays, first, old, e⟩ | ⟨stays, first, new, e⟩ <;> rw [e]
  · exact (if_pos away).mpr rfl
  · refine (if_neg stays).mpr ((if_pos first).mpr ⟨rfl, rfl, rfl, ?_⟩)
    refine (State.hasCondition_endCondition _ _ _).trans ?_
    simp
  · exact (if_neg stays).mpr ((if_neg (ne_true_of_eq_false first)).mpr ((if_pos (stale.symm.trans old)).mpr rfl))
  · refine (if_neg stays).mpr ((if_neg (ne_true_of_eq_false first)).mpr
      ((if_neg (ne_true_of_eq_false (stale.symm.trans new))).mpr ?_))
    rw [← TrackMemory.gapBefore_eq]
    exact (s.advance dt).admitSample_effect x

end Sys2Proof.Machine
end

section
/-! PROOFS. The service tool's requests, and the tooth edge (R43, R50, R183, R187 to R190): O22 to O25. -/

namespace Sys2Proof.Machine

/-! ## The tool's requests (R25, R188) -/

theorem toByte_of_toNat {b : Byte} {n : Nat} (h : b.toNat = n) : toByte n = b := by
  rw [← h]
  exact BitVec.ofNat_toNat 8 b

/-- A request of the tool reaches the service handler. -/
theorem State.takeService_of_tool {s : State} (hears : s.hearsTool) (request : Payload) :
    s.takeService (7 : BitVec 3).toNat request = s.serve request := by
  obtain ⟨runs, strap⟩ := hears
  have arrival : s.arrival (7 : BitVec 3).toNat = .tool := by
    unfold State.arrival
    rw [if_neg (not_or.mpr ⟨runs, fun own => strap own.symm⟩)]
    rfl
  unfold State.takeService
  rw [arrival]

/-- A command whose work queues an answer changes the link engine alone, and the answer stands in its slot under the
station's own identifier (R11, R16). -/
theorem completes_answer {i : Instr} {s : State} {p q : Payload}
    (work : i.work (s.advance i.elapsed) = (s.advance i.elapsed).queueAnswer p) (h : p = q) :
    completes i s (fun t => (s.advance i.elapsed).onlyChanges [.link] t ∧ t.link.answers s.station q) :=
  completes_of work ⟨State.setLink_onlyChanges .., h ▸ rfl⟩

section
variable {s : State} {k : RequestKind} {target tag argument : Byte} (own : target.toNat = s.station)
include own

/-- What an answer begins with, for a request of this station. -/
theorem State.answerHead_listed (status : AnswerStatus) :
    s.answerHead (requestBytes k target tag argument) status =
      [toByte k.code, target, tag, toByte status.code] := by
  unfold State.answerHead
  rw [toByte_of_toNat own]
  rfl

/-- A listed kind for this station is answered by kind. -/
theorem State.serve_listed :
    s.serve (requestBytes k target tag argument) =
      s.serveKind k (requestBytes k target tag argument) argument.toNat := by
  have here : ¬((requestBytes k target tag argument).length < 3
      ∨ byteAt (requestBytes k target tag argument) 1 ≠ s.station) := by
    simp [requestBytes, byteAt, own]
  have kind : RequestKind.ofCode? (byteAt (requestBytes k target tag argument) 0) = some k := by cases k <;> rfl
  have four : ¬(requestBytes k target tag argument).length ≠ 4 := not_not.mpr rfl
  unfold State.serve
  rw [if_neg here, if_neg four, kind]
  rfl

theorem State.serve_readStatus :
    s.serve (requestBytes .readStatus target tag argument) = s.queueAnswer ([1, target, tag, 0] ++ s.statusContents) := by
  rw [State.serve_listed own, State.serveKind, State.answerOk, State.answerHead_listed own]
  rfl

theorem State.serve_readFaults :
    s.serve (requestBytes .readFaults target tag argument) =
      s.queueAnswer (if 15 < argument.toNat then [2, target, tag, 2]
        else [2, target, tag, 0] ++ s.sup.faultContents argument.toNat) := by
  rw [State.serve_listed own, State.serveKind, State.answerOk, State.answerRefused, State.answerHead_listed own,
    State.answerHead_listed own]
  split <;> rfl

theorem State.serve_clearFaults :
    s.serve (requestBytes .clearFaults target tag argument) =
      if s.odo.standstill then (s.setSup s.sup.clearPassive).queueAnswer ([3, target, tag, 0] ++ s.sup.clearContents)
      else s.queueAnswer [3, target, tag, 1] := by
  have head : (s.setSup s.sup.clearPassive).answerHead (requestBytes .clearFaults target tag argument) .ok =
      [3, target, tag, 0] := State.answerHead_listed (s := s.setSup s.sup.clearPassive) own .ok
  rw [State.serve_listed own, State.serveKind, State.answerOk, State.answerRefused, head, State.answerHead_listed own]
  rfl

theorem State.serve_readParameter :
    s.serve (requestBytes .readParameter target tag argument) =
      s.queueAnswer (if 64 ≤ argument.toNat then [4, target, tag, 2]
        else [4, target, tag, 0] ++ s.parameterContents argument.toNat) := by
  rw [State.serve_listed own, State.serveKind, State.answerOk, State.answerRefused, State.answerHead_listed own,
    State.answerHead_listed own]
  split <;> rfl

theorem State.serve_readTrack :
    s.serve (requestBytes .readTrack target tag argument) =
      s.queueAnswer ([5, target, tag, 0] ++ s.shownTrack.contents) := by
  rw [State.serve_listed own, State.serveKind, State.answerOk, State.answerHead_listed own]
  rfl

end

/-! ## The reading requests (R187 to R189): O22 -/

/-- A value in use is given for the words 0..39 of a working copy. -/
theorem State.valueInUse_eq (s : State) (i : Nat) :
    (s.valueInUse i).isSome = (decide (i < 40) && s.hasCopy)
    ∧ (s.valueInUse i).getD 0 = if i < 40 then s.param (fun p => p.values.getD i 0) else 0 := by
  unfold State.valueInUse State.hasCopy State.param
  cases s.loader.copy with
  | none => simp
  | some p => by_cases below : i < 40 <;> simp [below]

theorem State.parameterContents_eq (s : State) (b : Byte) :
    s.parameterContents b.toNat =
      [b, toByte (flagBit (s.loader.image.getD b.toNat none).isSome
        + 2 * flagBit (decide (b.toNat < 40) && s.hasCopy))]
      ++ le16 (((s.loader.image.getD b.toNat none).map BitVec.toNat).getD 0)
      ++ le16 (if b.toNat < 40 then s.param (fun p => p.values.getD b.toNat 0) else 0) ++ [0, 0] := by
  obtain ⟨given, value⟩ := s.valueInUse_eq b.toNat
  unfold State.parameterContents
  dsimp only
  rw [given, value, toByte_of_toNat rfl, imageWord, Option.isSome_map]

/-- The contents of READ_TRACK, which are zeros at a station that keeps no track memory. -/
theorem State.shownTrack_contents (s : State) :
    s.shownTrack.contents =
      if s.keepsTrack then
        [toByte s.track.entries.length, toByte s.track.gapCount, toByte s.track.staleCount, 0]
        ++ le32 ((s.track.entries.head?.map TrackEntry.mark).getD 0)
        ++ le32 ((s.track.entries.getLast?.map TrackEntry.mark).getD 0)
      else List.replicate 12 0 := by
  have zeros : TrackMemory.initial.contents = List.replicate 12 0 := by decide
  unfold State.shownTrack
  cases s.keepsTrack with
  | true => rfl
  | false => exact zeros

/-- Settles O22. -/
theorem readingRequestsAreAnswered : Obligations.reading_requests_are_answered := by
  intro dt target tag argument s hears own
  have own' : target.toNat = (s.advance dt).station := own
  have heard (request : Payload) := State.takeService_of_tool (s := s.advance dt) hears request
  refine ⟨completes_answer (i := .readStatus dt 7 target tag argument) ((heard _).trans (State.serve_readStatus own')) rfl,
    completes_answer (i := .readParameter dt 7 target tag argument) ((heard _).trans (State.serve_readParameter own')) ?_,
    completes_answer (i := .readTrack dt 7 target tag argument) ((heard _).trans (State.serve_readTrack own')) ?_⟩
  · rw [State.parameterContents_eq]
    rfl
  · rw [State.shownTrack_contents]
    rfl

/-! ## READ_FAULTS and CLEAR_FAULTS (R183, R187, R190): O23 -/

theorem encodeRecord_length (x : FaultRecord) : (encodeRecord x).length = 9 := rfl

/-- Records of 9 bytes in a row: the bytes from 9 × n on begin with those of record n. -/
theorem take_drop_encodeRecords {xs : List FaultRecord} {n : Nat} {x : FaultRecord} (found : xs[n]? = some x)
    (more : Payload) : ((xs.flatMap encodeRecord ++ more).drop (9 * n)).take 9 = encodeRecord x := by
  induction xs generalizing n with
  | nil => cases found
  | cons y ys ih =>
    rw [List.flatMap_cons, List.append_assoc]
    cases n with
    | zero =>
      obtain rfl : y = x := Option.some.inj found
      exact List.take_left' (encodeRecord_length y)
    | succ m =>
      have past : 9 * (m + 1) = (encodeRecord y).length + 9 * m := by rw [encodeRecord_length]; omega
      rw [past, ← List.drop_drop, List.drop_left]
      exact ih found

theorem length_encodeRecords (xs : List FaultRecord) : (xs.flatMap encodeRecord).length = 9 * xs.length := by
  induction xs with
  | nil => rfl
  | cons y ys ih => rw [List.flatMap_cons, List.length_append, ih, encodeRecord_length, List.length_cons]; omega

/-- Settles O23. -/
theorem faultRequestsAreAnswered : Obligations.fault_requests_are_answered := by
  intro dt target tag argument s hears own
  have own' : target.toNat = (s.advance dt).station := own
  have heard (request : Payload) := State.takeService_of_tool (s := s.advance dt) hears request
  refine ⟨?_, fun moves => ?_, fun stands => ?_⟩
  · refine completes_of ((heard _).trans (State.serve_readFaults own')) ⟨State.setLink_onlyChanges .., _, rfl,
      fun beyond => if_pos beyond, fun inside => ?_⟩
    have few : (s.sup.recordsFrom argument.toNat).length ≤ 4 := List.length_take_le ..
    rw [if_neg (Nat.not_lt.mpr inside)]
    refine ⟨?_, rfl, fun n x below found => ?_⟩
    · change ([2, target, tag, 0] ++ s.sup.faultContents argument.toNat).length = 48
      simp only [Supervisor.faultContents, List.length_append, List.length_replicate, length_encodeRecords,
        List.length_cons, List.length_nil]
      omega
    · have record : (s.sup.recordsFrom argument.toNat)[n]? = some x := by
        rw [Supervisor.recordsFrom, List.getElem?_take_of_lt below, List.getElem?_drop]
        exact found
      rw [← List.drop_drop]
      exact take_drop_encodeRecords record _
  · have ends : (s.advance dt).serve (requestBytes .clearFaults target tag argument) =
        (s.advance dt).queueAnswer [3, target, tag, 1] :=
      (State.serve_clearFaults own').trans (if_neg (ne_true_of_eq_false moves))
    exact completes_answer (i := .clearFaults dt 7 target tag argument) ((heard _).trans ends) rfl
  · have ends : (s.advance dt).serve (requestBytes .clearFaults target tag argument) = _ :=
      (State.serve_clearFaults own').trans (if_pos stands)
    exact completes_of ((heard _).trans ends) ⟨(State.onlyChanges_mono (State.setSup_onlyChanges ..) (by decide)).step
      (State.setLink_onlyChanges ..) (by decide), rfl, rfl⟩

/-! ## Requests that are ignored or refused (R188): O24 -/

theorem RequestKind.ofCode?_of_unlisted {n : Nat} (h : n = 0 ∨ 5 < n) : RequestKind.ofCode? n = none := by
  unfold RequestKind.ofCode?
  split
  case h_6 => rfl
  all_goals omega

section
variable {s : State} {p : Payload} (own : (p.getD 1 0).toNat = s.station)
include own

theorem State.answerHead_own (status : AnswerStatus) :
    s.answerHead p status = [p.getD 0 0, p.getD 1 0, p.getD 2 0, toByte status.code] := by
  unfold State.answerHead
  rw [toByte_of_toNat own]

theorem State.serve_badLength (long : 3 ≤ p.length) (other : p.length ≠ 4) :
    s.serve p = s.queueAnswer [p.getD 0 0, p.getD 1 0, p.getD 2 0, 4] := by
  have here : ¬(p.length < 3 ∨ byteAt p 1 ≠ s.station) := not_or.mpr ⟨Nat.not_lt.mpr long, not_not.mpr own⟩
  unfold State.serve
  rw [if_neg here, if_pos other, State.answerRefused, State.answerHead_own own]
  rfl

theorem State.serve_notSupported (four : p.length = 4) (unlisted : (p.getD 0 0).toNat = 0 ∨ 5 < (p.getD 0 0).toNat) :
    s.serve p = s.queueAnswer [p.getD 0 0, p.getD 1 0, p.getD 2 0, 3] := by
  have here : ¬(p.length < 3 ∨ byteAt p 1 ≠ s.station) := not_or.mpr ⟨by omega, not_not.mpr own⟩
  have kind : RequestKind.ofCode? (byteAt p 0) = none := RequestKind.ofCode?_of_unlisted unlisted
  unfold State.serve
  rw [if_neg here, if_neg (not_not.mpr four), kind]
  dsimp only
  rw [State.answerRefused, State.answerHead_own own]
  rfl

end

/-- Settles O24. -/
theorem rejectedRequests : Obligations.rejected_requests := by
  intro dt p target tag argument s hears
  have heard (request : Payload) := State.takeService_of_tool (s := s.advance dt) hears request
  refine ⟨fun other i mem => ?_, fun skipped => exec_next ((heard p).trans (if_pos skipped)),
    fun long own length => ?_, fun four own unlisted => ?_⟩
  · have elsewhere (k : RequestKind) : (s.advance dt).serve (requestBytes k target tag argument) = s.advance dt :=
      if_pos (.inr other)
    simp only [List.mem_cons, List.not_mem_nil, or_false] at mem
    rcases mem with rfl | rfl | rfl | rfl | rfl
    all_goals exact exec_next ((heard _).trans (elsewhere _))
  · exact completes_answer (i := .serviceRequestRejected dt 7 p)
      ((heard p).trans (State.serve_badLength (s := s.advance dt) own long length)) rfl
  · exact completes_answer (i := .serviceRequestRejected dt 7 p)
      ((heard p).trans (State.serve_notSupported (s := s.advance dt) own four unlisted)) rfl

/-! ## The tooth edge (R43, R50): O25 -/

/-- Settles O25. -/
theorem toothEdgeCapturesAndAdds : Obligations.tooth_edge_captures_and_adds := by
  intro dt side s timers
  have ends : (s.advance dt).toothEdge side = _ := if_pos timers
  refine exec_next (ends.trans ?_)
  unfold Wheel.edge
  cases copy : s.loader.copy with
  | none =>
    rw [show (s.advance dt).loader.copy = none from copy]
    rfl
  | some p =>
    rw [show (s.advance dt).loader.copy = some p from copy]
    rfl

end Sys2Proof.Machine
end

section
/-! PROOFS. An open or a short of a wheel line, the exclusion of one wheel and of both (R45, R47, R180 to R182): O26. -/

namespace Sys2Proof.Machine

/-! ## The records of one code (R182) -/

/-- What every record of a code satisfies. -/
def Supervisor.each (u : Supervisor) (c : FaultCode) (P : FaultRecord → Prop) : Prop := ∀ f ∈ u.faults, f.code = c → P f

@[simp] theorem Supervisor.addEffect_faults (u : Supervisor) (c : FaultCode) : (u.addEffect c).faults = u.faults := by
  unfold Supervisor.addEffect; split <;> rfl
@[simp] theorem Supervisor.addEffect_deferred (u : Supervisor) (c : FaultCode) :
    (u.addEffect c).deferred = u.deferred := by unfold Supervisor.addEffect; split <;> rfl

section
variable {u : Supervisor} {c d : FaultCode} {P : FaultRecord → Prop}

theorem Supervisor.each_update_other (h : u.each d P) (other : d ≠ c) {change : FaultRecord → FaultRecord}
    (codes : ∀ r, (change r).code = r.code) : (u.update c change).each d P := by
  intro f mem code
  obtain ⟨r, known, rfl⟩ := List.mem_map.mp mem
  by_cases is : r.code = c
  · rw [if_pos is, codes] at code
    exact absurd (code.symm.trans is) other
  · rw [if_neg is] at code ⊢
    exact h r known code

theorem Supervisor.each_update_self {change : FaultRecord → FaultRecord} (h : u.each c fun r => P (change r)) :
    (u.update c change).each c P := by
  intro f mem code
  obtain ⟨r, known, rfl⟩ := List.mem_map.mp mem
  by_cases is : r.code = c
  · rw [if_pos is]
    exact h r known is
  · rw [if_neg is] at code
    exact absurd code is

theorem Supervisor.each_addRecord_other (h : u.each d P) {r : FaultRecord} (other : d ≠ r.code) : (u.addRecord r).each d P := by
  have kept {f : FaultRecord} (mem : f ∈ u.faults ++ [r]) (code : f.code = d) : f ∈ u.faults :=
    (List.mem_append.mp mem).resolve_right fun new => other (code.symm.trans (congrArg _ (List.mem_singleton.mp new)))
  rcases u.addRecord_cases r with ⟨-, e⟩ | ⟨-, -, e⟩ | ⟨-, -, e⟩ <;> rw [e]
  · exact fun f mem code => h f (kept mem code) code
  · intro f mem code
    refine h f (kept ?_ code) code
    exact (List.mem_append.mp mem).elim (fun old => List.mem_append_left _ (List.mem_of_mem_eraseP old))
      (List.mem_append_right _)
  · exact h

/-- A raise leaves the records of the other codes, as far as it keeps them. -/
theorem Supervisor.each_record_other (h : u.each d P) (other : d ≠ c) (x : RecordState) (time : Nat) :
    (u.record c x time).each d P := by
  rcases u.record_cases c x time with ⟨-, e⟩ | ⟨-, e⟩ <;> rw [e]
  · exact Supervisor.each_update_other h other fun r => r.raiseAgain_code x time
  · exact Supervisor.each_addRecord_other h other

/-- Every record of a raised code takes the time of the raise as its last (R182). -/
theorem Supervisor.each_record_self (u : Supervisor) (c : FaultCode) (x : RecordState) (time : Nat) :
    (u.record c x time).each c fun f => f.last = time := by
  rcases u.record_cases c x time with ⟨-, e⟩ | ⟨none, e⟩ <;> rw [e]
  · refine Supervisor.each_update_self fun r _ _ => ?_
    change (r.raiseAgain x time).last = time
    unfold FaultRecord.raiseAgain
    split <;> rfl
  · have absent : u.each c fun f => f.last = time := fun f mem code =>
      absurd (beq_iff_eq.mpr code) (List.find?_eq_none.mp none f mem)
    rcases u.addRecord_cases { code := c, state := x, count := 1, first := time, last := time } with
      ⟨-, f⟩ | ⟨-, -, f⟩ | ⟨-, -, f⟩ <;> rw [f]
    · intro r mem code
      exact (List.mem_append.mp mem).elim (fun old => absent r old code) fun new => List.mem_singleton.mp new ▸ rfl
    · intro r mem code
      exact (List.mem_append.mp mem).elim (fun old => absent r (List.mem_of_mem_eraseP old) code)
        fun new => List.mem_singleton.mp new ▸ rfl
    · exact absent

theorem Supervisor.each_addCondition (h : u.each d P) (c : FaultCode) : (u.addCondition c).each d P := by
  unfold Supervisor.each
  rw [Supervisor.addCondition_faults]
  exact h

/-- A record that leaves DEFERRED (R181). -/
def FaultRecord.undefer (present : Bool) (r : FaultRecord) : FaultRecord :=
  if r.state = .deferred then { r with state := if present then .active else .passive } else r

theorem FaultRecord.undefer_code (present : Bool) (r : FaultRecord) : (r.undefer present).code = r.code := by
  unfold FaultRecord.undefer
  split <;> rfl

theorem FaultRecord.undefer_last (present : Bool) (r : FaultRecord) : (r.undefer present).last = r.last := by
  unfold FaultRecord.undefer
  split <;> rfl

theorem FaultRecord.undefer_state_ne (present : Bool) (r : FaultRecord) : (r.undefer present).state ≠ .deferred := by
  unfold FaultRecord.undefer
  split
  · dsimp only
    split <;> exact RecordState.noConfusion
  · assumption

theorem Supervisor.undefer_eq (u : Supervisor) (c : FaultCode) :
    u.undefer c = u.update c (FaultRecord.undefer (u.conditions.contains c)) := rfl

/-! ## A pending consequence taken with the exclusion of both wheels (R47, R180) -/

theorem Supervisor.takePending_deferred (u : Supervisor) (c : FaultCode) :
    (u.takePending c).deferred = u.deferred.filter (fun x => x != c) := by
  unfold Supervisor.takePending
  split
  · rw [Supervisor.addEffect_deferred]
    rfl
  · next none =>
    refine (List.filter_eq_self.mpr fun x mem => ?_).symm
    rw [bne_iff_ne]
    rintro rfl
    exact none (by simpa using mem)

theorem Supervisor.mem_effects_addEffect (u : Supervisor) (c d : FaultCode) :
    d ∈ (u.addEffect c).effects ↔ d ∈ u.effects ∨ d = c := by
  unfold Supervisor.addEffect
  split
  · next on =>
    refine ⟨.inl, fun h => h.elim id ?_⟩
    rintro rfl
    simpa using on
  · simp

theorem Supervisor.mem_effects_takePending (u : Supervisor) (c d : FaultCode) :
    d ∈ (u.takePending c).effects ↔ d ∈ u.effects ∨ (d = c ∧ c ∈ u.deferred) := by
  unfold Supervisor.takePending
  split
  · next pending =>
    have mem : c ∈ u.deferred := by simpa using pending
    rw [Supervisor.mem_effects_addEffect]
    simp only [mem, and_true]
    rfl
  · next none =>
    have absent : c ∉ u.deferred := by simpa using none
    simp [absent]

theorem Supervisor.each_takePending_other (h : u.each d P) (other : d ≠ c) : (u.takePending c).each d P := by
  unfold Supervisor.takePending
  split
  · unfold Supervisor.each
    rw [Supervisor.addEffect_faults]
    exact Supervisor.each_update_other (u := { u with deferred := u.deferred.filter (fun x => x != c) }) h other
      fun r => r.undefer_code _
  · exact h

theorem Supervisor.each_takePending_self (h : u.each c fun r => P (r.undefer (u.conditions.contains c)))
    (pending : c ∈ u.deferred) : (u.takePending c).each c P := by
  unfold Supervisor.takePending
  rw [if_pos (by simpa using pending)]
  unfold Supervisor.each
  rw [Supervisor.addEffect_faults]
  exact Supervisor.each_update_self (u := { u with deferred := u.deferred.filter (fun x => x != c) }) h

end

/-! ## What settling keeps (R181) -/

/-- What every consequence that takes effect keeps, and the moves of the mode do not touch. -/
theorem State.settle_keeps_pending {Q : State → Prop} {s : State} (h : Q s)
    (keeps : ∀ (t : State) (d : FaultCode), Q t → Q (t.applyPending d))
    (blocks : ∀ t u : State, u.odo = t.odo → u.sup.effects = t.sup.effects → u.sup.faults = t.sup.faults → Q t → Q u) :
    Q s.settle := by
  obtain ⟨mode, runFrom, sup⟩ := s.settle_sup_of_closeIfIdle
  refine blocks s.closeIfIdle _ (State.settle_odo s) (by rw [sup]) (by rw [sup]) ?_
  rcases s.closeIfIdle_cases with ⟨-, -, e⟩ | ⟨-, e⟩ <;> rw [e]
  · exact blocks (s.applyAll s.sup.deferred) _ rfl rfl rfl (State.applyAll_keeps keeps _ h)
  · exact h

theorem State.settle_inEffect {s : State} {c : FaultCode} (h : s.inEffect c = true) : s.settle.inEffect c = true :=
  State.settle_keeps_pending (Q := fun t => t.inEffect c = true) h
    (fun t d on => by rw [State.inEffect_applyPending, on, Bool.true_or])
    (fun t u _ effects _ on => by unfold State.inEffect; rw [effects]; exact on)

theorem State.settle_bothExcluded {s : State} (h : s.odo.left.excluded = true ∧ s.odo.right.excluded = true) :
    s.settle.odo.left.excluded = true ∧ s.settle.odo.right.excluded = true :=
  State.settle_keeps_pending (Q := fun t => t.odo.left.excluded = true ∧ t.odo.right.excluded = true) h
    (fun t d both => ⟨(t.applyPending_keeps_consequences d).1 both.1, (t.applyPending_keeps_consequences d).2.1 both.2⟩)
    (fun t u odo _ _ both => by rw [odo]; exact both)

theorem State.settle_openShort {s : State} {side : Side} (h : (s.odo.wheel side).openShort = true) :
    (s.settle.odo.wheel side).openShort = true :=
  State.settle_keeps_pending (Q := fun t => (t.odo.wheel side).openShort = true) h
    (fun t d on => by cases d <;> cases side <;> exact on)
    (fun t u odo _ _ on => by rw [odo]; exact on)

theorem State.settle_each_last {s : State} {c : FaultCode} {time : Nat} (h : s.sup.each c fun f => f.last = time) :
    s.settle.sup.each c fun f => f.last = time := by
  refine State.settle_keeps_pending (Q := fun t => t.sup.each c fun f => f.last = time) h (fun t d same => ?_)
    (fun t u _ _ faults same => by unfold Supervisor.each; rw [faults]; exact same)
  unfold Supervisor.each
  rw [State.applyPending_faults, Supervisor.undefer_eq]
  by_cases is : c = d
  · subst is
    exact Supervisor.each_update_self fun f mem code => (f.undefer_last _).trans (same f mem code)
  · exact Supervisor.each_update_other same is fun r => r.undefer_code _

theorem State.settle_not_deferred {s : State} {c : FaultCode} (h : c ∉ s.sup.deferred) : c ∉ s.settle.sup.deferred := by
  obtain ⟨mode, runFrom, sup⟩ := s.settle_sup_of_closeIfIdle
  rw [sup]
  rcases s.closeIfIdle_cases with ⟨-, -, e⟩ | ⟨-, e⟩ <;> rw [e]
  · exact List.not_mem_nil
  · exact h

/-! ## The raise of a wheel's fault (R45, R180) -/

theorem wheelFault_ne_both (side : Side) : wheelFault side ≠ .wheelSensorsBoth := by cases side <;> decide
theorem wheelFault_deferrable (side : Side) : (wheelFault side).deferrable = true := by cases side <;> rfl
theorem wheelFault_other (side : Side) : wheelFault (otherSide side) ≠ wheelFault side := by cases side <;> decide
theorem wheelFault_touches (side : Side) : ∀ b ∈ (wheelFault side).touches, b ∈ [Block.odo, .sup, .doors] := by
  cases side <;> decide

/-- The consequence of a fault joins the pending ones, and the window opens unless it is open (R181). -/
def Supervisor.defer (u : Supervisor) (c : FaultCode) (now : Micros) : Supervisor :=
  { u with
    windowFrom := some (u.windowFrom.getD now)
    deferred := if u.deferred.contains c then u.deferred else u.deferred ++ [c] }

@[simp] theorem Supervisor.addCondition_windowFrom (u : Supervisor) (c : FaultCode) :
    (u.addCondition c).windowFrom = u.windowFrom := by unfold Supervisor.addCondition; split <;> rfl
@[simp] theorem Supervisor.addCondition_deferred (u : Supervisor) (c : FaultCode) :
    (u.addCondition c).deferred = u.deferred := by unfold Supervisor.addCondition; split <;> rfl
@[simp] theorem Supervisor.addCondition_effects (u : Supervisor) (c : FaultCode) :
    (u.addCondition c).effects = u.effects := by unfold Supervisor.addCondition; split <;> rfl

/-- The record of a raise, with its condition. -/
def State.recorded (s : State) (c : FaultCode) (x : RecordState) : Supervisor :=
  (s.sup.addCondition c).record c x s.stationTime

section
variable (s : State) (c : FaultCode) (x : RecordState)

@[simp] theorem State.recorded_windowFrom : (s.recorded c x).windowFrom = s.sup.windowFrom := by simp [State.recorded]
@[simp] theorem State.recorded_deferred : (s.recorded c x).deferred = s.sup.deferred := by simp [State.recorded]
@[simp] theorem State.recorded_effects : (s.recorded c x).effects = s.sup.effects := by simp [State.recorded]
theorem State.recorded_each_self : (s.recorded c x).each c fun f => f.last = s.stationTime :=
  Supervisor.each_record_self _ _ _ _
theorem State.recorded_each_other {d : FaultCode} {P : FaultRecord → Prop} (h : s.sup.each d P) (other : d ≠ c) :
    (s.recorded c x).each d P := Supervisor.each_record_other (Supervisor.each_addCondition h c) other _ _

end

/-- A raise of a deferrable fault only records it where its consequence is in effect; else it defers the consequence while
a protected manoeuvre is in progress or the window is open, and makes it at once otherwise (R180). -/
theorem State.raiseFault_deferrable_cases (s : State) {c : FaultCode} (hc : c.deferrable = true) :
    (s.inEffect c = true ∧ s.raiseFault c = s.setSup (s.recorded c .active))
    ∨ (s.inEffect c = false ∧ (s.protectedManoeuvre = true ∨ s.sup.windowFrom.isSome = true)
        ∧ s.raiseFault c = s.setSup ((s.recorded c .deferred).defer c s.now))
    ∨ (s.inEffect c = false ∧ s.protectedManoeuvre = false ∧ s.sup.windowFrom = none
        ∧ s.raiseFault c = (s.setSup (s.recorded c .active)).applyConsequence c) := by
  have single : c ≠ .wheelSensorsBoth := by rintro rfl; exact absurd hc (by decide)
  cases effect : s.inEffect c with
  | true => exact .inl ⟨rfl, State.raiseFault_again s single effect⟩
  | false =>
    by_cases waits : (s.protectedManoeuvre || s.sup.windowFrom.isSome) = true
    · refine .inr (.inl ⟨rfl, by simpa using waits, ?_⟩)
      unfold State.raiseFault
      dsimp only
      rw [if_neg single, if_neg (by simp [hc, effect]), if_pos waits, Supervisor.defer, State.recorded_windowFrom,
        State.recorded_deferred, Supervisor.addCondition_deferred]
      rfl
    · obtain ⟨manoeuvre, closed⟩ := Bool.or_eq_false_iff.mp (Bool.eq_false_iff.mpr waits)
      have none : s.sup.windowFrom = none := by simpa using closed
      exact .inr (.inr ⟨rfl, manoeuvre, none, State.raiseFault_immediate s hc effect manoeuvre none⟩)

section
variable (s : State) (side : Side)

theorem State.applyConsequence_wheel :
    s.applyConsequence (wheelFault side) = (s.setSup (s.sup.addEffect (wheelFault side))).setOdo (s.odo.exclude side) := by
  cases side <;> rfl

theorem State.raiseWheel_last : (s.raiseFault (wheelFault side)).sup.each (wheelFault side) fun f => f.last = s.stationTime := by
  rcases s.raiseFault_deferrable_cases (wheelFault_deferrable side) with ⟨-, e⟩ | ⟨-, -, e⟩ | ⟨-, -, -, e⟩ <;> rw [e]
  · exact s.recorded_each_self _ _
  · exact s.recorded_each_self _ _
  · rw [State.applyConsequence_wheel]
    unfold Supervisor.each
    rw [State.setOdo_sup, State.setSup_sup, Supervisor.addEffect_faults]
    exact s.recorded_each_self _ _

theorem State.raiseWheel_each_other {d : FaultCode} {P : FaultRecord → Prop} (h : s.sup.each d P) (other : d ≠ wheelFault side) :
    (s.raiseFault (wheelFault side)).sup.each d P := by
  rcases s.raiseFault_deferrable_cases (wheelFault_deferrable side) with ⟨-, e⟩ | ⟨-, -, e⟩ | ⟨-, -, -, e⟩ <;> rw [e]
  · exact s.recorded_each_other _ _ h other
  · exact s.recorded_each_other _ _ h other
  · rw [State.applyConsequence_wheel]
    unfold Supervisor.each
    rw [State.setOdo_sup, State.setSup_sup, Supervisor.addEffect_faults]
    exact s.recorded_each_other _ _ h other

/-- A raised wheel fault leaves the pending consequences, but may join them itself. -/
theorem State.raiseWheel_deferred :
    (s.raiseFault (wheelFault side)).sup.deferred = s.sup.deferred
    ∨ (s.raiseFault (wheelFault side)).sup.deferred = s.sup.deferred ++ [wheelFault side] := by
  rcases s.raiseFault_deferrable_cases (wheelFault_deferrable side) with ⟨-, e⟩ | ⟨-, -, e⟩ | ⟨-, -, -, e⟩ <;> rw [e]
  · exact .inl (s.recorded_deferred ..)
  · rw [State.setSup_sup, Supervisor.defer, State.recorded_deferred]
    exact ite_eq_or_eq ..
  · have added (v : Supervisor) : (v.addEffect (wheelFault side)).deferred = v.deferred := by
      unfold Supervisor.addEffect
      split <;> rfl
    rw [State.applyConsequence_wheel, State.setOdo_sup, State.setSup_sup, Supervisor.addEffect_deferred]
    exact .inl (s.recorded_deferred ..)

/-- Its consequence is then in effect or pending, and no consequence has ended. -/
theorem State.raiseWheel_effects :
    (wheelFault side ∈ (s.raiseFault (wheelFault side)).sup.effects
      ∨ wheelFault side ∈ (s.raiseFault (wheelFault side)).sup.deferred)
    ∧ ∀ d ∈ s.sup.effects, d ∈ (s.raiseFault (wheelFault side)).sup.effects := by
  rcases s.raiseFault_deferrable_cases (wheelFault_deferrable side) with ⟨on, e⟩ | ⟨-, -, e⟩ | ⟨-, -, -, e⟩ <;> rw [e]
  · rw [State.setSup_sup, State.recorded_effects]
    exact ⟨.inl (by simpa [State.inEffect] using on), fun d mem => mem⟩
  · rw [State.setSup_sup, Supervisor.defer, State.recorded_effects, State.recorded_deferred]
    refine ⟨.inr ?_, fun d mem => mem⟩
    split
    · next known => simpa using known
    · simp
  · rw [State.applyConsequence_wheel, State.setOdo_sup, State.setSup_sup]
    refine ⟨.inl ?_, fun d mem => ?_⟩
    · rw [Supervisor.mem_effects_addEffect]
      exact .inr rfl
    · rw [Supervisor.mem_effects_addEffect, State.setSup_sup, State.recorded_effects]
      exact .inl mem

end

/-! ## WHEEL_SENSORS_BOTH (R47, R180) -/

theorem State.raiseBoth_eq (s : State) :
    s.raiseFault .wheelSensorsBoth = (s.setSup (s.recorded .wheelSensorsBoth .active)).applyBothWheels := by
  unfold State.raiseFault
  exact if_pos rfl

theorem State.raiseBoth_deferred (s : State) :
    (s.raiseFault .wheelSensorsBoth).sup.deferred =
      s.sup.deferred.filter (fun c => c != .wheelSensorL && c != .wheelSensorR) := by
  rw [State.raiseBoth_eq, State.applyBothWheels, State.setOdo_sup, State.setSup_sup, Supervisor.takePending_deferred,
    Supervisor.takePending_deferred, Supervisor.addEffect_deferred, State.setSup_sup, State.recorded_deferred,
    List.filter_filter]
  exact List.filter_congr fun c _ => Bool.and_comm ..

theorem State.raiseBoth_effects (s : State) (d : FaultCode) :
    d ∈ (s.raiseFault .wheelSensorsBoth).sup.effects ↔
      d ∈ s.sup.effects ∨ d = .wheelSensorsBoth ∨ ∃ side, d = wheelFault side ∧ wheelFault side ∈ s.sup.deferred := by
  have sides : (∃ side, d = wheelFault side ∧ wheelFault side ∈ s.sup.deferred) ↔
      (d = .wheelSensorL ∧ .wheelSensorL ∈ s.sup.deferred) ∨ (d = .wheelSensorR ∧ .wheelSensorR ∈ s.sup.deferred) :=
    ⟨fun ⟨side, h⟩ => by cases side <;> simp_all [wheelFault], fun h => h.elim (fun l => ⟨.left, l⟩) (fun r => ⟨.right, r⟩)⟩
  rw [sides, State.raiseBoth_eq, State.applyBothWheels, State.setOdo_sup, State.setSup_sup,
    Supervisor.mem_effects_takePending, Supervisor.mem_effects_takePending, Supervisor.mem_effects_addEffect,
    Supervisor.takePending_deferred, Supervisor.addEffect_deferred, State.setSup_sup, State.recorded_deferred,
    State.recorded_effects]
  simp [or_assoc]

theorem State.raiseBoth_odo (s : State) :
    (s.raiseFault .wheelSensorsBoth).odo = (s.odo.exclude .left).exclude .right := by
  rw [State.raiseBoth_eq]
  rfl

theorem Odometry.openShort_exclude (o : Odometry) (side : Side) (excluded : Side) :
    ((o.exclude excluded).wheel side).openShort = (o.wheel side).openShort := by
  cases side <;> cases excluded <;> rfl

theorem State.recorded_conditions (s : State) (c : FaultCode) (x : RecordState) :
    (s.recorded c x).conditions = (s.sup.addCondition c).conditions := Supervisor.record_conditions ..

section
variable {s : State} {side : Side} {P : FaultRecord → Prop}

/-- The records of a wheel whose consequence is pending leave DEFERRED with the exclusion of both. -/
theorem State.raiseBoth_each_pending (present : s.hasCondition (wheelFault side) = true)
    (pending : wheelFault side ∈ s.sup.deferred) (h : s.sup.each (wheelFault side) fun r => P (r.undefer true)) :
    (s.raiseFault .wheelSensorsBoth).sup.each (wheelFault side) P := by
  have mem : wheelFault side ∈ s.sup.conditions := (s.hasCondition_iff _).mp present
  have known : (s.recorded .wheelSensorsBoth .active).conditions.contains (wheelFault side) = true := by
    rw [State.recorded_conditions, List.contains_iff_mem, Supervisor.mem_addCondition]
    exact .inl mem
  have waits : wheelFault side ∈ (s.recorded .wheelSensorsBoth .active).deferred := by
    rw [State.recorded_deferred]
    exact pending
  have recorded : (s.recorded .wheelSensorsBoth .active).each (wheelFault side) fun r => P (r.undefer true) :=
    s.recorded_each_other _ _ h (wheelFault_ne_both side)
  have base : ((s.recorded .wheelSensorsBoth .active).addEffect .wheelSensorsBoth).each (wheelFault side)
      fun r => P (r.undefer true) := by
    unfold Supervisor.each
    rw [Supervisor.addEffect_faults]
    exact recorded
  rw [State.raiseBoth_eq]
  cases side
  · refine Supervisor.each_takePending_other (Supervisor.each_takePending_self ?_ ?_) (by decide)
    · rw [Supervisor.addEffect_conditions, State.setSup_sup]
      exact known ▸ base
    · rw [Supervisor.addEffect_deferred]
      exact waits
  · refine Supervisor.each_takePending_self ?_ ?_
    · rw [Supervisor.takePending_conditions, Supervisor.addEffect_conditions, State.setSup_sup]
      exact known ▸ Supervisor.each_takePending_other base (by decide)
    · rw [Supervisor.takePending_deferred, Supervisor.addEffect_deferred]
      exact List.mem_filter.mpr ⟨waits, by decide⟩

/-- So the time of their last raise stays. -/
theorem State.raiseBoth_each_last {time : Nat} (h : s.sup.each (wheelFault side) fun f => f.last = time) :
    (s.raiseFault .wheelSensorsBoth).sup.each (wheelFault side) fun f => f.last = time := by
  have taken (u : Supervisor) (c : FaultCode) (k : u.each (wheelFault side) fun f => f.last = time) :
      (u.takePending c).each (wheelFault side) fun f => f.last = time := by
    by_cases is : wheelFault side = c
    · subst is
      by_cases pending : wheelFault side ∈ u.deferred
      · exact Supervisor.each_takePending_self (fun f mem code => (f.undefer_last _).trans (k f mem code)) pending
      · unfold Supervisor.takePending
        rw [if_neg (by simpa using pending)]
        exact k
    · exact Supervisor.each_takePending_other k is
  rw [State.raiseBoth_eq]
  refine taken _ _ (taken _ _ ?_)
  unfold Supervisor.each
  rw [Supervisor.addEffect_faults]
  exact s.recorded_each_other _ _ h (wheelFault_ne_both side)

end

/-! ## The line of a wheel: O26 -/

/-- The wheel's line as the input circuit has it. -/
def State.setLine (s : State) (side : Side) (present : Bool) : State :=
  s.setOdo (s.odo.setWheel side { s.odo.wheel side with openShort := present })

theorem State.openShort_eq {s : State} (timers : s.timersRun = true) (powered : s.sup.power ≠ .off) (side : Side)
    (present : Bool) :
    s.openShort side present =
      ((s.setLine side present).followWheel side (present && !(s.odo.wheel side).openShort)).followBoth.settle := by
  unfold State.openShort
  cases power : s.sup.power with
  | off => exact absurd power powered
  | waiting => exact if_pos timers
  | on => exact if_pos timers

theorem State.setLine_openShort (s : State) (side : Side) (present : Bool) :
    (((s.setLine side present).odo.wheel side).openShort) = present := by
  cases side <;> rfl

/-- An open or a short raises its fault where that is not present. -/
theorem State.followWheel_of_absent {s : State} {side : Side} (absent : s.hasCondition (wheelFault side) = false)
    (arises : Bool) : (s.setLine side true).followWheel side arises = (s.setLine side true).raiseFault (wheelFault side) := by
  have faulty : ((s.setLine side true).odo.wheel side).faulty = true := by
    unfold Wheel.faulty
    rw [State.setLine_openShort]
    rfl
  have still : (s.setLine side true).hasCondition (wheelFault side) = false := absent
  cases arises with
  | true => rfl
  | false =>
    change (s.setLine side true).follow (wheelFault side) ((s.setLine side true).odo.wheel side).faulty = _
    rw [faulty]
    rcases (s.setLine side true).follow_cases (wheelFault side) true with ⟨-, on, -⟩ | ⟨-, -, e⟩ | ⟨no, -⟩
    · exact absurd (on.symm.trans still) (by decide)
    · exact e
    · cases no

/-- Both wheel faults present, by a side and the other. -/
theorem State.followBoth_eq (s : State) (side : Side) :
    s.followBoth = s.follow .wheelSensorsBoth (s.hasCondition (wheelFault side) && s.hasCondition (wheelFault (otherSide side))) := by
  cases side
  · rfl
  · exact congrArg (s.follow .wheelSensorsBoth) (Bool.and_comm ..)

theorem State.followBoth_of_missing {s : State} {side : Side} (h : s.hasCondition (wheelFault side) = false
    ∨ s.hasCondition (wheelFault (otherSide side)) = false) : s.followBoth = s.endCondition .wheelSensorsBoth := by
  rw [s.followBoth_eq side]
  rcases h with h | h <;> rw [h]
  · rfl
  · rw [Bool.and_false]
    rfl

section
variable {s : State} {side : Side} (timers : s.timersRun = true) (powered : s.sup.power ≠ .off)
include timers powered

/-- The fault of one wheel alone, raised and settled. -/
theorem State.openShort_of_absent (absent : s.hasCondition (wheelFault side) = false)
    (alone : s.hasCondition (wheelFault (otherSide side)) = false) :
    s.openShort side true =
      (((s.setLine side true).raiseFault (wheelFault side)).endCondition .wheelSensorsBoth).settle := by
  have missing : ((s.setLine side true).raiseFault (wheelFault side)).hasCondition (wheelFault (otherSide side)) = false := by
    rw [State.hasCondition_raiseFault, show (s.setLine side true).hasCondition _ = false from alone,
      beq_eq_false_iff_ne.mpr (wheelFault_other side)]
    rfl
  rw [State.openShort_eq timers powered, State.followWheel_of_absent absent, State.followBoth_of_missing (.inr missing)]

theorem State.openShort_hasCondition (absent : s.hasCondition (wheelFault side) = false)
    (alone : s.hasCondition (wheelFault (otherSide side)) = false) :
    (s.openShort side true).hasCondition (wheelFault side) = true := by
  rw [State.openShort_of_absent timers powered absent alone, State.hasCondition_settle, State.hasCondition_endCondition,
    State.hasCondition_raiseFault]
  simp [wheelFault_ne_both]

end

theorem State.setLine_onlyChanges (s : State) (side : Side) (present : Bool) : s.onlyChanges [.odo] (s.setLine side present) :=
  State.setOdo_onlyChanges ..

theorem Odometry.wheel_exclude (o : Odometry) (side : Side) :
    ((o.exclude side).wheel side).excluded = true ∧ (o.exclude side).wheel (otherSide side) = o.wheel (otherSide side) := by
  cases side <;> exact ⟨rfl, rfl⟩

theorem State.setLine_wheel (s : State) (side : Side) (present : Bool) :
    ((s.setLine side present).odo.wheel side).excluded = (s.odo.wheel side).excluded
    ∧ (s.setLine side present).odo.wheel (otherSide side) = s.odo.wheel (otherSide side) := by
  cases side <;> exact ⟨rfl, rfl⟩

section
variable {s : State} {side : Side} (fresh : s.inEffect (wheelFault side) = false)
include fresh

theorem State.raiseWheel_immediate (closed : s.sup.windowFrom = none) (quiet : s.protectedManoeuvre = false) :
    (s.raiseFault (wheelFault side)).odo = s.odo.exclude side
    ∧ (s.raiseFault (wheelFault side)).sup.windowFrom = none
    ∧ (s.raiseFault (wheelFault side)).inEffect (wheelFault side) = true := by
  rw [State.raiseFault_immediate s (wheelFault_deferrable side) fresh quiet closed]
  refine ⟨?_, ?_, ?_⟩
  · rw [State.applyConsequence_wheel]
    rfl
  · have added (u : Supervisor) (c : FaultCode) : (u.addEffect c).windowFrom = u.windowFrom := by
      unfold Supervisor.addEffect; split <;> rfl
    rw [State.applyConsequence_wheel, State.setOdo_sup, State.setSup_sup, added, State.setSup_sup,
      Supervisor.record_windowFrom, Supervisor.addCondition_windowFrom, closed]
  · rw [State.inEffect_applyConsequence _ (wheelFault_deferrable side)]
    simp

theorem State.raiseWheel_protected (manoeuvre : s.protectedManoeuvre = true) :
    (s.raiseFault (wheelFault side)).odo = s.odo ∧ wheelFault side ∈ (s.raiseFault (wheelFault side)).sup.deferred
    ∧ (s.raiseFault (wheelFault side)).sup.windowFrom = some (s.sup.windowFrom.getD s.now) := by
  obtain ⟨u, e, pending, opened, -⟩ := State.raiseFault_deferred s (wheelFault_deferrable side) fresh (.inl manoeuvre)
  rw [e]
  exact ⟨rfl, pending, opened⟩

end

/-- A protected manoeuvre is a matter of the level state and of the steer mode. -/
theorem State.protectedManoeuvre_of_same {s t : State} (air : t.air = s.air) (steer : t.steer = s.steer) :
    t.protectedManoeuvre = s.protectedManoeuvre := by
  unfold State.protectedManoeuvre
  rw [air, steer]

theorem State.raiseWheel_protectedManoeuvre (s : State) (side : Side) :
    (s.raiseFault (wheelFault side)).protectedManoeuvre = s.protectedManoeuvre :=
  State.protectedManoeuvre_of_same
    (State.same_of_onlyChanges (s.raiseFault_touches _) .air (by cases side <;> decide))
    (State.same_of_onlyChanges (s.raiseFault_touches _) .steer (by cases side <;> decide))

theorem State.raiseBoth_protectedManoeuvre (s : State) :
    (s.raiseFault .wheelSensorsBoth).protectedManoeuvre = s.protectedManoeuvre :=
  State.protectedManoeuvre_of_same
    (State.same_of_onlyChanges (s.raiseFault_touches _) .air (by decide))
    (State.same_of_onlyChanges (s.raiseFault_touches _) .steer (by decide))

section
variable {s : State} {side : Side} (timers : s.timersRun = true) (powered : s.sup.power ≠ .off)
include timers powered

/-- The blocks that one wheel's fault changes, where the window stays as it is. -/
theorem State.openShort_onlyChanges_of_stays (absent : s.hasCondition (wheelFault side) = false)
    (alone : s.hasCondition (wheelFault (otherSide side)) = false)
    (stays : (((s.setLine side true).raiseFault (wheelFault side)).endCondition .wheelSensorsBoth).closeIfIdle =
      ((s.setLine side true).raiseFault (wheelFault side)).endCondition .wheelSensorsBoth) :
    s.onlyChanges [.odo, .sup, .doors] (s.openShort side true) := by
  rw [State.openShort_of_absent timers powered absent alone]
  exact (((State.onlyChanges_mono (s.setLine_onlyChanges side true) (by decide)).step (State.raiseFault_touches ..)
    (wheelFault_touches side)).step (State.endCondition_onlyChanges ..) (by decide)).step
    (State.settle_onlyChanges_of_stays stays) (by decide)

/-- Outside a protected manoeuvre, with no window open, the wheel is excluded at once. -/
theorem State.openShort_excludes (absent : s.hasCondition (wheelFault side) = false)
    (alone : s.hasCondition (wheelFault (otherSide side)) = false) (fresh : s.inEffect (wheelFault side) = false)
    (closed : s.sup.windowFrom = none) (quiet : s.protectedManoeuvre = false) :
    ((s.openShort side true).odo.wheel side).excluded = true
    ∧ (s.openShort side true).hasCondition (wheelFault side) = true
    ∧ (s.openShort side true).inEffect (wheelFault side) = true
    ∧ (s.openShort side true).odo.wheel (otherSide side) = s.odo.wheel (otherSide side)
    ∧ s.onlyChanges [.odo, .sup, .doors] (s.openShort side true) := by
  obtain ⟨odo, window, effect⟩ := State.raiseWheel_immediate (s := s.setLine side true) fresh closed quiet
  have stays : (((s.setLine side true).raiseFault (wheelFault side)).endCondition .wheelSensorsBoth).closeIfIdle = _ :=
    State.closeIfIdle_of_closed window
  have excluded := Odometry.wheel_exclude (s.setLine side true).odo side
  have odo' : (s.openShort side true).odo = (s.setLine side true).odo.exclude side := by
    rw [State.openShort_of_absent timers powered absent alone, State.settle_odo, stays]
    exact odo
  refine ⟨by rw [odo']; exact excluded.1, State.openShort_hasCondition timers powered absent alone, ?_,
    by rw [odo', excluded.2]; exact (s.setLine_wheel side true).2,
    State.openShort_onlyChanges_of_stays timers powered absent alone stays⟩
  rw [State.openShort_of_absent timers powered absent alone]
  exact State.settle_inEffect effect

/-- During one, the consequence is pending and the window opens. -/
theorem State.openShort_defers (absent : s.hasCondition (wheelFault side) = false)
    (alone : s.hasCondition (wheelFault (otherSide side)) = false) (fresh : s.inEffect (wheelFault side) = false)
    (closed : s.sup.windowFrom = none) (manoeuvre : s.protectedManoeuvre = true) :
    ((s.openShort side true).odo.wheel side).excluded = (s.odo.wheel side).excluded
    ∧ (s.openShort side true).hasCondition (wheelFault side) = true
    ∧ wheelFault side ∈ (s.openShort side true).sup.deferred
    ∧ (s.openShort side true).sup.windowFrom = some s.now
    ∧ s.onlyChanges [.odo, .sup, .doors] (s.openShort side true) := by
  obtain ⟨odo, pending, window⟩ := State.raiseWheel_protected (s := s.setLine side true) fresh manoeuvre
  have stays : (((s.setLine side true).raiseFault (wheelFault side)).endCondition .wheelSensorsBoth).closeIfIdle = _ :=
    State.closeIfIdle_of_protected (((s.setLine side true).raiseWheel_protectedManoeuvre side).trans manoeuvre)
  obtain ⟨mode, runFrom, sup⟩ := State.settle_sup_of_stays stays
  rw [← State.openShort_of_absent timers powered absent alone] at sup
  have odo' : (s.openShort side true).odo = (s.setLine side true).odo := by
    rw [State.openShort_of_absent timers powered absent alone, State.settle_odo, stays]
    exact odo
  refine ⟨by rw [odo']; exact (s.setLine_wheel side true).1, State.openShort_hasCondition timers powered absent alone,
    by rw [sup]; exact pending, ?_, State.openShort_onlyChanges_of_stays timers powered absent alone stays⟩
  rw [sup]
  refine window.trans ?_
  rw [show (s.setLine side true).sup.windowFrom = none from closed]
  rfl

/-- A detection raises the fault again where it stands: every record of it takes the time as its last. -/
theorem State.openShort_again (clear : (s.odo.wheel side).openShort = false) :
    ((s.openShort side true).odo.wheel side).openShort = true
    ∧ (s.openShort side true).hasCondition (wheelFault side) = true
    ∧ (s.openShort side true).sup.each (wheelFault side) fun f => f.last = s.stationTime := by
  have raised : (s.setLine side true).followWheel side (true && !(s.odo.wheel side).openShort) =
      (s.setLine side true).raiseFault (wheelFault side) := by
    rw [clear]
    rfl
  have last := (s.setLine side true).raiseWheel_last side
  have line : (((s.setLine side true).raiseFault (wheelFault side)).odo.wheel side).openShort = true := by
    rcases (s.setLine side true).raiseFault_deferrable_cases (wheelFault_deferrable side) with
      ⟨-, e⟩ | ⟨-, -, e⟩ | ⟨-, -, -, e⟩ <;> rw [e]
    · exact s.setLine_openShort side true
    · exact s.setLine_openShort side true
    · rw [State.applyConsequence_wheel]
      cases side <;> rfl
  rw [State.openShort_eq timers powered, raised, State.hasCondition_settle, State.followBoth]
  refine ⟨State.settle_openShort ?_, ?_, State.settle_each_last ?_⟩
  · rcases State.follow_cases ((s.setLine side true).raiseFault (wheelFault side)) .wheelSensorsBoth _ with
      ⟨-, -, e⟩ | ⟨-, -, e⟩ | ⟨-, e⟩ <;> rw [e]
    · exact line
    · rw [State.raiseBoth_odo, Odometry.openShort_exclude, Odometry.openShort_exclude]
      exact line
    · exact line
  · rw [State.hasCondition_follow, if_neg (wheelFault_ne_both side), State.hasCondition_raiseFault]
    simp
  · rcases State.follow_cases ((s.setLine side true).raiseFault (wheelFault side)) .wheelSensorsBoth _ with
      ⟨-, -, e⟩ | ⟨-, -, e⟩ | ⟨-, e⟩ <;> rw [e]
    · exact last
    · exact State.raiseBoth_each_last last
    · refine Supervisor.each_update_other last (wheelFault_ne_both side) fun r => ?_
      split <;> rfl

/-- The end of an open or a short ends the condition and not the exclusion. -/
theorem State.openShort_ends (plausible : (s.odo.wheel side).implausible ≠ 200) (closed : s.sup.windowFrom = none) :
    ((s.openShort side false).odo.wheel side).excluded = (s.odo.wheel side).excluded
    ∧ (s.openShort side false).hasCondition (wheelFault side) = false
    ∧ s.onlyChanges [.odo, .sup, .doors] (s.openShort side false) := by
  have sound : ((s.setLine side false).odo.wheel side).faulty = false := by
    have run : ((s.setLine side false).odo.wheel side).implausible = (s.odo.wheel side).implausible := by cases side <;> rfl
    unfold Wheel.faulty
    rw [State.setLine_openShort, run]
    exact beq_eq_false_iff_ne.mpr plausible
  have ended : (s.setLine side false).followWheel side (false && !(s.odo.wheel side).openShort) =
      (s.setLine side false).endCondition (wheelFault side) := by
    change (s.setLine side false).follow (wheelFault side) ((s.setLine side false).odo.wheel side).faulty = _
    rw [sound]
    rfl
  have missing : ((s.setLine side false).endCondition (wheelFault side)).hasCondition (wheelFault side) = false := by
    rw [State.hasCondition_endCondition]
    simp
  have ends : s.openShort side false =
      (((s.setLine side false).endCondition (wheelFault side)).endCondition .wheelSensorsBoth).settle := by
    rw [State.openShort_eq timers powered, ended, State.followBoth_of_missing (.inl missing)]
  have stays : (((s.setLine side false).endCondition (wheelFault side)).endCondition .wheelSensorsBoth).closeIfIdle = _ :=
    State.closeIfIdle_of_closed closed
  rw [ends]
  refine ⟨?_, ?_, ?_⟩
  · rw [State.settle_odo, stays]
    exact (s.setLine_wheel side false).1
  · rw [State.hasCondition_settle, State.hasCondition_endCondition, missing]
    rfl
  · exact (((State.onlyChanges_mono (s.setLine_onlyChanges side false) (by decide)).step
      (State.endCondition_onlyChanges ..) (by decide)).step (State.endCondition_onlyChanges ..) (by decide)).step
      (State.settle_onlyChanges_of_stays stays) (by decide)

end

section
variable {s : State} {side : Side} (timers : s.timersRun = true) (powered : s.sup.power ≠ .off)
  (absent : s.hasCondition (wheelFault side) = false) (other : s.hasCondition (wheelFault (otherSide side)) = true)
  (single : s.hasCondition .wheelSensorsBoth = false)
include timers powered absent other single

/-- The second wheel's fault raises WHEEL_SENSORS_BOTH. -/
theorem State.openShort_of_both :
    s.openShort side true =
      (((s.setLine side true).raiseFault (wheelFault side)).raiseFault .wheelSensorsBoth).settle := by
  have one : ((s.setLine side true).raiseFault (wheelFault side)).hasCondition (wheelFault side) = true := by
    rw [State.hasCondition_raiseFault]
    simp
  have two : ((s.setLine side true).raiseFault (wheelFault side)).hasCondition (wheelFault (otherSide side)) = true := by
    rw [State.hasCondition_raiseFault, show (s.setLine side true).hasCondition _ = true from other]
    rfl
  have fresh : ((s.setLine side true).raiseFault (wheelFault side)).hasCondition .wheelSensorsBoth = false := by
    rw [State.hasCondition_raiseFault, show (s.setLine side true).hasCondition _ = false from single,
      beq_eq_false_iff_ne.mpr (wheelFault_ne_both side).symm]
    rfl
  rw [State.openShort_eq timers powered, State.followWheel_of_absent absent, State.followBoth_eq _ side, one, two]
  rcases State.follow_cases ((s.setLine side true).raiseFault (wheelFault side)) .wheelSensorsBoth (true && true) with
    ⟨-, on, -⟩ | ⟨-, -, e⟩ | ⟨no, -⟩
  · exact absurd (on.symm.trans fresh) (by decide)
  · rw [e]
  · cases no

theorem State.openShort_both_conditions :
    (s.openShort side true).hasCondition .wheelSensorsBoth = true
    ∧ (s.openShort side true).hasCondition (wheelFault side) = true := by
  rw [State.openShort_of_both timers powered absent other single, State.hasCondition_settle, State.hasCondition_settle,
    State.hasCondition_raiseFault, State.hasCondition_raiseFault, State.hasCondition_raiseFault]
  simp

theorem State.openShort_both_effects :
    (s.openShort side true).inEffect .wheelSensorsBoth = true ∧ (s.openShort side true).inEffect (wheelFault side) = true
    ∧ (wheelFault (otherSide side) ∈ s.sup.deferred → (s.openShort side true).inEffect (wheelFault (otherSide side)) = true) := by
  have effect {c : FaultCode} {t : State} (mem : c ∈ t.sup.effects) : t.inEffect c = true := by
    simpa [State.inEffect] using mem
  obtain ⟨own, -⟩ := (s.setLine side true).raiseWheel_effects side
  rw [State.openShort_of_both timers powered absent other single]
  refine ⟨State.settle_inEffect (effect ?_), State.settle_inEffect (effect ?_),
    fun pending => State.settle_inEffect (effect ?_)⟩ <;> rw [State.raiseBoth_effects]
  · exact .inr (.inl rfl)
  · exact own.imp id fun pending => .inr ⟨side, rfl, pending⟩
  · refine .inr (.inr ⟨otherSide side, rfl, ?_⟩)
    rcases (s.setLine side true).raiseWheel_deferred side with e | e <;> rw [e]
    · exact pending
    · exact List.mem_append_left _ pending

theorem State.openShort_both_excluded :
    (s.openShort side true).odo.left.excluded = true ∧ (s.openShort side true).odo.right.excluded = true := by
  rw [State.openShort_of_both timers powered absent other single]
  refine State.settle_bothExcluded ?_
  rw [State.raiseBoth_odo]
  exact ⟨rfl, rfl⟩

theorem State.openShort_both_notPending :
    .wheelSensorL ∉ (s.openShort side true).sup.deferred ∧ .wheelSensorR ∉ (s.openShort side true).sup.deferred := by
  rw [State.openShort_of_both timers powered absent other single]
  refine ⟨State.settle_not_deferred ?_, State.settle_not_deferred ?_⟩ <;> rw [State.raiseBoth_deferred] <;> simp

/-- During a protected manoeuvre the other pending consequences stay pending, and the records of the wheels whose
consequence was pending leave DEFERRED (R180). -/
theorem State.openShort_both_protected (manoeuvre : s.protectedManoeuvre = true) :
    (s.openShort side true).sup.deferred = s.sup.deferred.filter (fun c => c != .wheelSensorL && c != .wheelSensorR)
    ∧ (s.inEffect (wheelFault side) = false →
        (s.openShort side true).sup.each (wheelFault side) fun f => f.state ≠ .deferred)
    ∧ (wheelFault (otherSide side) ∈ s.sup.deferred → s.sup.each (wheelFault (otherSide side)) (fun f => f.state = .deferred) →
        (s.openShort side true).sup.each (wheelFault (otherSide side)) fun f => f.state = .active) := by
  have protectedNow : (((s.setLine side true).raiseFault (wheelFault side)).raiseFault .wheelSensorsBoth).protectedManoeuvre
      = true := by
    rw [State.raiseBoth_protectedManoeuvre, State.raiseWheel_protectedManoeuvre]
    exact manoeuvre
  obtain ⟨mode, runFrom, sup⟩ := State.settle_sup_of_stays (State.closeIfIdle_of_protected protectedNow)
  rw [← State.openShort_of_both timers powered absent other single] at sup
  have present : ((s.setLine side true).raiseFault (wheelFault side)).hasCondition (wheelFault side) = true := by
    rw [State.hasCondition_raiseFault]
    simp
  have present' : ((s.setLine side true).raiseFault (wheelFault side)).hasCondition (wheelFault (otherSide side)) = true := by
    rw [State.hasCondition_raiseFault, show (s.setLine side true).hasCondition _ = true from other]
    rfl
  unfold Supervisor.each
  rw [sup]
  refine ⟨?_, fun fresh => ?_, fun pending deferred => ?_⟩
  · change (((s.setLine side true).raiseFault (wheelFault side)).raiseFault .wheelSensorsBoth).sup.deferred = _
    rw [State.raiseBoth_deferred]
    rcases (s.setLine side true).raiseWheel_deferred side with e | e <;> rw [e]
    · rfl
    · rw [List.filter_append]
      cases side <;> exact List.append_nil _
  · exact State.raiseBoth_each_pending (P := fun f => f.state ≠ .deferred) present
      (State.raiseWheel_protected (s := s.setLine side true) fresh manoeuvre).2.1 fun f _ _ => f.undefer_state_ne true
  · refine State.raiseBoth_each_pending (P := fun f => f.state = .active) present' ?_ ?_
    · rcases (s.setLine side true).raiseWheel_deferred side with e | e <;> rw [e]
      · exact pending
      · exact List.mem_append_left _ pending
    · intro f mem code
      have held := (s.setLine side true).raiseWheel_each_other side deferred (wheelFault_other side) f mem code
      simp [FaultRecord.undefer, held]

theorem State.openShort_both_onlyChanges :
    s.onlyChanges [.odo, .sup, .joint, .air, .doors] (s.openShort side true) := by
  rw [State.openShort_of_both timers powered absent other single]
  exact (((State.onlyChanges_mono (s.setLine_onlyChanges side true) (by decide)).step (State.raiseFault_touches ..)
    (by cases side <;> decide)).step (State.raiseFault_touches _ .wheelSensorsBoth) (by decide)).step
    (State.settle_onlyChanges _) (by decide)

end

/-- Settles O26. -/
theorem wheelOpenShortExcludes : Obligations.wheel_open_short_excludes := by
  intro dt side s timers powered
  refine ⟨fun absent alone fresh closed => ⟨fun quiet => ?_, fun manoeuvre => ?_⟩, fun clear => ?_,
    fun plausible closed => ?_, fun absent other single => ?_⟩
  · obtain ⟨excluded, present, effect, others, changes⟩ :=
      State.openShort_excludes (s := s.advance dt) timers powered absent alone fresh closed quiet
    exact completes_of rfl ⟨excluded, present, effect, others, changes⟩
  · exact completes_of rfl (State.openShort_defers (s := s.advance dt) timers powered absent alone fresh closed manoeuvre)
  · exact completes_of rfl (State.openShort_again (s := s.advance dt) timers powered clear)
  · exact completes_of rfl (State.openShort_ends (s := s.advance dt) timers powered plausible closed)
  · obtain ⟨both, present⟩ := State.openShort_both_conditions (s := s.advance dt) timers powered absent other single
    obtain ⟨effect, own, others⟩ := State.openShort_both_effects (s := s.advance dt) timers powered absent other single
    obtain ⟨left, right⟩ := State.openShort_both_excluded (s := s.advance dt) timers powered absent other single
    obtain ⟨noLeft, noRight⟩ := State.openShort_both_notPending (s := s.advance dt) timers powered absent other single
    refine completes_of rfl ⟨both, present, effect, left, right, noLeft, noRight, fun _ => own, fun manoeuvre => ?_,
      State.openShort_both_onlyChanges (s := s.advance dt) timers powered absent other single⟩
    obtain ⟨pending, released, taken⟩ :=
      State.openShort_both_protected (s := s.advance dt) timers powered absent other single manoeuvre
    exact ⟨pending, released, fun waits => ⟨others waits, fun deferred =>
      taken waits fun f mem code => deferred f mem (code ▸ waits)⟩⟩

end Sys2Proof.Machine
end

section
/-! PROOFS. The speed expiry: wheel speeds, axle and reference speed, source, direction and distance (R44, R48 to R54):
O27. -/

namespace Sys2Proof.Machine

/-! ## A deferral window that stays as it is (R180, R181) -/

/-- No window is open, or a protected manoeuvre keeps it open: settling closes none. -/
def State.windowRests (s : State) : Prop := s.sup.windowFrom = none ∨ s.protectedManoeuvre = true

theorem State.windowRests.closeIfIdle {s : State} (h : s.windowRests) : s.closeIfIdle = s :=
  h.elim State.closeIfIdle_of_closed State.closeIfIdle_of_protected

theorem State.windowRests.of_same {s t : State} (h : s.windowRests) (window : t.sup.windowFrom = s.sup.windowFrom)
    (manoeuvre : t.protectedManoeuvre = s.protectedManoeuvre) : t.windowRests :=
  h.imp (window.trans ·) (manoeuvre.trans ·)

/-- Work outside the supervisor, the steer mode and the level state leaves the window as it is. -/
theorem State.windowRests.of_onlyChanges {s t : State} {blocks : List Block} (h : s.windowRests)
    (changes : s.onlyChanges blocks t) (apart : Block.sup ∉ blocks ∧ Block.air ∉ blocks ∧ Block.steer ∉ blocks) :
    t.windowRests := by
  obtain ⟨sup, air, steer⟩ := apart
  exact h.of_same (congrArg _ (State.same_of_onlyChanges changes .sup sup))
    (State.protectedManoeuvre_of_same (State.same_of_onlyChanges changes .air air)
      (State.same_of_onlyChanges changes .steer steer))

@[simp] theorem Supervisor.addEffect_windowFrom (u : Supervisor) (c : FaultCode) :
    (u.addEffect c).windowFrom = u.windowFrom := by unfold Supervisor.addEffect; split <;> rfl
@[simp] theorem Supervisor.takePending_windowFrom (u : Supervisor) (c : FaultCode) :
    (u.takePending c).windowFrom = u.windowFrom := by
  unfold Supervisor.takePending
  split
  · rw [Supervisor.addEffect_windowFrom]
    rfl
  · rfl

theorem State.applyConsequence_windowFrom (s : State) (c : FaultCode) :
    (s.applyConsequence c).sup.windowFrom = s.sup.windowFrom := by
  cases c
  case wheelSensorL | wheelSensorR | jointSensor | heightSensorL | heightSensorR | reservoirSensor | odometerSaturated =>
    exact Supervisor.addEffect_windowFrom ..
  all_goals rfl

theorem State.applyConsequence_protectedManoeuvre (s : State) (c : FaultCode) :
    (s.applyConsequence c).protectedManoeuvre = s.protectedManoeuvre := by
  cases c <;> rfl

/-- A raise opens the window only during a protected manoeuvre, where none is open. -/
theorem State.raiseFault_windowRests {s : State} (h : s.windowRests) (c : FaultCode) : (s.raiseFault c).windowRests := by
  cases deferrable : c.deferrable with
  | true =>
    rcases s.raiseFault_deferrable_cases deferrable with ⟨-, e⟩ | ⟨-, waits, e⟩ | ⟨-, -, -, e⟩ <;> rw [e]
    · exact h.of_same (s.recorded_windowFrom ..) rfl
    · refine .inr (waits.elim id fun opened => h.resolve_left fun none => ?_)
      rw [none] at opened
      cases opened
    · exact h.of_same ((State.applyConsequence_windowFrom ..).trans (s.recorded_windowFrom ..))
        (State.applyConsequence_protectedManoeuvre ..)
  | false =>
    by_cases both : c = .wheelSensorsBoth
    · subst both
      rw [State.raiseBoth_eq]
      refine h.of_same ?_ rfl
      change (((((s.recorded .wheelSensorsBoth .active).addEffect _).takePending _).takePending _).windowFrom) = _
      rw [Supervisor.takePending_windowFrom, Supervisor.takePending_windowFrom, Supervisor.addEffect_windowFrom,
        State.recorded_windowFrom]
    · rw [State.raiseFault_recorded s both deferrable]
      exact h.of_same (s.recorded_windowFrom c .active) rfl

theorem State.endCondition_windowRests {s : State} (h : s.windowRests) (c : FaultCode) : (s.endCondition c).windowRests :=
  h.of_same rfl rfl

theorem State.follow_windowRests {s : State} (h : s.windowRests) (c : FaultCode) (present : Bool) :
    (s.follow c present).windowRests := by
  rcases s.follow_cases c present with ⟨-, -, e⟩ | ⟨-, -, e⟩ | ⟨-, e⟩ <;> rw [e]
  · exact h
  · exact State.raiseFault_windowRests h c
  · exact State.endCondition_windowRests h c

/-! ## What faults do to the wheels (R45, R47) -/

/-- The odometry with its wheels excluded or not, and otherwise the same. -/
def Odometry.excludes (o x : Odometry) : Prop :=
  ∃ l r, x = { o with left := { o.left with excluded := l }, right := { o.right with excluded := r } }

theorem Odometry.excludes_refl (o : Odometry) : o.excludes o := ⟨_, _, rfl⟩

theorem Odometry.excludes.trans {o x y : Odometry} (h : o.excludes x) (k : x.excludes y) : o.excludes y := by
  obtain ⟨l, r, rfl⟩ := h
  obtain ⟨l', r', rfl⟩ := k
  exact ⟨l', r', rfl⟩

theorem State.applyConsequence_odo (s : State) (c : FaultCode) : s.odo.excludes (s.applyConsequence c).odo := by
  cases c <;> exact ⟨_, _, rfl⟩

theorem State.raiseFault_odo (s : State) (c : FaultCode) : s.odo.excludes (s.raiseFault c).odo :=
  ite_keeps (P := fun t : State => s.odo.excludes t.odo) ⟨true, true, rfl⟩
    (ite_keeps (P := fun t : State => s.odo.excludes t.odo) s.odo.excludes_refl
      (ite_keeps (P := fun t : State => s.odo.excludes t.odo) s.odo.excludes_refl
        (State.applyConsequence_odo (s.setSup _) c)))

theorem State.follow_odo (s : State) (c : FaultCode) (present : Bool) : s.odo.excludes (s.follow c present).odo := by
  rcases s.follow_cases c present with ⟨-, -, e⟩ | ⟨-, -, e⟩ | ⟨-, e⟩ <;> rw [e]
  · exact s.odo.excludes_refl
  · exact s.raiseFault_odo c
  · exact s.odo.excludes_refl

theorem State.settle_odo_excludes (s : State) : s.odo.excludes s.settle.odo := by
  rw [State.settle_odo]
  rcases s.closeIfIdle_cases with ⟨-, -, e⟩ | ⟨-, e⟩ <;> rw [e]
  · exact State.applyAll_keeps (Q := fun t => s.odo.excludes t.odo)
      (fun t d h => h.trans (State.applyConsequence_odo (t.setSup _) d)) _ s.odo.excludes_refl
  · exact s.odo.excludes_refl

/-! ## The steps of one expiry -/

theorem State.speedExpiry_eq {s : State} {p : Params} (timers : s.timersRun = true) (copy : s.loader.copy = some p) :
    s.speedExpiry = (s.odometryWork p).settle :=
  (if_pos timers).trans (congrArg State.settle (State.withCopy_some copy _))

/-- The wheels measured and judged against each other (R44, R46). -/
def Odometry.judged (o : Odometry) (p : Params) (now : Micros) : Odometry :=
  { o with
    left := (o.left.measure p now).judge (o.right.measure p now)
    right := (o.right.measure p now).judge (o.left.measure p now) }

theorem Wheel.measure_accumulator (w : Wheel) (p : Params) (now : Micros) :
    (w.measure p now).accumulator = w.accumulator :=
  ite_keeps (P := fun x : Wheel => x.accumulator = w.accumulator) rfl rfl

theorem State.followWheel_odo (s : State) (side : Side) (arises : Bool) : s.odo.excludes (s.followWheel side arises).odo := by
  unfold State.followWheel
  exact ite_keeps (P := fun t : State => s.odo.excludes t.odo) (s.raiseFault_odo _) (s.follow_odo _ _)

theorem State.wheelWork_odo (s : State) (p : Params) : (s.odo.judged p s.now).excludes (s.wheelWork p).odo := by
  unfold State.wheelWork
  exact ((State.followWheel_odo (s.setOdo (s.odo.judged p s.now)) _ _).trans (State.followWheel_odo _ _ _)).trans
    (State.follow_odo _ _ _)

theorem State.followWheel_windowRests {s : State} (h : s.windowRests) (side : Side) (arises : Bool) :
    (s.followWheel side arises).windowRests := by
  unfold State.followWheel
  exact ite_keeps (P := State.windowRests) (State.raiseFault_windowRests h _) (State.follow_windowRests h _ _)

theorem State.wheelWork_windowRests {s : State} (h : s.windowRests) (p : Params) : (s.wheelWork p).windowRests := by
  have judged : (s.setOdo (s.odo.judged p s.now)).windowRests := h.of_same rfl rfl
  exact State.follow_windowRests (State.followWheel_windowRests (State.followWheel_windowRests judged _ _) _ _) _ _

/-- The mean of the wheels in use, and its flag (R48). -/
theorem Odometry.setAxleSpeed_eq (o : Odometry) :
    o.setAxleSpeed = { o with axleSpeed := o.setAxleSpeed.axleSpeed, speedValid := o.setAxleSpeed.speedValid } := by
  unfold Odometry.setAxleSpeed
  split <;> rfl

theorem State.speedWork_odo (s : State) :
    s.speedWork.odo =
      { s.odo with
        axleSpeed := s.odo.setAxleSpeed.axleSpeed, speedValid := s.odo.setAxleSpeed.speedValid
        reference := max (largest (s.odo.usedSpeeds ++ s.peerSpeeds)) (s.odo.reference - 12) } := by
  change { s.odo.setAxleSpeed with
    reference := max (largest (s.odo.setAxleSpeed.usedSpeeds ++ s.peerSpeeds)) (s.odo.setAxleSpeed.reference - 12) } = _
  rw [Odometry.setAxleSpeed_eq]
  rfl

theorem State.sourceWork_odo (s : State) :
    s.sourceWork.odo =
      { s.odo with
        source := if s.borrows then .borrowed else .own
        borrowTime := if s.borrows then (if s.odo.source = .borrowed then s.odo.borrowTime + 10 else 0) else 0 } := by
  unfold State.sourceWork
  cases s.borrows <;> rfl

theorem State.directionWork_odo (s : State) :
    s.directionWork.odo = { s.odo with direction := s.driverField DriverContent.direction s.odo.direction } := by
  unfold State.directionWork
  exact ite_keeps (P := fun t : State =>
    t.odo = { s.odo with direction := s.driverField DriverContent.direction s.odo.direction }) rfl rfl

/-- The state before distance is counted. -/
def State.beforeDistance (s : State) (p : Params) : State := (s.wheelWork p).speedWork.sourceWork.directionWork

theorem State.odometryWork_eq (s : State) (p : Params) :
    s.odometryWork p = (((s.beforeDistance p).distanceWork p).adoptionWork p).standstillWork := rfl

theorem State.speedWork_borrows (s : State) : s.speedWork.borrows = s.borrows := by
  unfold State.borrows
  rw [State.speedWork_odo]
  rfl

/-- The odometry before distance is counted: what faults made of the wheels, with speeds, source and direction. -/
theorem State.beforeDistance_odo (s : State) (p : Params) :
    (s.beforeDistance p).odo =
      { (s.wheelWork p).odo with
        axleSpeed := (s.wheelWork p).odo.setAxleSpeed.axleSpeed
        speedValid := (s.wheelWork p).odo.setAxleSpeed.speedValid
        reference :=
          max (largest ((s.wheelWork p).odo.usedSpeeds ++ (s.wheelWork p).peerSpeeds)) ((s.wheelWork p).odo.reference - 12)
        source := if (s.wheelWork p).borrows then .borrowed else .own
        borrowTime := if (s.wheelWork p).borrows then
            (if (s.wheelWork p).odo.source = .borrowed then (s.wheelWork p).odo.borrowTime + 10 else 0) else 0
        direction := (s.wheelWork p).driverField DriverContent.direction (s.wheelWork p).odo.direction } := by
  have driver (t : State) (d : Direction) : t.speedWork.sourceWork.driverField DriverContent.direction d =
      t.driverField DriverContent.direction d := by
    unfold State.sourceWork
    cases t.speedWork.borrows <;> rfl
  unfold State.beforeDistance
  rw [State.directionWork_odo, driver, State.sourceWork_odo, State.speedWork_borrows, State.speedWork_odo]

/-! ## Distance, adoption and standstill (R50, R51, R54 to R57) -/

theorem State.raiseSaturated_odo (s : State) : (s.raiseFault .odometerSaturated).odo = s.odo :=
  State.same_of_onlyChanges (s.raiseFault_touches .odometerSaturated) .odo (by decide)

/-- The whole µm taken from the wheels, and the half µm carried. -/
def State.takeWholes (s : State) (p : Params) : State :=
  s.setOdo
    { s.odo with
      left := s.odo.left.takeWhole p, right := s.odo.right.takeWhole p, halfCarry := (s.odo.axleIncrement p).2 }

/-- The distance of one period goes into the mark, saturates it, or reaches nothing (R51, R54). -/
theorem State.distanceWork_cases (s : State) (p : Params) :
    (s.countsDistance = false ∧ s.distanceWork p = s.takeWholes p)
    ∨ (s.countsDistance = true ∧ ∃ total, total = s.odo.markAccumulator + s.pathIncrement (s.odo.axleIncrement p).1
        ∧ ((4000000000 < s.odo.mark + total / 10000
            ∧ s.distanceWork p =
              ((s.takeWholes p).setOdo { (s.takeWholes p).odo with
                mark := 4000000000, markAccumulator := 0, saturated := true }).raiseFault .odometerSaturated)
          ∨ (s.odo.mark + total / 10000 ≤ 4000000000
            ∧ s.distanceWork p =
              (s.takeWholes p).setOdo { (s.takeWholes p).odo with
                mark := s.odo.mark + total / 10000, markAccumulator := total % 10000 }))) := by
  have counts : (s.takeWholes p).countsDistance = s.countsDistance := rfl
  cases reaches : s.countsDistance with
  | false => exact .inl ⟨rfl, if_neg (by rw [← State.takeWholes, counts, reaches]; decide)⟩
  | true =>
    have added : s.distanceWork p = (s.takeWholes p).addDistance (s.pathIncrement (s.odo.axleIncrement p).1) :=
      if_pos (counts.trans reaches)
    refine .inr ⟨rfl, _, rfl, ?_⟩
    rw [added]
    by_cases passes : 4000000000 < s.odo.mark + (s.odo.markAccumulator + s.pathIncrement (s.odo.axleIncrement p).1) / 10000
    · exact .inl ⟨passes, if_pos passes⟩
    · exact .inr ⟨Nat.le_of_not_lt passes, if_neg passes⟩

theorem State.distanceWork_odo (s : State) (p : Params) :
    ∃ mark accumulator saturated, (s.distanceWork p).odo =
      { (s.takeWholes p).odo with mark := mark, markAccumulator := accumulator, saturated := saturated } := by
  rcases s.distanceWork_cases p with ⟨-, e⟩ | ⟨-, total, -, ⟨-, e⟩ | ⟨-, e⟩⟩ <;> rw [e]
  · exact ⟨_, _, _, rfl⟩
  · rw [State.raiseSaturated_odo]
    exact ⟨_, _, _, rfl⟩
  · exact ⟨_, _, s.odo.saturated, rfl⟩

/-- A mark is adopted, clamped with ODOMETER_SATURATED or not, or nothing happens (R55, R56). -/
theorem State.adoptionWork_cases (s : State) (p : Params) :
    (s.adoptionWork p = s ∧ s.cabAdopts = false ∧ s.rearAdopts = false)
    ∨ (s.cabAdopts = true ∧ 4000000000 < s.cabMark
        ∧ s.adoptionWork p = (s.adopt 4000000000).raiseFault .odometerSaturated)
    ∨ (s.cabAdopts = true ∧ s.cabMark ≤ 4000000000 ∧ s.adoptionWork p = s.adopt s.cabMark)
    ∨ (s.cabAdopts = false ∧ s.rearAdopts = true ∧ s.adoptionWork p = s.adopt (match s.cabContent with
        | some c => c.mark - p.lag
        | none => 5000 - p.lag)) := by
  unfold State.adoptionWork
  cases cab : s.cabAdopts with
  | true =>
    by_cases passes : 4000000000 < s.cabMark
    · exact .inr (.inl ⟨rfl, passes, if_pos passes⟩)
    · exact .inr (.inr (.inl ⟨rfl, Nat.le_of_not_lt passes, if_neg passes⟩))
  | false =>
    cases rear : s.rearAdopts with
    | true => exact .inr (.inr (.inr ⟨rfl, rfl, rfl⟩))
    | false => exact .inl ⟨rfl, rfl, rfl⟩

theorem State.adoptionWork_odo (s : State) (p : Params) :
    ∃ mark valid accumulator, (s.adoptionWork p).odo =
      { s.odo with mark := mark, markValid := valid, markAccumulator := accumulator } := by
  rcases s.adoptionWork_cases p with ⟨e, -, -⟩ | ⟨-, -, e⟩ | ⟨-, -, e⟩ | ⟨-, -, e⟩ <;> rw [e]
  · exact ⟨_, _, _, rfl⟩
  · rw [State.raiseSaturated_odo]
    exact ⟨_, _, _, rfl⟩
  · exact ⟨_, _, _, rfl⟩
  · exact ⟨_, _, _, rfl⟩

/-- A station with a mark adopts none. -/
theorem State.adoptionWork_of_valid {s : State} (valid : s.odo.markValid = true) (p : Params) : s.adoptionWork p = s := by
  have cab : s.cabAdopts = false := by simp [State.cabAdopts, valid]
  have rear : s.rearAdopts = false := by simp [State.rearAdopts, valid]
  rcases s.adoptionWork_cases p with ⟨e, -, -⟩ | ⟨on, -, -⟩ | ⟨on, -, -⟩ | ⟨-, on, -⟩
  · exact e
  · exact absurd (on.symm.trans cab) (by decide)
  · exact absurd (on.symm.trans cab) (by decide)
  · exact absurd (on.symm.trans rear) (by decide)

/-- An adoption leaves a mark. -/
theorem State.adoptionWork_of_invalid {s : State} {p : Params} (none : (s.adoptionWork p).odo.markValid = false) :
    s.adoptionWork p = s := by
  rcases s.adoptionWork_cases p with ⟨e, -, -⟩ | ⟨-, -, e⟩ | ⟨-, -, e⟩ | ⟨-, -, e⟩
  · exact e
  · rw [e, State.raiseSaturated_odo] at none
    cases none
  · rw [e] at none
    cases none
  · rw [e] at none
    cases none

/-- The set run after an expiry. -/
def State.nextSetRun (s : State) : Nat := if s.restsNow then min 20 (s.odo.setRun + 1) else 0

/-- The standstill flag and its run; only a clearing under a grant queues the ALERT (R57, R58). -/
theorem State.standstillWork_eq (s : State) :
    ∃ t, t = s.setOdo { s.odo with
          setRun := s.nextSetRun
          standstill := !s.speedTerms.any (fun v => 30 < v) && (s.odo.standstill || s.nextSetRun == 20) }
      ∧ s.standstillWork =
        if s.odo.standstill && s.speedTerms.any (fun v => 30 < v) && s.doors.anyGrant then
          t.queueAlert .standstillLost 255 s.odo.reference
        else t := ⟨_, rfl, rfl⟩

theorem State.standstillWork_odo (s : State) :
    s.standstillWork.odo =
      { s.odo with
        setRun := s.nextSetRun
        standstill := !s.speedTerms.any (fun v => 30 < v) && (s.odo.standstill || s.nextSetRun == 20) } := by
  obtain ⟨t, rfl, e⟩ := s.standstillWork_eq
  rw [e]
  split
  · exact State.same_of_onlyChanges (State.queueAlert_onlyChanges ..) .odo (by decide)
  · rfl

/-- The odometry after the work of an expiry, but for the mark. -/
theorem State.odometryWork_odo (s : State) (p : Params) :
    ∃ mark valid accumulator saturated, (s.odometryWork p).odo =
      { ((s.beforeDistance p).takeWholes p).odo with
        mark := mark, markValid := valid, markAccumulator := accumulator, saturated := saturated
        setRun := (((s.beforeDistance p).distanceWork p).adoptionWork p).nextSetRun
        standstill := !(((s.beforeDistance p).distanceWork p).adoptionWork p).speedTerms.any (fun v => 30 < v)
          && ((((s.beforeDistance p).distanceWork p).adoptionWork p).odo.standstill
            || (((s.beforeDistance p).distanceWork p).adoptionWork p).nextSetRun == 20) } := by
  obtain ⟨mark, accumulator, saturated, distance⟩ := (s.beforeDistance p).distanceWork_odo p
  obtain ⟨mark', valid, accumulator', adoption⟩ := ((s.beforeDistance p).distanceWork p).adoptionWork_odo p
  refine ⟨mark', valid, accumulator', saturated, ?_⟩
  rw [State.odometryWork_eq, State.standstillWork_odo]
  rw [adoption, distance]

theorem State.odometryWork_windowRests {s : State} (h : s.windowRests) (p : Params) : (s.odometryWork p).windowRests := by
  have turned {t : State} (k : t.windowRests) : t.directionWork.windowRests :=
    ite_keeps (P := State.windowRests) (k.of_same rfl rfl) (k.of_same rfl rfl)
  have counted {t : State} (k : t.windowRests) : (t.distanceWork p).windowRests := by
    rcases t.distanceWork_cases p with ⟨-, e⟩ | ⟨-, total, -, ⟨-, e⟩ | ⟨-, e⟩⟩ <;> rw [e]
    · exact k.of_same rfl rfl
    · refine State.raiseFault_windowRests ?_ _
      exact k.of_same rfl rfl
    · exact k.of_same rfl rfl
  have adopted {t : State} (k : t.windowRests) : (t.adoptionWork p).windowRests := by
    rcases t.adoptionWork_cases p with ⟨e, -, -⟩ | ⟨-, -, e⟩ | ⟨-, -, e⟩ | ⟨-, -, e⟩ <;> rw [e]
    · exact k
    · refine State.raiseFault_windowRests ?_ _
      exact k.of_same rfl rfl
    · exact k.of_same rfl rfl
    · exact k.of_same rfl rfl
  have speeds := (State.wheelWork_windowRests h p).of_onlyChanges (State.speedWork_onlyChanges _) (by decide)
  have source := speeds.of_onlyChanges (State.sourceWork_onlyChanges _) (by decide)
  exact (adopted (counted (turned source))).of_onlyChanges (State.standstillWork_onlyChanges _) (by decide)

/-! ## What the steps before distance leave -/

theorem State.wheelWork_same (s : State) (p : Params) :
    (s.wheelWork p).peerSpeeds = s.peerSpeeds ∧ (s.wheelWork p).brake = s.brake
    ∧ (s.wheelWork p).driverField DriverContent.direction s.odo.direction =
      s.driverField DriverContent.direction s.odo.direction := by
  have changes := s.wheelWork_onlyChanges p
  have peers : (s.wheelWork p).peers = s.peers := State.same_of_onlyChanges changes .peers (by decide)
  have driver : (s.wheelWork p).driver = s.driver := State.same_of_onlyChanges changes .driver (by decide)
  refine ⟨?_, State.same_of_onlyChanges changes .brake (by decide), ?_⟩
  · unfold State.peerSpeeds State.presentContents
    rw [peers]
  · unfold State.driverField State.driverContent State.driverUsable
    rw [driver]

/-- The fields that the faults and the speeds leave. -/
theorem State.beforeDistance_keeps (s : State) (p : Params) :
    (s.beforeDistance p).odo.left.accumulator = s.odo.left.accumulator
    ∧ (s.beforeDistance p).odo.right.accumulator = s.odo.right.accumulator
    ∧ (s.beforeDistance p).odo.halfCarry = s.odo.halfCarry
    ∧ (s.beforeDistance p).odo.markAccumulator = s.odo.markAccumulator
    ∧ (s.beforeDistance p).odo.mark = s.odo.mark ∧ (s.beforeDistance p).odo.markValid = s.odo.markValid
    ∧ (s.beforeDistance p).odo.saturated = s.odo.saturated := by
  obtain ⟨l, r, wheels⟩ := s.wheelWork_odo p
  rw [State.beforeDistance_odo, wheels]
  exact ⟨Wheel.measure_accumulator .., Wheel.measure_accumulator .., rfl, rfl, rfl, rfl, rfl⟩

theorem State.directionWork_hasCondition (s : State) {c : FaultCode} (h : c ≠ .trackNearFull) :
    s.directionWork.hasCondition c = s.hasCondition c := by
  refine ite_keeps (P := fun t : State => t.hasCondition c = s.hasCondition c) ?_ rfl
  refine (State.hasCondition_endCondition _ _ _).trans ?_
  rw [bne_iff_ne.mpr h, Bool.and_true]
  rfl

theorem State.beforeDistance_hasCondition (s : State) (p : Params) {c : FaultCode} (h : c ≠ .trackNearFull) :
    (s.beforeDistance p).hasCondition c = (s.wheelWork p).hasCondition c := by
  have source := State.same_of_onlyChanges (State.sourceWork_onlyChanges (s.wheelWork p).speedWork) .sup (by decide)
  have speeds := State.same_of_onlyChanges (State.speedWork_onlyChanges (s.wheelWork p)) .sup (by decide)
  exact (State.directionWork_hasCondition _ h).trans (congrArg (fun u : Supervisor => u.conditions.contains c) (source.trans speeds))

/-- The conditions other than those of the wheels stand as they did. -/
theorem State.wheelWork_hasCondition (s : State) (p : Params) {c : FaultCode}
    (other : c ≠ .wheelSensorL ∧ c ≠ .wheelSensorR ∧ c ≠ .wheelSensorsBoth) :
    (s.wheelWork p).hasCondition c = s.hasCondition c := by
  obtain ⟨left, right, both⟩ := other
  have followed {d : FaultCode} (apart : c ≠ d) (t : State) (present : Bool) :
      (t.follow d present).hasCondition c = t.hasCondition c := by rw [State.hasCondition_follow, if_neg apart]
  have wheel {side : Side} (apart : c ≠ wheelFault side) (t : State) (arises : Bool) :
      (t.followWheel side arises).hasCondition c = t.hasCondition c := by
    unfold State.followWheel
    refine ite_keeps (P := fun u : State => u.hasCondition c = t.hasCondition c) ?_ (followed apart t _)
    rw [State.hasCondition_raiseFault, beq_eq_false_iff_ne.mpr apart, Bool.or_false]
  unfold State.wheelWork
  exact (followed both _ _).trans ((wheel (side := .right) right _ _).trans (wheel (side := .left) left _ _))

/-! ## What the expiry leaves of each field -/

section
variable (s : State) (p : Params)

/-- A wheel's speed is that of its capture, and its accumulator keeps the fraction. -/
theorem State.odometryWork_wheel (side : Side) :
    ((s.odometryWork p).odo.wheel side).speed = ((s.odo.wheel side).measure p s.now).speed
    ∧ ((s.odometryWork p).odo.wheel side).accumulator = (s.odo.wheel side).accumulator % p.teeth
    ∧ ((s.odometryWork p).odo.wheel side).excluded = ((s.beforeDistance p).odo.wheel side).excluded := by
  obtain ⟨_, _, _, _, odo⟩ := s.odometryWork_odo p
  obtain ⟨l, r, wheels⟩ := s.wheelWork_odo p
  cases side
  · rw [odo]
    unfold State.takeWholes
    rw [State.setOdo_odo, State.beforeDistance_odo, wheels]
    exact ⟨rfl, congrArg (· % p.teeth) (Wheel.measure_accumulator ..), rfl⟩
  · rw [odo]
    unfold State.takeWholes
    rw [State.setOdo_odo, State.beforeDistance_odo, wheels]
    exact ⟨rfl, congrArg (· % p.teeth) (Wheel.measure_accumulator ..), rfl⟩

/-- The other fields are those before distance was counted, but for the mark and the standstill flag. -/
theorem State.odometryWork_fields :
    (s.odometryWork p).odo.axleSpeed = (s.beforeDistance p).odo.axleSpeed
    ∧ (s.odometryWork p).odo.speedValid = (s.beforeDistance p).odo.speedValid
    ∧ (s.odometryWork p).odo.reference = (s.beforeDistance p).odo.reference
    ∧ (s.odometryWork p).odo.source = (s.beforeDistance p).odo.source
    ∧ (s.odometryWork p).odo.borrowTime = (s.beforeDistance p).odo.borrowTime
    ∧ (s.odometryWork p).odo.direction = (s.beforeDistance p).odo.direction
    ∧ (s.odometryWork p).odo.halfCarry = ((s.beforeDistance p).odo.axleIncrement p).2
    ∧ (s.odometryWork p).odo.usedSpeeds = (s.beforeDistance p).odo.usedSpeeds := by
  obtain ⟨_, _, _, _, odo⟩ := s.odometryWork_odo p
  rw [odo]
  generalize s.beforeDistance p = v
  exact ⟨rfl, rfl, rfl, rfl, rfl, rfl, rfl, rfl⟩

/-- The axle speed is the mean of the wheels in use (R48). -/
theorem Odometry.setAxleSpeed_of_used (o : Odometry) :
    o.setAxleSpeed.axleSpeed = roundNat o.usedSpeeds.sum (max 1 o.usedSpeeds.length)
    ∧ o.setAxleSpeed.speedValid = !o.usedSpeeds.isEmpty := by
  unfold Odometry.setAxleSpeed
  cases o.usedSpeeds with
  | nil => exact ⟨rfl, rfl⟩
  | cons v rest =>
    have some : max 1 (v :: rest).length = (v :: rest).length := Nat.max_eq_right (Nat.succ_le_succ (Nat.zero_le _))
    rw [some]
    exact ⟨rfl, rfl⟩

theorem State.odometryWork_axleSpeed :
    (s.odometryWork p).odo.axleSpeed =
      roundNat (s.odometryWork p).odo.usedSpeeds.sum (max 1 (s.odometryWork p).odo.usedSpeeds.length)
    ∧ (s.odometryWork p).odo.speedValid = !(s.odometryWork p).odo.usedSpeeds.isEmpty
    ∧ (s.odometryWork p).odo.reference =
      max (largest ((s.odometryWork p).odo.usedSpeeds ++ s.peerSpeeds)) (s.odo.reference - 12) := by
  obtain ⟨axle, valid, reference, -, -, -, -, used⟩ := s.odometryWork_fields p
  obtain ⟨mean, flag⟩ := (s.wheelWork p).odo.setAxleSpeed_of_used
  obtain ⟨peers, -, -⟩ := s.wheelWork_same p
  obtain ⟨l, r, wheels⟩ := s.wheelWork_odo p
  have kept : (s.wheelWork p).odo.reference = s.odo.reference := by
    rw [wheels]
    rfl
  have same : (s.beforeDistance p).odo.usedSpeeds = (s.wheelWork p).odo.usedSpeeds := by
    rw [State.beforeDistance_odo]
    generalize s.wheelWork p = w
    rfl
  rw [axle, valid, reference, used, same, ← mean, ← flag, State.beforeDistance_odo, ← peers, ← kept]
  exact ⟨rfl, rfl, rfl⟩

/-- The source, its borrow time and the direction (R52, R53). -/
theorem State.odometryWork_source :
    (s.odometryWork p).odo.source = (if (s.wheelWork p).borrows then .borrowed else .own)
    ∧ (s.odometryWork p).odo.borrowTime = (if (s.wheelWork p).borrows then
        (if s.odo.source = .borrowed then s.odo.borrowTime + 10 else 0) else 0)
    ∧ (s.odometryWork p).odo.direction = s.driverField DriverContent.direction s.odo.direction := by
  obtain ⟨-, -, -, source, borrow, direction, -, -⟩ := s.odometryWork_fields p
  obtain ⟨-, -, driver⟩ := s.wheelWork_same p
  obtain ⟨l, r, wheels⟩ := s.wheelWork_odo p
  rw [source, borrow, direction, State.beforeDistance_odo]
  have kept : (s.wheelWork p).odo.source = s.odo.source ∧ (s.wheelWork p).odo.borrowTime = s.odo.borrowTime
      ∧ (s.wheelWork p).odo.direction = s.odo.direction := by
    rw [wheels]
    exact ⟨rfl, rfl, rfl⟩
  obtain ⟨source, borrow, direction⟩ := kept
  dsimp only
  rw [source, borrow, direction, driver]
  exact ⟨rfl, rfl, rfl⟩

end

/-! ## The mark (R51, R54) -/

section
variable (s : State) (p : Params)

theorem State.beforeDistance_onlyChanges : s.onlyChanges [.odo, .sup, .track] (s.beforeDistance p) :=
  ((((s.onlyChanges_refl _).step (s.wheelWork_onlyChanges p) (by decide)).step (State.speedWork_onlyChanges _)
    (by decide)).step (State.sourceWork_onlyChanges _) (by decide)).step (State.directionWork_onlyChanges _) (by decide)

theorem State.standstillWork_hasCondition (c : FaultCode) : s.standstillWork.hasCondition c = s.hasCondition c := by
  have sup : s.standstillWork.sup = s.sup := State.same_of_onlyChanges s.standstillWork_onlyChanges .sup (by decide)
  unfold State.hasCondition
  rw [sup]

/-- Of the odometry the standstill step moves the flag and its run alone. -/
theorem State.standstillWork_mark :
    s.standstillWork.odo.mark = s.odo.mark ∧ s.standstillWork.odo.markAccumulator = s.odo.markAccumulator
    ∧ s.standstillWork.odo.markValid = s.odo.markValid ∧ s.standstillWork.odo.saturated = s.odo.saturated := by
  rw [State.standstillWork_odo]
  exact ⟨rfl, rfl, rfl, rfl⟩

/-- The distance of one period adds to a mark, or saturates it, where it counts (R51, R54). -/
theorem State.distanceWork_mark :
    (s.distanceWork p).odo.markValid = s.odo.markValid
    ∧ (s.countsDistance = false →
        (s.distanceWork p).odo.mark = s.odo.mark ∧ (s.distanceWork p).odo.markAccumulator = s.odo.markAccumulator
        ∧ (s.distanceWork p).odo.saturated = s.odo.saturated
        ∧ (s.distanceWork p).hasCondition .odometerSaturated = s.hasCondition .odometerSaturated)
    ∧ (s.countsDistance = true → ∀ total, total = s.odo.markAccumulator + s.pathIncrement (s.odo.axleIncrement p).1 →
        (s.odo.mark + total / 10000 ≤ 4000000000 →
          (s.distanceWork p).odo.mark = s.odo.mark + total / 10000
          ∧ (s.distanceWork p).odo.markAccumulator = total % 10000
          ∧ (s.distanceWork p).odo.saturated = s.odo.saturated
          ∧ (s.distanceWork p).hasCondition .odometerSaturated = s.hasCondition .odometerSaturated)
        ∧ (4000000000 < s.odo.mark + total / 10000 →
          (s.distanceWork p).odo.mark = 4000000000 ∧ (s.distanceWork p).odo.markAccumulator = 0
          ∧ (s.distanceWork p).odo.saturated = true
          ∧ (s.distanceWork p).hasCondition .odometerSaturated = true)) := by
  rcases s.distanceWork_cases p with ⟨stays, e⟩ | ⟨counts, total, sum, ⟨past, e⟩ | ⟨below, e⟩⟩ <;> rw [e]
  · exact ⟨rfl, fun _ => ⟨rfl, rfl, rfl, rfl⟩, fun counts => absurd (counts.symm.trans stays) (by decide)⟩
  · rw [State.raiseSaturated_odo]
    refine ⟨rfl, fun stays => absurd (counts.symm.trans stays) (by decide), fun _ total' sum' => ?_⟩
    obtain rfl := sum'.trans sum.symm
    refine ⟨fun below => absurd below (Nat.not_le.mpr past), fun _ => ⟨rfl, rfl, rfl, ?_⟩⟩
    rw [State.hasCondition_raiseFault]
    simp
  · refine ⟨rfl, fun stays => absurd (counts.symm.trans stays) (by decide), fun _ total' sum' => ?_⟩
    obtain rfl := sum'.trans sum.symm
    exact ⟨fun _ => ⟨rfl, rfl, rfl, rfl⟩, fun past => absurd past (Nat.not_lt.mpr below)⟩

theorem State.countsDistance_iff :
    s.countsDistance = true ↔ s.odo.markValid = true ∧ s.odo.direction ≠ .reverse ∧ s.odo.saturated = false := by
  simp [State.countsDistance, and_assoc]

/-- What the wheels give in one period, and the half µm carried (R51, R52). -/
theorem Odometry.axleIncrement_eq (o : Odometry) (l r : Nat) (left : o.left.accumulator / p.teeth = l)
    (right : o.right.accumulator / p.teeth = r) :
    o.axleIncrement p =
      if o.source = .borrowed then (o.reference * 100, o.halfCarry)
      else if o.left.excluded then (r, o.halfCarry)
      else if o.right.excluded then (l, o.halfCarry)
      else ((l + r + o.halfCarry) / 2, (l + r + o.halfCarry) % 2) := by
  subst left
  subst right
  unfold Odometry.axleIncrement
  cases o.source <;> rfl

/-- The increment of the path, with the angle and STEER_INPUT as they stood (R51). -/
theorem State.beforeDistance_pathIncrement (axle : Nat) :
    (s.beforeDistance p).pathIncrement axle =
      if s.isCab = true ∧ s.hasCondition .steerInput = false then timesCos axle s.path.frontAngle else axle := by
  have changes := s.beforeDistance_onlyChanges p
  have path : (s.beforeDistance p).path = s.path := State.same_of_onlyChanges changes .path (by decide)
  have loader : (s.beforeDistance p).loader = s.loader := State.same_of_onlyChanges changes .loader (by decide)
  have cab : (s.beforeDistance p).isCab = s.isCab := by
    unfold State.isCab State.station
    rw [loader]
  have input : (s.beforeDistance p).hasCondition .steerInput = s.hasCondition .steerInput :=
    (s.beforeDistance_hasCondition p (by decide)).trans (s.wheelWork_hasCondition p (by decide))
  unfold State.pathIncrement
  rw [cab, input, path]
  cases s.isCab <;> cases s.hasCondition .steerInput <;> rfl

end

/-- The axle increment and the carry of one expiry, as O27 has them. -/
theorem State.beforeDistance_axleIncrement (s : State) (p : Params) :
    (s.beforeDistance p).odo.axleIncrement p =
      if (s.odometryWork p).odo.source = .borrowed then ((s.odometryWork p).odo.reference * 100, s.odo.halfCarry)
      else if (s.odometryWork p).odo.left.excluded then (s.odo.right.wholeMicrometres p, s.odo.halfCarry)
      else if (s.odometryWork p).odo.right.excluded then (s.odo.left.wholeMicrometres p, s.odo.halfCarry)
      else ((s.odo.left.wholeMicrometres p + s.odo.right.wholeMicrometres p + s.odo.halfCarry) / 2,
        (s.odo.left.wholeMicrometres p + s.odo.right.wholeMicrometres p + s.odo.halfCarry) % 2) := by
  obtain ⟨left, right, carry, -⟩ := s.beforeDistance_keeps p
  obtain ⟨-, -, reference, source, -⟩ := s.odometryWork_fields p
  have excludedL : (s.odometryWork p).odo.left.excluded = (s.beforeDistance p).odo.left.excluded :=
    (s.odometryWork_wheel p .left).2.2
  have excludedR : (s.odometryWork p).odo.right.excluded = (s.beforeDistance p).odo.right.excluded :=
    (s.odometryWork_wheel p .right).2.2
  rw [Odometry.axleIncrement_eq p _ _ _ (congrArg (· / p.teeth) left) (congrArg (· / p.teeth) right), carry, reference,
    source, excludedL, excludedR]
  rfl

/-- The mark of an expiry that finds one: the distance step decides it. -/
theorem State.odometryWork_mark (s : State) {p : Params} (valid : s.odo.markValid = true) :
    (s.odometryWork p).odo.mark = ((s.beforeDistance p).distanceWork p).odo.mark
    ∧ (s.odometryWork p).odo.markAccumulator = ((s.beforeDistance p).distanceWork p).odo.markAccumulator
    ∧ (s.odometryWork p).odo.markValid = true
    ∧ (s.odometryWork p).odo.saturated = ((s.beforeDistance p).distanceWork p).odo.saturated
    ∧ (s.odometryWork p).hasCondition .odometerSaturated =
      ((s.beforeDistance p).distanceWork p).hasCondition .odometerSaturated := by
  obtain ⟨-, -, -, -, -, valid', -⟩ := s.beforeDistance_keeps p
  obtain ⟨kept, -, -⟩ := (s.beforeDistance p).distanceWork_mark p
  have still := State.adoptionWork_of_valid ((kept.trans valid').trans valid) p
  obtain ⟨mark, accumulator, flag, saturated⟩ := ((s.beforeDistance p).distanceWork p).standstillWork_mark
  rw [State.odometryWork_eq, still]
  exact ⟨mark, accumulator, flag.trans ((kept.trans valid').trans valid), saturated, State.standstillWork_hasCondition ..⟩

/-- Without a mark, and none adopted, the mark stays as it was. -/
theorem State.odometryWork_mark_of_none (s : State) {p : Params} (none : s.odo.markValid = false)
    (after : (s.odometryWork p).odo.markValid = false) :
    (s.odometryWork p).odo.mark = s.odo.mark ∧ (s.odometryWork p).odo.markAccumulator = s.odo.markAccumulator := by
  obtain ⟨-, -, -, accumulator, mark, valid, -⟩ := s.beforeDistance_keeps p
  have still : (s.beforeDistance p).countsDistance = false :=
    Bool.eq_false_iff.mpr fun counts => by
      have adopted := ((State.countsDistance_iff _).mp counts).1
      exact absurd ((adopted.symm.trans valid).trans none) (by decide)
  obtain ⟨-, rests, -⟩ := (s.beforeDistance p).distanceWork_mark p
  obtain ⟨mark', accumulator', -, -⟩ := rests still
  rw [State.odometryWork_eq] at after ⊢
  obtain ⟨-, -, flag, -⟩ := (((s.beforeDistance p).distanceWork p).adoptionWork p).standstillWork_mark
  have unadopted := State.adoptionWork_of_invalid (flag.symm.trans after)
  rw [unadopted]
  obtain ⟨mark'', accumulator'', -, -⟩ := ((s.beforeDistance p).distanceWork p).standstillWork_mark
  exact ⟨(mark''.trans mark').trans mark, (accumulator''.trans accumulator').trans accumulator⟩

section
variable (s : State) (p : Params)

theorem State.distanceWork_hasCondition {c : FaultCode} (h : c ≠ .odometerSaturated) :
    (s.distanceWork p).hasCondition c = s.hasCondition c := by
  rcases s.distanceWork_cases p with ⟨-, e⟩ | ⟨-, total, -, ⟨-, e⟩ | ⟨-, e⟩⟩ <;> rw [e]
  · rfl
  · rw [State.hasCondition_raiseFault, beq_eq_false_iff_ne.mpr h, Bool.or_false]
    rfl
  · rfl

theorem State.adoptionWork_hasCondition {c : FaultCode} (h : c ≠ .odometerSaturated) :
    (s.adoptionWork p).hasCondition c = s.hasCondition c := by
  rcases s.adoptionWork_cases p with ⟨e, -, -⟩ | ⟨-, -, e⟩ | ⟨-, -, e⟩ | ⟨-, -, e⟩ <;> rw [e]
  · rw [State.hasCondition_raiseFault, beq_eq_false_iff_ne.mpr h, Bool.or_false]
    rfl
  · rfl
  · rfl

/-- The conditions that the wheels' faults left stand, but for those of the track and of the mark. -/
theorem State.odometryWork_hasCondition {c : FaultCode} (h : c ≠ .odometerSaturated) (near : c ≠ .trackNearFull) :
    (s.odometryWork p).hasCondition c = (s.wheelWork p).hasCondition c := by
  rw [State.odometryWork_eq, State.standstillWork_hasCondition, State.adoptionWork_hasCondition _ _ h,
    State.distanceWork_hasCondition _ _ h, State.beforeDistance_hasCondition _ _ near]

/-- The source is BORROWED exactly while the own wheels cannot be used (R52). -/
theorem State.odometryWork_borrowed :
    (s.odometryWork p).odo.source = .borrowed ↔
      (s.brake.slipL.state ≠ .free ∨ s.brake.slipR.state ≠ .free) ∨ (s.odometryWork p).hasCondition .wheelSensorsBoth = true
        ∨ ((s.odometryWork p).odo.left.excluded = true ∧ (s.odometryWork p).odo.right.excluded = true) := by
  obtain ⟨source, -, -⟩ := s.odometryWork_source p
  obtain ⟨-, brake, -⟩ := s.wheelWork_same p
  have left : (s.odometryWork p).odo.left.excluded = (s.wheelWork p).odo.left.excluded :=
    (s.odometryWork_wheel p .left).2.2.trans (by rw [State.beforeDistance_odo]; rfl)
  have right : (s.odometryWork p).odo.right.excluded = (s.wheelWork p).odo.right.excluded :=
    (s.odometryWork_wheel p .right).2.2.trans (by rw [State.beforeDistance_odo]; rfl)
  have borrowed : (s.odometryWork p).odo.source = .borrowed ↔ (s.wheelWork p).borrows = true := by
    rw [source]
    cases (s.wheelWork p).borrows <;> decide
  rw [borrowed, s.odometryWork_hasCondition p (by decide) (by decide), left, right, State.borrows, brake]
  simp [Braking.slipActive, or_assoc]

/-- A change into REVERSE clears the track memory (R53, R71). -/
theorem State.odometryWork_track :
    (s.odometryWork p).track =
      if (s.odometryWork p).odo.direction = .reverse ∧ s.odo.direction ≠ .reverse then
        { s.track with entries := [], gapCount := 0, highWater := false }
      else s.track := by
  have speeds := ((s.wheelWork_onlyChanges p).step (State.speedWork_onlyChanges _) (by decide)).step
    (State.sourceWork_onlyChanges _) (by decide)
  have track : (s.wheelWork p).speedWork.sourceWork.track = s.track := State.same_of_onlyChanges speeds .track (by decide)
  have later : (s.odometryWork p).track = (s.beforeDistance p).track :=
    State.same_of_onlyChanges ((((State.onlyChanges_refl (s.beforeDistance p) [.odo, .sup, .link]).step
      (State.distanceWork_onlyChanges p _) (by decide)).step (State.adoptionWork_onlyChanges p _) (by decide)).step
      (State.standstillWork_onlyChanges _) (by decide)) .track (by decide)
  have before : (s.wheelWork p).speedWork.sourceWork.odo.direction = s.odo.direction := by
    obtain ⟨l, r, wheels⟩ := s.wheelWork_odo p
    rw [State.sourceWork_odo, State.speedWork_odo, wheels]
    rfl
  obtain ⟨-, -, -, -, -, after, -⟩ := s.odometryWork_fields p
  rw [later, after]
  unfold State.beforeDistance
  generalize (s.wheelWork p).speedWork.sourceWork = t at track before
  rw [State.directionWork_odo, ← track, ← before]
  unfold State.directionWork
  dsimp only
  by_cases turns : t.driverField DriverContent.direction t.odo.direction = .reverse ∧ t.odo.direction ≠ .reverse
  · rw [if_pos turns, if_pos turns, State.clearTrack_track]
    rfl
  · rw [if_neg turns, if_neg turns]
    rfl

end

theorem Wheel.measure_speed (w : Wheel) (p : Params) (now : Micros) :
    (w.measure p now).speed =
      if w.lastEdge.any (fun e => 250000 ≤ now - e) then 0
      else match w.capture with
        | some c => min 3000 (roundNat (p.circumference * 100000) (p.teeth * c))
        | none => 0 := by
  have late : w.timedOut now = w.lastEdge.any (fun e => 250000 ≤ now - e) := by
    unfold Wheel.timedOut
    cases w.lastEdge <;> rfl
  unfold Wheel.measure
  rw [late]
  cases w.lastEdge.any (fun e => 250000 ≤ now - e) <;> rfl

theorem roundNat_one (n : Nat) : roundNat n 1 = n := by
  unfold roundNat
  omega

/-- The odometry that a speed expiry leaves, where the window stays as it is. -/
theorem State.settle_odo_of_rests {s : State} (h : s.windowRests) : s.settle.odo = s.odo := by
  rw [State.settle_odo, h.closeIfIdle]

section
variable (s : State) (p : Params)

/-- The axle speed and its flag, by the wheels that are excluded (R48). -/
theorem State.odometryWork_axle :
    ((s.odometryWork p).odo.left.excluded = false → (s.odometryWork p).odo.right.excluded = false →
      (s.odometryWork p).odo.axleSpeed =
        roundNat ((s.odometryWork p).odo.left.speed + (s.odometryWork p).odo.right.speed) 2
      ∧ (s.odometryWork p).odo.speedValid = true)
    ∧ ((s.odometryWork p).odo.left.excluded = true → (s.odometryWork p).odo.right.excluded = false →
      (s.odometryWork p).odo.axleSpeed = (s.odometryWork p).odo.right.speed ∧ (s.odometryWork p).odo.speedValid = true)
    ∧ ((s.odometryWork p).odo.left.excluded = false → (s.odometryWork p).odo.right.excluded = true →
      (s.odometryWork p).odo.axleSpeed = (s.odometryWork p).odo.left.speed ∧ (s.odometryWork p).odo.speedValid = true)
    ∧ ((s.odometryWork p).odo.left.excluded = true → (s.odometryWork p).odo.right.excluded = true →
      (s.odometryWork p).odo.axleSpeed = 0 ∧ (s.odometryWork p).odo.speedValid = false) := by
  obtain ⟨axle, valid, -⟩ := s.odometryWork_axleSpeed p
  generalize (s.odometryWork p).odo = o at axle valid
  rw [axle, valid]
  unfold Odometry.usedSpeeds
  refine ⟨fun l r => ?_, fun l r => ?_, fun l r => ?_, fun l r => ?_⟩ <;> rw [l, r]
  · exact ⟨rfl, rfl⟩
  · exact ⟨roundNat_one _, rfl⟩
  · exact ⟨roundNat_one _, rfl⟩
  · exact ⟨roundNat_one 0, rfl⟩

/-- The borrow time (R52). -/
theorem State.odometryWork_borrowTime :
    ((s.odometryWork p).odo.source = .own → (s.odometryWork p).odo.borrowTime = 0)
    ∧ ((s.odometryWork p).odo.source = .borrowed →
      (s.odometryWork p).odo.borrowTime = if s.odo.source = .borrowed then s.odo.borrowTime + 10 else 0) := by
  obtain ⟨source, borrow, -⟩ := s.odometryWork_source p
  rw [source, borrow]
  cases (s.wheelWork p).borrows with
  | true => exact ⟨fun own => absurd own (by decide), fun _ => rfl⟩
  | false => exact ⟨fun _ => rfl, fun borrowed => absurd borrowed (by decide)⟩

/-- The carry of one expiry (R51). -/
theorem State.odometryWork_halfCarry {sum : Nat}
    (total : sum = s.odo.left.wholeMicrometres p + s.odo.right.wholeMicrometres p + s.odo.halfCarry) :
    ((s.odometryWork p).odo.source = .own ∧ (s.odometryWork p).odo.left.excluded = false
        ∧ (s.odometryWork p).odo.right.excluded = false → (s.odometryWork p).odo.halfCarry = sum % 2)
    ∧ ((s.odometryWork p).odo.source = .borrowed ∨ (s.odometryWork p).odo.left.excluded = true
        ∨ (s.odometryWork p).odo.right.excluded = true → (s.odometryWork p).odo.halfCarry = s.odo.halfCarry) := by
  obtain ⟨-, -, -, -, -, -, carry, -⟩ := s.odometryWork_fields p
  rw [carry, State.beforeDistance_axleIncrement, ← total]
  refine ⟨fun ⟨own, l, r⟩ => ?_, fun apart => ?_⟩
  · rw [own, l, r]
    rfl
  · by_cases borrowed : (s.odometryWork p).odo.source = .borrowed
    · rw [if_pos borrowed]
    · rw [if_neg borrowed]
      by_cases l : (s.odometryWork p).odo.left.excluded = true
      · rw [if_pos l]
      · rw [if_neg l, if_pos ((apart.resolve_left borrowed).resolve_left l)]

/-- The mark that one expiry makes of the mark it finds (R51, R54). -/
theorem State.odometryWork_distance {sum axle path total : Nat}
    (sumIs : sum = s.odo.left.wholeMicrometres p + s.odo.right.wholeMicrometres p + s.odo.halfCarry)
    (axleIs : axle =
      (if (s.odometryWork p).odo.source = .borrowed then (s.odometryWork p).odo.reference * 100
      else if (s.odometryWork p).odo.left.excluded then s.odo.right.wholeMicrometres p
      else if (s.odometryWork p).odo.right.excluded then s.odo.left.wholeMicrometres p
      else sum / 2))
    (pathIs : path =
      (if s.isCab = true ∧ s.hasCondition .steerInput = false then timesCos axle s.path.frontAngle else axle))
    (totalIs : total = s.odo.markAccumulator + path) (valid : s.odo.markValid = true) :
    (s.odometryWork p).odo.markValid = true
    ∧ ((s.odometryWork p).odo.direction = .reverse ∨ s.odo.saturated = true →
        (s.odometryWork p).odo.mark = s.odo.mark ∧ (s.odometryWork p).odo.markAccumulator = s.odo.markAccumulator
        ∧ (s.odometryWork p).odo.saturated = s.odo.saturated
        ∧ (s.odometryWork p).hasCondition .odometerSaturated = s.hasCondition .odometerSaturated)
    ∧ ((s.odometryWork p).odo.direction ≠ .reverse → s.odo.saturated = false →
        (s.odo.mark + total / 10000 ≤ 4000000000 →
          (s.odometryWork p).odo.mark = s.odo.mark + total / 10000
          ∧ (s.odometryWork p).odo.markAccumulator = total % 10000
          ∧ (s.odometryWork p).odo.saturated = false
          ∧ (s.odometryWork p).hasCondition .odometerSaturated = s.hasCondition .odometerSaturated)
        ∧ (4000000000 < s.odo.mark + total / 10000 →
          (s.odometryWork p).odo.mark = 4000000000 ∧ (s.odometryWork p).odo.markAccumulator = 0
          ∧ (s.odometryWork p).odo.saturated = true
          ∧ (s.odometryWork p).hasCondition .odometerSaturated = true)) := by
  obtain ⟨-, -, -, accumulator, mark, flag, saturated⟩ := s.beforeDistance_keeps p
  obtain ⟨-, -, -, -, -, direction, -⟩ := s.odometryWork_fields p
  obtain ⟨mark', accumulator', valid', saturated', condition'⟩ := s.odometryWork_mark (p := p) valid
  obtain ⟨-, rests, counts⟩ := (s.beforeDistance p).distanceWork_mark p
  have condition : (s.beforeDistance p).hasCondition .odometerSaturated = s.hasCondition .odometerSaturated :=
    (s.beforeDistance_hasCondition p (by decide)).trans (s.wheelWork_hasCondition p (by decide))
  have increment : ((s.beforeDistance p).odo.axleIncrement p).1 = axle := by
    rw [State.beforeDistance_axleIncrement, ← sumIs, axleIs, apply_ite Prod.fst, apply_ite Prod.fst, apply_ite Prod.fst]
  have path' : (s.beforeDistance p).pathIncrement ((s.beforeDistance p).odo.axleIncrement p).1 = path := by
    rw [State.beforeDistance_pathIncrement, increment, pathIs]
  rw [accumulator, mark, saturated, condition] at rests
  rw [accumulator, mark, saturated, condition, path'] at counts
  rw [mark', accumulator', saturated', condition', direction]
  refine ⟨valid', fun away => rests (Bool.eq_false_iff.mpr fun on => ?_), fun along clear => ?_⟩
  · obtain ⟨-, forward, clear⟩ := (State.countsDistance_iff _).mp on
    exact away.elim forward fun set => absurd (set.symm.trans (saturated.symm.trans clear)) (by decide)
  · have on := (State.countsDistance_iff _).mpr ⟨flag.trans valid, along, saturated.trans clear⟩
    rw [clear] at counts
    exact counts on total totalIs

end

/-- Settles O27. -/
theorem speedExpirySetsSpeedsAndCountsDistance : Obligations.speed_expiry_sets_speeds_and_counts_distance := by
  intro dt s p timers copy rests
  have work := State.speedExpiry_eq (s := s.advance dt) timers copy
  have rests' : ((s.advance dt).odometryWork p).windowRests :=
    State.odometryWork_windowRests (s := s.advance dt) rests p
  have odo := State.settle_odo_of_rests rests'
  have track := State.settle_track ((s.advance dt).odometryWork p)
  have present := State.hasCondition_settle ((s.advance dt).odometryWork p)
  have frame : (s.advance dt).onlyChanges [.odo, .track, .link, .sup, .doors] ((s.advance dt).odometryWork p).settle :=
    (State.onlyChanges_mono ((s.advance dt).odometryWork_onlyChanges (p := p)) (by decide)).step
      (State.settle_onlyChanges_of_stays rests'.closeIfIdle) (by decide)
  refine completes_of work ?_
  clear work
  generalize ((s.advance dt).odometryWork p).settle = t at odo track present frame
  rw [odo, track]
  simp only [present]
  obtain ⟨both, right, left, none⟩ := (s.advance dt).odometryWork_axle p
  obtain ⟨own, borrowed⟩ := (s.advance dt).odometryWork_borrowTime p
  obtain ⟨-, -, reference⟩ := (s.advance dt).odometryWork_axleSpeed p
  obtain ⟨-, -, direction⟩ := (s.advance dt).odometryWork_source p
  refine ⟨fun side => ((s.advance dt).odometryWork_wheel p side).1.trans (Wheel.measure_speed ..), both, right, left, none,
    own, borrowed, reference, (s.advance dt).odometryWork_borrowed p, direction, (s.advance dt).odometryWork_track p,
    ((s.advance dt).odometryWork_wheel p .left).2.1, ((s.advance dt).odometryWork_wheel p .right).2.1,
    fun sum sumIs => ?_, fun absent after => (s.advance dt).odometryWork_mark_of_none absent after, frame⟩
  obtain ⟨carried, kept⟩ := (s.advance dt).odometryWork_halfCarry p sumIs
  exact ⟨carried, kept, fun axle path total axleIs pathIs totalIs valid =>
    (s.advance dt).odometryWork_distance p sumIs axleIs pathIs totalIs valid⟩

end Sys2Proof.Machine
end

section
/-! PROOFS. Wheel timeout and plausibility, standstill, and the adoption of marks (R5, R44, R46, R55 to R58): O28 to O30. -/

namespace Sys2Proof.Machine

/-! ## The odometry of an expiry that may close the window -/

theorem Odometry.excludes.wheel {o x : Odometry} (h : o.excludes x) (side : Side) :
    ∃ e, x.wheel side = { o.wheel side with excluded := e } := by
  obtain ⟨l, r, rfl⟩ := h
  cases side
  · exact ⟨l, rfl⟩
  · exact ⟨r, rfl⟩

/-- Where the block works, a row of the expiry that comes to its outcome is the whole expiry. -/
theorem State.expiryIf_of {s after : State} {happens : Bool} (h : happens = true) : s.expiryIf after happens = after := by
  rw [h]
  rfl

/-- A wheel after an expiry: measured and judged, with its fraction kept (R44, R46, R50). -/
theorem State.odometryWork_wheel_judged (s : State) (p : Params) (side : Side) :
    ∃ e, (s.odometryWork p).odo.wheel side =
      { (s.odo.judged p s.now).wheel side with
        excluded := e, accumulator := ((s.odo.judged p s.now).wheel side).accumulator % p.teeth } := by
  obtain ⟨_, _, _, _, odo⟩ := s.odometryWork_odo p
  obtain ⟨l, r, wheels⟩ := s.wheelWork_odo p
  rw [odo]
  unfold State.takeWholes
  rw [State.setOdo_odo, State.beforeDistance_odo, wheels]
  cases side
  · exact ⟨l, rfl⟩
  · exact ⟨r, rfl⟩

theorem State.speedExpiry_wheel {s : State} {p : Params} (timers : s.timersRun = true) (copy : s.loader.copy = some p)
    (side : Side) :
    ∃ e, s.speedExpiry.odo.wheel side =
      { (s.odo.judged p s.now).wheel side with
        excluded := e, accumulator := ((s.odo.judged p s.now).wheel side).accumulator % p.teeth } := by
  obtain ⟨e, wheel⟩ := s.odometryWork_wheel_judged p side
  obtain ⟨f, excluded⟩ := (State.settle_odo_excludes (s.odometryWork p)).wheel side
  rw [State.speedExpiry_eq timers copy, excluded, wheel]
  exact ⟨f, rfl⟩

theorem Odometry.judged_wheel (o : Odometry) (p : Params) (now : Micros) (side : Side) :
    (o.judged p now).wheel side = ((o.wheel side).measure p now).judge ((o.wheel (otherSide side)).measure p now) := by
  cases side <;> rfl

/-! ## The timeout and the plausibility failure of a wheel: O28 -/

theorem Wheel.measure_of_timedOut {w : Wheel} {now : Micros} (late : w.timedOut now = true) (p : Params) :
    w.measure p now = { w with speed := 0, capture := none, lastEdge := none } := if_pos late

theorem Wheel.timedOut_of {w : Wheel} {e now : Micros} (edge : w.lastEdge = some e) (late : 250000 ≤ now - e) :
    w.timedOut now = true := by
  unfold Wheel.timedOut
  rw [edge]
  exact decide_eq_true late

theorem Wheel.measure_implausible (w : Wheel) (p : Params) (now : Micros) :
    (w.measure p now).implausible = w.implausible :=
  ite_keeps (P := fun x : Wheel => x.implausible = w.implausible) rfl rfl

/-- The 200th failure in a row completes the run. -/
theorem Wheel.judge_of_last {w other : Wheel} (stands : w.speed = 0) (moves : 500 < other.speed)
    (run : w.implausible = 199) : (w.judge other).implausible = 200 := by
  unfold Wheel.judge
  rw [run]
  exact if_pos ⟨stands, moves⟩

theorem Wheel.faulty_of_run {w : Wheel} (run : w.implausible = 200) : w.faulty = true := by
  unfold Wheel.faulty
  rw [run]
  exact Bool.or_true _

theorem State.followWheel_hasCondition (s : State) (side : Side) (arises : Bool) (d : FaultCode) :
    (s.followWheel side arises).hasCondition d =
      if d = wheelFault side then arises || (s.odo.wheel side).faulty else s.hasCondition d := by
  unfold State.followWheel
  cases arises with
  | true =>
    refine (State.hasCondition_raiseFault ..).trans ?_
    by_cases is : d = wheelFault side
    · rw [if_pos is, beq_iff_eq.mpr is, Bool.or_true]
      rfl
    · rw [if_neg is, beq_eq_false_iff_ne.mpr is, Bool.or_false]
  | false => exact State.hasCondition_follow ..

theorem Odometry.excludes.faulty {o x : Odometry} (h : o.excludes x) (side : Side) :
    (x.wheel side).faulty = (o.wheel side).faulty := by
  obtain ⟨e, wheel⟩ := h.wheel side
  rw [wheel]
  rfl

/-- A wheel whose run is complete after the judgement has its fault present (R46). -/
theorem State.wheelWork_hasCondition_of_faulty {s : State} {p : Params} {side : Side}
    (faulty : ((s.odo.judged p s.now).wheel side).faulty = true) :
    (s.wheelWork p).hasCondition (wheelFault side) = true := by
  unfold State.wheelWork State.followBoth
  refine (State.hasCondition_follow ..).trans ((if_neg (wheelFault_ne_both side)).trans ?_)
  cases side
  · refine (State.followWheel_hasCondition ..).trans ((if_neg (by decide)).trans ?_)
    refine (State.followWheel_hasCondition ..).trans ((if_pos rfl).trans ?_)
    exact (congrArg (Bool.or _) faulty).trans (Bool.or_true _)
  · refine (State.followWheel_hasCondition ..).trans ((if_pos rfl).trans ?_)
    have same := (State.followWheel_odo (s.setOdo (s.odo.judged p s.now)) .left
      (s.odo.left.reachesRun ((s.odo.left.measure p s.now).judge (s.odo.right.measure p s.now)))).faulty .right
    exact (congrArg (Bool.or _) (same.trans faulty)).trans (Bool.or_true _)

/-- Settles O28. -/
theorem wheelTimeoutAndPlausibility : Obligations.wheel_timeout_and_plausibility := by
  intro dt side s p timers copy
  obtain ⟨e, wheel⟩ := State.speedExpiry_wheel (s := s.advance dt) timers copy side
  rw [Odometry.judged_wheel] at wheel
  refine ⟨fun edge last late => ?_, fun stands moves run => ?_⟩
  · have out : ((s.advance dt).odo.wheel side).timedOut (s.advance dt).now = true := Wheel.timedOut_of last late
    have timers' : (s.advance dt).timersRun = true := timers
    have copied : (s.advance dt).hasCopy = true := by
      unfold State.hasCopy
      rw [show (s.advance dt).loader.copy = some p from copy]
      rfl
    have happens : ((s.advance dt).timersRun && (s.advance dt).hasCopy
        && ((s.advance dt).odo.wheel side).timedOut (s.advance dt).now) = true := by
      rw [timers', copied, out]
      rfl
    rw [Wheel.measure_of_timedOut out] at wheel
    have work : (s.advance dt).zeroSpeedTimeout side = (s.advance dt).speedExpiry := State.expiryIf_of happens
    refine completes_of work ⟨?_, ?_, ?_, State.speedExpiry_onlyChanges _⟩ <;> rw [wheel] <;> rfl
  · have complete := Wheel.judge_of_last stands moves ((Wheel.measure_implausible ..).trans run)
    have faulty : (((s.advance dt).odo.judged p (s.advance dt).now).wheel side).faulty = true := by
      rw [Odometry.judged_wheel]
      exact Wheel.faulty_of_run complete
    have after : ((s.advance dt).speedExpiry.odo.wheel side).implausible = 200 := by
      rw [wheel]
      exact complete
    have happens : ((s.advance dt).odo.wheel side).reachesRun ((s.advance dt).speedExpiry.odo.wheel side) = true := by
      unfold Wheel.reachesRun
      rw [after, show ((s.advance dt).odo.wheel side).implausible = 199 from run]
      rfl
    have work : (s.advance dt).plausibilityFail side = (s.advance dt).speedExpiry := State.expiryIf_of happens
    refine completes_of work ⟨after, ?_, ?_, State.speedExpiry_onlyChanges _⟩
    · rw [State.speedExpiry_eq (s := s.advance dt) timers copy, State.hasCondition_settle,
        State.odometryWork_hasCondition _ _ (by cases side <;> decide) (by cases side <;> decide)]
      exact State.wheelWork_hasCondition_of_faulty faulty
    · rw [wheel]
      exact stands

/-! ## Standstill (R57, R58): O29 -/

/-- The state before the standstill step. -/
def State.beforeStandstill (s : State) (p : Params) : State := ((s.beforeDistance p).distanceWork p).adoptionWork p

section
variable (s : State) (p : Params)

theorem State.odometryWork_standstill : s.odometryWork p = (s.beforeStandstill p).standstillWork := rfl

theorem State.beforeStandstill_onlyChanges : s.onlyChanges [.odo, .sup, .track] (s.beforeStandstill p) :=
  ((s.beforeDistance_onlyChanges p).step (State.distanceWork_onlyChanges p _) (by decide)).step
    (State.adoptionWork_onlyChanges p _) (by decide)

theorem State.peerSpeeds_of_same {s t : State} (h : t.peers = s.peers) : t.peerSpeeds = s.peerSpeeds := by
  unfold State.peerSpeeds State.presentContents
  rw [h]

/-- The fields that the standstill step finds: the speeds of the expiry, and the flag and run of the last. -/
theorem State.beforeStandstill_odo :
    (s.beforeStandstill p).odo.terms s.peerSpeeds = (s.odometryWork p).odo.terms s.peerSpeeds
    ∧ (s.beforeStandstill p).odo.speedValid = (s.odometryWork p).odo.speedValid
    ∧ (s.beforeStandstill p).odo.reference = (s.odometryWork p).odo.reference
    ∧ (s.beforeStandstill p).odo.standstill = s.odo.standstill ∧ (s.beforeStandstill p).odo.setRun = s.odo.setRun := by
  obtain ⟨_, _, _, distance⟩ := (s.beforeDistance p).distanceWork_odo p
  obtain ⟨_, _, _, adoption⟩ := ((s.beforeDistance p).distanceWork p).adoptionWork_odo p
  obtain ⟨l, r, wheels⟩ := s.wheelWork_odo p
  refine ⟨?_, ?_, ?_, ?_, ?_⟩
  · rw [State.odometryWork_standstill, State.standstillWork_odo]
    generalize s.beforeStandstill p = b
    rfl
  · rw [State.odometryWork_standstill, State.standstillWork_odo]
  · rw [State.odometryWork_standstill, State.standstillWork_odo]
  · unfold State.beforeStandstill
    rw [adoption, distance]
    unfold State.takeWholes
    rw [State.setOdo_odo, State.beforeDistance_odo, wheels]
    rfl
  · unfold State.beforeStandstill
    rw [adoption, distance]
    unfold State.takeWholes
    rw [State.setOdo_odo, State.beforeDistance_odo, wheels]
    rfl

theorem State.speedTerms_eq : s.speedTerms = s.odo.terms s.peerSpeeds := rfl

theorem State.beforeStandstill_terms :
    (s.beforeStandstill p).speedTerms = (s.odometryWork p).odo.terms s.peerSpeeds := by
  rw [State.speedTerms_eq, State.peerSpeeds_of_same
    (State.same_of_onlyChanges (s.beforeStandstill_onlyChanges p) .peers (by decide))]
  exact (s.beforeStandstill_odo p).1

/-- The set run after an expiry, and the flag by its terms (R57). -/
theorem State.odometryWork_setRun :
    (s.odometryWork p).odo.setRun =
      (if (∀ v ∈ (s.odometryWork p).odo.terms s.peerSpeeds, v < 10)
          ∧ ((s.odometryWork p).odo.speedValid = true ∨ s.peerSpeeds ≠ []) then min 20 (s.odo.setRun + 1)
        else 0)
    ∧ (s.odometryWork p).odo.standstill =
      (!((s.odometryWork p).odo.terms s.peerSpeeds).any (fun v => 30 < v)
        && (s.odo.standstill || (s.odometryWork p).odo.setRun == 20)) := by
  obtain ⟨-, valid, -, flag, run⟩ := s.beforeStandstill_odo p
  have terms := s.beforeStandstill_terms p
  have peers := State.peerSpeeds_of_same (State.same_of_onlyChanges (s.beforeStandstill_onlyChanges p) .peers (by decide))
  have set : (s.odometryWork p).odo.setRun = (s.beforeStandstill p).nextSetRun := by
    rw [State.odometryWork_standstill, State.standstillWork_odo]
  have stands : (s.odometryWork p).odo.standstill = (!(s.beforeStandstill p).speedTerms.any (fun v => 30 < v)
      && ((s.beforeStandstill p).odo.standstill || (s.beforeStandstill p).nextSetRun == 20)) := by
    rw [State.odometryWork_standstill, State.standstillWork_odo]
  rw [stands, terms, flag, ← set]
  refine ⟨?_, rfl⟩
  have rests : (s.beforeStandstill p).restsNow = true ↔ (∀ v ∈ (s.odometryWork p).odo.terms s.peerSpeeds, v < 10)
      ∧ ((s.odometryWork p).odo.speedValid = true ∨ s.peerSpeeds ≠ []) := by
    unfold State.restsNow
    rw [terms, peers, valid]
    simp
  rw [set, State.nextSetRun, run]
  exact if_congr rests rfl rfl

/-- The link engine takes ALERT STANDSTILL_LOST where the flag clears under a grant, and is left alone otherwise (R58). -/
theorem State.odometryWork_link :
    (s.odo.standstill = true → (s.odometryWork p).odo.standstill = false →
        s.doors.slot0.grant = true ∨ s.doors.slot1.grant = true →
      ∃ q : Queued, (s.odometryWork p).link.alerts =
          (if s.link.alerts.length < 2 then s.link.alerts else s.link.alerts.tail) ++ [q]
        ∧ q.frame =
          { identifier := s.station
            payload := encodeAlert
              { kind := .standstillLost, station := s.station, slot := 255, value := (s.odometryWork p).odo.reference } })
    ∧ (s.odo.standstill = false ∨ (s.odometryWork p).odo.standstill = true
        ∨ (s.doors.slot0.grant = false ∧ s.doors.slot1.grant = false) → (s.odometryWork p).link = s.link) := by
  have changes := s.beforeStandstill_onlyChanges p
  have link : (s.beforeStandstill p).link = s.link := State.same_of_onlyChanges changes .link (by decide)
  have doors : (s.beforeStandstill p).doors = s.doors := State.same_of_onlyChanges changes .doors (by decide)
  have loader : (s.beforeStandstill p).loader = s.loader := State.same_of_onlyChanges changes .loader (by decide)
  obtain ⟨-, -, reference, flag, -⟩ := s.beforeStandstill_odo p
  obtain ⟨-, stands⟩ := s.odometryWork_setRun p
  obtain ⟨u, shape, work⟩ := (s.beforeStandstill p).standstillWork_eq
  rw [flag, reference, s.beforeStandstill_terms p, doors] at work
  have link' : u.link = s.link := by rw [shape, State.setOdo_link, link]
  have station : u.station = s.station := by
    unfold State.station
    rw [shape, State.setOdo_loader, loader]
  refine ⟨fun stood moved grant => ?_, fun quiet => ?_⟩
  · have lost : (s.odo.standstill && ((s.odometryWork p).odo.terms s.peerSpeeds).any (fun v => 30 < v)
        && s.doors.anyGrant) = true := by
      rw [stood, moved] at stands
      have moves : ((s.odometryWork p).odo.terms s.peerSpeeds).any (fun v => 30 < v) = true := by simpa using stands.symm
      rw [stood, moves]
      simpa [DoorInterlock.anyGrant] using grant
    obtain ⟨q, frame, few, full⟩ := u.queueAlert_link .standstillLost 255 (s.odometryWork p).odo.reference
    rw [station] at frame
    rw [link'] at few full
    rw [if_pos lost] at work
    refine ⟨q, ?_, frame⟩
    rw [State.odometryWork_standstill, work]
    by_cases room : s.link.alerts.length < 2
    · rw [few room, if_pos room]
      rfl
    · rw [full (Nat.not_lt.mp room), if_neg room]
      rfl
  · have silent : ¬(s.odo.standstill && ((s.odometryWork p).odo.terms s.peerSpeeds).any (fun v => 30 < v)
        && s.doors.anyGrant) = true := by
      rintro lost
      obtain ⟨both, grant⟩ := Bool.and_eq_true_iff.mp lost
      obtain ⟨stood, moves⟩ := Bool.and_eq_true_iff.mp both
      rcases quiet with rested | stays | ⟨none0, none1⟩
      · exact absurd (stood.symm.trans rested) (by decide)
      · rw [stays, moves] at stands
        exact absurd stands.symm (by simp)
      · simp [DoorInterlock.anyGrant, none0, none1] at grant
    rw [State.odometryWork_standstill, work, if_neg silent, link']

end

/-- The speed terms are those that the speed step formed. -/
theorem State.speedWork_terms (s : State) (p : Params) :
    (s.wheelWork p).speedWork.speedTerms = (s.odometryWork p).odo.terms s.peerSpeeds
    ∧ (s.wheelWork p).speedWork.odo.speedValid = (s.odometryWork p).odo.speedValid := by
  obtain ⟨axle, valid, reference, -⟩ := s.odometryWork_fields p
  have changes := (s.wheelWork_onlyChanges p).step (State.speedWork_onlyChanges _) (by decide)
  have peers := State.peerSpeeds_of_same (State.same_of_onlyChanges changes .peers (by decide))
  rw [State.speedTerms_eq, peers]
  unfold Odometry.terms
  rw [axle, valid, reference, State.beforeDistance_odo, State.speedWork_odo]
  exact ⟨rfl, rfl⟩

theorem Odometry.excludes.terms {o x : Odometry} (h : o.excludes x) (peers : List Nat) :
    x.terms peers = o.terms peers ∧ x.speedValid = o.speedValid ∧ x.reference = o.reference ∧ x.setRun = o.setRun
    ∧ x.standstill = o.standstill ∧ x.mark = o.mark ∧ x.markAccumulator = o.markAccumulator
    ∧ x.markValid = o.markValid ∧ x.saturated = o.saturated := by
  obtain ⟨l, r, rfl⟩ := h
  exact ⟨rfl, rfl, rfl, rfl, rfl, rfl, rfl, rfl, rfl⟩

/-- So it is with the state that the settling leaves (R57). -/
theorem State.speedExpiry_setRun {s : State} {p : Params} (timers : s.timersRun = true) (copy : s.loader.copy = some p) :
    s.speedExpiry.odo.setRun =
      (if (∀ v ∈ s.speedExpiry.odo.terms s.peerSpeeds, v < 10)
          ∧ (s.speedExpiry.odo.speedValid = true ∨ s.peerSpeeds ≠ []) then min 20 (s.odo.setRun + 1)
        else 0)
    ∧ s.speedExpiry.odo.standstill =
      (!(s.speedExpiry.odo.terms s.peerSpeeds).any (fun v => 30 < v)
        && (s.odo.standstill || s.speedExpiry.odo.setRun == 20))
    ∧ (s.wheelWork p).speedWork.speedTerms = s.speedExpiry.odo.terms s.peerSpeeds
    ∧ (s.wheelWork p).speedWork.odo.speedValid = s.speedExpiry.odo.speedValid := by
  obtain ⟨terms, valid, -, run, flag, -⟩ := (State.settle_odo_excludes (s.odometryWork p)).terms s.peerSpeeds
  obtain ⟨setRun, stands⟩ := s.odometryWork_setRun p
  obtain ⟨formed, formedValid⟩ := s.speedWork_terms p
  rw [State.speedExpiry_eq timers copy]
  refine ⟨(run.trans setRun).trans (if_congr (by rw [terms, valid]) rfl rfl), ?_, formed.trans terms.symm,
    formedValid.trans valid.symm⟩
  rw [flag, run, terms]
  exact stands

theorem State.speedExpiry_link {s : State} {p : Params} (timers : s.timersRun = true) (copy : s.loader.copy = some p) :
    (s.odo.standstill = true → s.speedExpiry.odo.standstill = false →
        s.doors.slot0.grant = true ∨ s.doors.slot1.grant = true →
      ∃ q : Queued, s.speedExpiry.link.alerts =
          (if s.link.alerts.length < 2 then s.link.alerts else s.link.alerts.tail) ++ [q]
        ∧ q.frame =
          { identifier := s.station
            payload := encodeAlert
              { kind := .standstillLost, station := s.station, slot := 255, value := s.speedExpiry.odo.reference } })
    ∧ (s.odo.standstill = false ∨ s.speedExpiry.odo.standstill = true
        ∨ (s.doors.slot0.grant = false ∧ s.doors.slot1.grant = false) → s.speedExpiry.link = s.link) := by
  obtain ⟨-, -, reference, -, flag, -⟩ := (State.settle_odo_excludes (s.odometryWork p)).terms s.peerSpeeds
  rw [State.speedExpiry_eq timers copy, reference, flag, State.settle_link]
  exact s.odometryWork_link p

/-- Settles O29. -/
theorem standstillIsSetAndCleared : Obligations.standstill_is_set_and_cleared := by
  intro dt s p timers copy
  have changes := (s.advance dt).speedExpiry_onlyChanges
  obtain ⟨setRun, stands, formed, formedValid⟩ := State.speedExpiry_setRun (s := s.advance dt) timers copy
  obtain ⟨alert, quiet⟩ := State.speedExpiry_link (s := s.advance dt) timers copy
  refine ⟨fun moved last low some => ?_, completes_of rfl ⟨setRun, fun fast => ?_, fun slow => ?_, alert, quiet, changes⟩⟩
  · rw [formed] at low
    rw [formedValid] at some
    have below : ∀ v ∈ (s.advance dt).speedExpiry.odo.terms (s.advance dt).peerSpeeds, v < 10 := by simpa using low
    have still : ((s.advance dt).speedExpiry.odo.terms (s.advance dt).peerSpeeds).any (fun v => 30 < v) = false :=
      List.any_eq_false.mpr fun v mem => by
        have few := below v mem
        rw [decide_eq_true_iff]
        omega
    have moved' : (s.advance dt).odo.standstill = false := moved
    have run : (s.advance dt).speedExpiry.odo.setRun = 20 := by
      rw [setRun, if_pos ⟨below, some⟩, show (s.advance dt).odo.setRun = 19 from last]
      rfl
    have set : (s.advance dt).speedExpiry.odo.standstill = true := by
      rw [stands, still, run]
      exact Bool.or_true _
    have happens : (!(s.advance dt).odo.standstill && (s.advance dt).speedExpiry.odo.standstill) = true := by
      rw [set, moved']
      rfl
    have whole : (s.advance dt).standstillSet = (s.advance dt).speedExpiry := State.expiryIf_of happens
    exact completes_of whole ⟨set, run, changes⟩
  · obtain ⟨v, mem, above⟩ := fast
    have moves : ((s.advance dt).speedExpiry.odo.terms (s.advance dt).peerSpeeds).any (fun v => 30 < v) = true :=
      List.any_eq_true.mpr ⟨v, mem, decide_eq_true above⟩
    refine stands.trans ?_
    rw [moves]
    rfl
  · have still : ((s.advance dt).speedExpiry.odo.terms (s.advance dt).peerSpeeds).any (fun v => 30 < v) = false :=
      List.any_eq_false.mpr fun v mem => by simpa using slow v mem
    refine stands.trans ?_
    rw [still]
    rfl

/-! ## Adoption (R5, R55, R56): O30 -/

theorem Supervisor.syncFrom_of_stand {u v : Supervisor} (h : u.stand = v.stand) : u.syncFrom = v.syncFrom := by
  have k : u.stand.syncFrom = v.stand.syncFrom := by rw [h]
  exact k

/-- The state before the adoption step. -/
def State.beforeAdoption (s : State) (p : Params) : State := (s.beforeDistance p).distanceWork p

section
variable (s : State) (p : Params)

theorem State.beforeAdoption_onlyChanges : s.onlyChanges [.odo, .sup, .track] (s.beforeAdoption p) :=
  (s.beforeDistance_onlyChanges p).step (State.distanceWork_onlyChanges p _) (by decide)

theorem State.beforeAdoption_stand : (s.beforeAdoption p).sup.stand = s.sup.stand := by
  have source := State.same_of_onlyChanges (State.sourceWork_onlyChanges (s.wheelWork p).speedWork) .sup (by decide)
  have speeds := State.same_of_onlyChanges (State.speedWork_onlyChanges (s.wheelWork p)) .sup (by decide)
  unfold State.beforeAdoption State.beforeDistance
  rw [State.distanceWork_stand, State.directionWork_stand, source, speeds, State.wheelWork_stand]

theorem State.beforeAdoption_saturated :
    (s.beforeAdoption p).odo.markValid = s.odo.markValid
    ∧ (s.odo.markValid = false → (s.beforeAdoption p).odo.saturated = s.odo.saturated
      ∧ (s.beforeAdoption p).hasCondition .odometerSaturated = s.hasCondition .odometerSaturated) := by
  obtain ⟨-, -, -, -, -, valid, saturated⟩ := s.beforeDistance_keeps p
  obtain ⟨kept, rests, -⟩ := (s.beforeDistance p).distanceWork_mark p
  refine ⟨kept.trans valid, fun none => ?_⟩
  have still : (s.beforeDistance p).countsDistance = false := by
    simp [State.countsDistance, valid.trans none]
  obtain ⟨-, -, set, condition⟩ := rests still
  exact ⟨set.trans saturated, condition.trans
    ((s.beforeDistance_hasCondition p (by decide)).trans (s.wheelWork_hasCondition p (by decide)))⟩

/-- What adoption looks at is as the expiry found it. -/
theorem State.beforeAdoption_adopts :
    (s.beforeAdoption p).cabAdopts = s.cabAdopts ∧ (s.beforeAdoption p).rearAdopts = s.rearAdopts
    ∧ (s.beforeAdoption p).cabMark = s.cabMark ∧ (s.beforeAdoption p).cabContent = s.cabContent := by
  have changes := s.beforeAdoption_onlyChanges p
  have peers : (s.beforeAdoption p).peers = s.peers := State.same_of_onlyChanges changes .peers (by decide)
  have loader : (s.beforeAdoption p).loader = s.loader := State.same_of_onlyChanges changes .loader (by decide)
  have now : (s.beforeAdoption p).now = s.now := changes.2.1
  have stand := s.beforeAdoption_stand p
  have sync : (s.beforeAdoption p).sup.syncFrom = s.sup.syncFrom :=
    Supervisor.syncFrom_of_stand stand
  have working := State.working_of_stand stand
  have content : (s.beforeAdoption p).cabContent = s.cabContent := by
    unfold State.cabContent State.peer
    rw [peers]
  have reached (span : Micros) : (s.beforeAdoption p).reached (s.beforeAdoption p).sup.syncFrom span =
      s.reached s.sup.syncFrom span := by
    unfold State.reached State.elapsed
    rw [sync, now]
  have cab : (s.beforeAdoption p).isCab = s.isCab := by
    unfold State.isCab State.station
    rw [loader]
  refine ⟨?_, ?_, ?_, content⟩
  · unfold State.cabAdopts
    rw [cab, working, reached, (s.beforeAdoption_saturated p).1]
  · unfold State.rearAdopts
    rw [cab, working, reached, (s.beforeAdoption_saturated p).1, content]
  · unfold State.cabMark
    rw [peers]

theorem State.odometryWork_adoption : s.odometryWork p = ((s.beforeAdoption p).adoptionWork p).standstillWork := rfl

/-- The mark that an adopting expiry leaves. -/
theorem State.odometryWork_of_adopt {mark : Nat} (adopts : (s.beforeAdoption p).adoptionWork p = (s.beforeAdoption p).adopt mark) :
    (s.odometryWork p).odo.markValid = true ∧ (s.odometryWork p).odo.markAccumulator = 0
    ∧ (s.odometryWork p).odo.mark = mark ∧ (s.odometryWork p).odo.saturated = (s.beforeAdoption p).odo.saturated
    ∧ (s.odometryWork p).hasCondition .odometerSaturated = (s.beforeAdoption p).hasCondition .odometerSaturated := by
  obtain ⟨m, a, v, saturated⟩ := State.standstillWork_mark ((s.beforeAdoption p).adopt mark)
  rw [State.odometryWork_adoption, adopts, State.standstillWork_hasCondition]
  generalize s.beforeAdoption p = b at m a v saturated
  exact ⟨v, a, m, saturated, rfl⟩

theorem State.odometryWork_of_clamped
    (adopts : (s.beforeAdoption p).adoptionWork p = ((s.beforeAdoption p).adopt 4000000000).raiseFault .odometerSaturated) :
    (s.odometryWork p).odo.markValid = true ∧ (s.odometryWork p).odo.markAccumulator = 0
    ∧ (s.odometryWork p).odo.mark = 4000000000 ∧ (s.odometryWork p).odo.saturated = (s.beforeAdoption p).odo.saturated
    ∧ (s.odometryWork p).hasCondition .odometerSaturated = true := by
  obtain ⟨m, a, v, saturated⟩ :=
    State.standstillWork_mark (((s.beforeAdoption p).adopt 4000000000).raiseFault .odometerSaturated)
  rw [State.raiseSaturated_odo] at m a v saturated
  rw [State.odometryWork_adoption, adopts, State.standstillWork_hasCondition, State.hasCondition_raiseFault]
  exact ⟨v, a, m, saturated, Bool.or_true _⟩

end

/-- The mark of a speed expiry, which the settling leaves. -/
theorem State.speedExpiry_mark {s : State} {p : Params} (timers : s.timersRun = true) (copy : s.loader.copy = some p) :
    s.speedExpiry.odo.mark = (s.odometryWork p).odo.mark
    ∧ s.speedExpiry.odo.markAccumulator = (s.odometryWork p).odo.markAccumulator
    ∧ s.speedExpiry.odo.markValid = (s.odometryWork p).odo.markValid
    ∧ s.speedExpiry.odo.saturated = (s.odometryWork p).odo.saturated
    ∧ ∀ c, s.speedExpiry.hasCondition c = (s.odometryWork p).hasCondition c := by
  obtain ⟨-, -, -, -, -, m, a, v, saturated⟩ := (State.settle_odo_excludes (s.odometryWork p)).terms []
  rw [State.speedExpiry_eq timers copy]
  exact ⟨m, a, v, saturated, State.hasCondition_settle _⟩

/-- The mark that the cab adopts: the largest, past which ODOMETER_SATURATED is raised. -/
theorem State.cabMark_eq (s : State) :
    min 4000000000 s.cabMark =
      match s.peers.filterMap (fun x => x.2.adoptable.map (fun c => c.mark + c.lag)) with
      | [] => 5000
      | sums => min 4000000000 (largest sums + 100) := by
  unfold State.cabMark
  cases s.peers.filterMap (fun x => x.2.adoptable.map (fun c => c.mark + c.lag)) <;> rfl

theorem State.adoptionWork_of_rear {s : State} (cab : s.cabAdopts = false) (rear : s.rearAdopts = true) (p : Params) :
    s.adoptionWork p = s.adopt (match s.cabContent with
      | some c => c.mark - p.lag
      | none => 5000 - p.lag) := by
  rcases s.adoptionWork_cases p with ⟨-, -, off⟩ | ⟨on, -, -⟩ | ⟨on, -, -⟩ | ⟨-, -, e⟩
  · exact absurd (rear.symm.trans off) (by decide)
  · exact absurd (on.symm.trans cab) (by decide)
  · exact absurd (on.symm.trans cab) (by decide)
  · exact e

/-- The cab adopts, and a mark that is clamped is not yet a saturated one (R55). -/
theorem State.odometryWork_of_cab {s : State} {p : Params} (bare : s.odo.markValid = false) (adopts : s.cabAdopts = true) :
    (s.odometryWork p).odo.markValid = true ∧ (s.odometryWork p).odo.markAccumulator = 0
    ∧ (s.odometryWork p).odo.mark = min 4000000000 s.cabMark
    ∧ (s.odometryWork p).hasCondition .odometerSaturated =
      (s.hasCondition .odometerSaturated || decide (4000000000 < s.cabMark))
    ∧ (s.odometryWork p).odo.saturated = s.odo.saturated := by
  obtain ⟨cab, -, mark, -⟩ := s.beforeAdoption_adopts p
  obtain ⟨-, same⟩ := s.beforeAdoption_saturated p
  obtain ⟨saturated, condition⟩ := same bare
  rcases (s.beforeAdoption p).adoptionWork_cases p with ⟨-, off, -⟩ | ⟨-, past, e⟩ | ⟨-, below, e⟩ | ⟨off, -, -⟩
  · exact absurd (adopts.symm.trans (cab.symm.trans off)) (by decide)
  · rw [mark] at past
    obtain ⟨v, a, m, set, present⟩ := s.odometryWork_of_clamped p e
    refine ⟨v, a, m.trans (Nat.min_eq_left (Nat.le_of_lt past)).symm, ?_, set.trans saturated⟩
    rw [present, decide_eq_true past, Bool.or_true]
  · rw [mark] at below
    obtain ⟨v, a, m, set, present⟩ := s.odometryWork_of_adopt p e
    refine ⟨v, a, m.trans (mark.trans (Nat.min_eq_right below).symm), ?_, set.trans saturated⟩
    rw [present, condition, decide_eq_false (Nat.not_lt.mpr below), Bool.or_false]
  · exact absurd (adopts.symm.trans (cab.symm.trans off)) (by decide)

/-- A rear station adopts (R56). -/
theorem State.odometryWork_of_rear {s : State} {p : Params} (rear : s.isCab = false) (adopts : s.rearAdopts = true) :
    (s.odometryWork p).odo.markValid = true ∧ (s.odometryWork p).odo.markAccumulator = 0
    ∧ (s.odometryWork p).odo.mark = (match s.cabContent with
      | some c => c.mark - p.lag
      | none => 5000 - p.lag) := by
  obtain ⟨cab, adopts', -, content⟩ := s.beforeAdoption_adopts p
  have off : s.cabAdopts = false := by simp [State.cabAdopts, rear]
  obtain ⟨v, a, m, -⟩ := s.odometryWork_of_adopt p
    (State.adoptionWork_of_rear (cab.trans off) (adopts'.trans adopts) p)
  exact ⟨v, a, m.trans (by rw [content])⟩

theorem State.hasCopy_of {s : State} {p : Params} (copy : s.loader.copy = some p) : s.hasCopy = true := by
  unfold State.hasCopy
  rw [copy]
  rfl

theorem State.timersRun_of_working {s : State} (working : s.working = true) : s.timersRun = true := by
  unfold State.timersRun
  rw [working]
  rfl

/-- Settles O30. -/
theorem marksAreAdopted : Obligations.marks_are_adopted := by
  intro dt s p f working copy bare sync
  have working' : (s.advance dt).working = true := working
  have bare' : (s.advance dt).odo.markValid = false := bare
  have copied := State.hasCopy_of (s := s.advance dt) copy
  have changes := (s.advance dt).speedExpiry_onlyChanges
  obtain ⟨mark, accumulator, valid, saturated, condition⟩ :=
    State.speedExpiry_mark (State.timersRun_of_working working') (s := s.advance dt) copy
  refine ⟨fun cab due => ?_, fun rear away due => ?_, fun c rear found => ?_⟩
  · have adopts : (s.advance dt).cabAdopts = true := by
      have reached : (s.advance dt).reached (s.advance dt).sup.syncFrom cabAdoptsAfter = true :=
        (State.reached_iff (s := s.advance dt) sync).mpr due
      unfold State.cabAdopts
      rw [show (s.advance dt).isCab = true from cab, working', bare', reached]
      rfl
    have work : (s.advance dt).cabAdoption = (s.advance dt).speedExpiry :=
      State.expiryIf_of (by rw [copied, adopts]; rfl)
    obtain ⟨v, a, m, present, set⟩ := State.odometryWork_of_cab (s := s.advance dt) (p := p) bare adopts
    exact completes_of work ⟨valid.trans v, accumulator.trans a, (mark.trans m).trans (State.cabMark_eq _),
      (condition _).trans present, saturated.trans set, changes⟩
  · have content : (s.advance dt).cabContent = none := away
    have adopts : (s.advance dt).rearAdopts = true := by
      have reached : (s.advance dt).reached (s.advance dt).sup.syncFrom rearAdoptsAfter = true :=
        (State.reached_iff (s := s.advance dt) sync).mpr due
      unfold State.rearAdopts
      rw [show (s.advance dt).isCab = false from rear, working', bare', reached,
        Bool.or_true]
      rfl
    have work : (s.advance dt).rearTimeout = (s.advance dt).speedExpiry :=
      State.expiryIf_of (by rw [copied, adopts, content]; rfl)
    obtain ⟨v, a, m⟩ := State.odometryWork_of_rear (s := s.advance dt) (p := p) rear adopts
    rw [content] at m
    exact completes_of work ⟨valid.trans v, accumulator.trans a, mark.trans m, changes⟩
  · have content : (s.advance dt).cabContent = some c := found
    have adopts : (s.advance dt).rearAdopts = true := by
      unfold State.rearAdopts
      rw [show (s.advance dt).isCab = false from rear, working', bare', content]
      rfl
    obtain ⟨v, a, m⟩ := State.odometryWork_of_rear (s := s.advance dt) (p := p) rear adopts
    rw [content] at m
    exact completes_of rfl ⟨valid.trans v, accumulator.trans a, mark.trans m, changes⟩

end Sys2Proof.Machine
end

section
/-! PROOFS. The path generator's samples (R54, R60 to R65): O31. -/

namespace Sys2Proof.Machine

/-! ## One sample (R62, R65) -/

/-- A sample that finds a free slot is queued, and clears the flags named; one that finds none is dropped, and the gap is
pending. -/
theorem State.emitSample_cases (s : State) (x : PathSample) (b g : Bool) :
    (s.link.paths.length < 4
      ∧ s.emitSample x b g =
        (s.setLink { s.link with
          paths := s.link.paths ++ [⟨s.link.nextTicket, ⟨16 + s.station, encodePath x⟩⟩]
          nextTicket := s.link.nextTicket + 1 }).setPath
          { s.path with breakPending := !b && s.path.breakPending, gapPending := !g && s.path.gapPending })
    ∨ (4 ≤ s.link.paths.length
      ∧ s.emitSample x b g =
        (s.setLink { s.link with drops := min 255 (s.link.drops + 1) }).setPath { s.path with gapPending := true }) := by
  unfold State.emitSample
  rcases s.queuePath_cases x with ⟨room, e⟩ | ⟨full, e⟩
  · refine .inl ⟨room, ?_⟩
    rw [e]
    exact if_pos (decide_eq_true room)
  · refine .inr ⟨full, ?_⟩
    rw [e]
    have takes : ¬s.link.takesPath = true := by
      unfold Link.takesPath
      rw [decide_eq_true_iff]
      exact Nat.not_lt.mpr full
    exact if_neg takes

/-- The first sample after a break, at the mark (R63). -/
theorem State.firstSample_cases (s : State) :
    (s.link.paths.length < 4
      ∧ s.firstSample =
        (s.setLink { s.link with
          paths := s.link.paths ++ [⟨s.link.nextTicket, ⟨16 + s.station, encodePath ⟨s.odo.mark, s.path.curvature, true, false⟩⟩⟩]
          nextTicket := s.link.nextTicket + 1 }).setPath
          { s.path with breakPending := false, gapPending := false, nextMark := some (s.odo.mark + 25) })
    ∨ (4 ≤ s.link.paths.length
      ∧ s.firstSample =
        (s.setLink { s.link with drops := min 255 (s.link.drops + 1) }).setPath
          { s.path with gapPending := true, nextMark := some (s.odo.mark + 25) }) := by
  unfold State.firstSample
  dsimp only
  rcases s.emitSample_cases ⟨s.odo.mark, s.path.curvature, true, false⟩ true true with ⟨room, e⟩ | ⟨full, e⟩ <;> rw [e]
  · exact .inl ⟨room, rfl⟩
  · exact .inr ⟨full, rfl⟩

/-- A sample of the grid, with the flags that are pending (R64). -/
theorem State.gridSample_cases (s : State) (m : Nat) :
    (s.link.paths.length < 4
      ∧ s.gridSample m =
        (s.setLink { s.link with
          paths := s.link.paths ++ [⟨s.link.nextTicket, ⟨16 + s.station, encodePath ⟨m, s.path.curvature,
            s.path.breakPending, s.path.gapPending && !s.path.breakPending⟩⟩⟩]
          nextTicket := s.link.nextTicket + 1 }).setPath
          { s.path with
            breakPending := false, gapPending := s.path.gapPending && s.path.breakPending, nextMark := some (m + 25) })
    ∨ (4 ≤ s.link.paths.length
      ∧ s.gridSample m =
        (s.setLink { s.link with drops := min 255 (s.link.drops + 1) }).setPath
          { s.path with gapPending := true, nextMark := some (m + 25) }) := by
  have noBreak : (!s.path.breakPending && s.path.breakPending) = false := by cases s.path.breakPending <;> rfl
  have gapLeft : (!(s.path.gapPending && !s.path.breakPending) && s.path.gapPending) =
      (s.path.gapPending && s.path.breakPending) := by cases s.path.breakPending <;> cases s.path.gapPending <;> rfl
  unfold State.gridSample
  dsimp only
  rcases s.emitSample_cases ⟨m, s.path.curvature, s.path.breakPending, s.path.gapPending && !s.path.breakPending⟩
    s.path.breakPending (s.path.gapPending && !s.path.breakPending) with ⟨room, e⟩ | ⟨full, e⟩ <;> rw [e]
  · rw [noBreak, gapLeft]
    exact .inl ⟨room, rfl⟩
  · exact .inr ⟨full, rfl⟩

/-! ## Several samples of the grid (R64) -/

/-- The frame of the sample `j` grid points on from mark `m`: the break flag goes with the first, the gap flag with the
first that carries no break. -/
def State.gridFrame (s : State) (m j : Nat) : Frame :=
  { identifier := 16 + s.station
    payload := encodePath ⟨m + 25 * j, s.path.curvature, s.path.breakPending && j == 0,
      s.path.gapPending && j == (if s.path.breakPending then 1 else 0)⟩ }

/-- What `n` grid samples from mark `m` leave: the first of them are queued while slots are free. -/
structure State.sampled (s : State) (m n : Nat) (t : State) : Prop where
  path : t.path =
    { s.path with
      nextMark := some (m + 25 * n)
      breakPending := s.path.breakPending && min n (4 - s.link.paths.length) == 0
      gapPending := decide (min n (4 - s.link.paths.length) < n)
        || (s.path.gapPending && (min n (4 - s.link.paths.length) == 0
          || (s.path.breakPending && min n (4 - s.link.paths.length) == 1))) }
  queued : ∃ qs : List Queued, t.link.paths = s.link.paths ++ qs
    ∧ qs.map (fun q => q.frame) = (List.range (min n (4 - s.link.paths.length))).map (s.gridFrame m)
  drops : t.link.drops =
    if min n (4 - s.link.paths.length) < n then min 255 (s.link.drops + (n - min n (4 - s.link.paths.length)))
    else s.link.drops

theorem State.sampled_zero {s : State} {m : Nat} (next : s.path.nextMark = some m) : s.sampled m 0 s where
  path := by
    rw [Nat.zero_min]
    cases h : s.path with
    | mk frontAngle curvature nextMark breakPending gapPending =>
      rw [h] at next
      simp [show nextMark = some m from next]
  queued := ⟨[], by simp, by simp⟩
  drops := by simp

/-- The frames after a sample that was queued are those one grid point on. -/
theorem State.gridFrame_succ {s : State} {m : Nat} (room : s.link.paths.length < 4) (j : Nat) :
    (s.gridSample m).gridFrame (m + 25) j = s.gridFrame m (j + 1) := by
  obtain ⟨-, e⟩ := s.gridSample_cases m |>.resolve_right fun h => absurd room (Nat.not_lt.mpr h.1)
  have mark : m + 25 + 25 * j = m + 25 * (j + 1) := by omega
  have gap : ((s.path.gapPending && s.path.breakPending) && j == 0) =
      (s.path.gapPending && j + 1 == (if s.path.breakPending then 1 else 0)) := by
    cases s.path.breakPending <;> simp
  have first : (s.path.breakPending && j + 1 == 0) = false := by simp
  unfold State.gridFrame
  rw [e, first, ← gap, ← mark]
  rfl

/-- After a sample that was queued, the rest follow. -/
theorem State.sampled_succ_of_room {s t : State} {m n : Nat} (room : s.link.paths.length < 4)
    (rest : (s.gridSample m).sampled (m + 25) n t) : s.sampled m (n + 1) t := by
  obtain ⟨-, e⟩ := s.gridSample_cases m |>.resolve_right fun h => absurd room (Nat.not_lt.mpr h.1)
  obtain ⟨path, ⟨qs, paths, frames⟩, drops⟩ := rest
  have length : 4 - (s.gridSample m).link.paths.length = 4 - s.link.paths.length - 1 := by
    rw [e]
    simp only [State.setPath_link, State.setLink_link, List.length_append, List.length_singleton]
    omega
  have taken : min (n + 1) (4 - s.link.paths.length) = min n (4 - s.link.paths.length - 1) + 1 := by omega
  have shift : (s.gridSample m).gridFrame (m + 25) = fun j => s.gridFrame m (j + 1) :=
    funext fun j => State.gridFrame_succ room j
  rw [length] at path frames drops
  rw [shift] at frames
  refine ⟨?_, ?_, ?_⟩ <;> rw [taken] <;> generalize min n (4 - s.link.paths.length - 1) = k at path frames drops
  · have mark : m + 25 + 25 * n = m + 25 * (n + 1) := by omega
    rw [path, e, mark]
    simp [Bool.and_assoc]
  · refine ⟨⟨s.link.nextTicket, ⟨16 + s.station, encodePath ⟨m, s.path.curvature, s.path.breakPending,
      s.path.gapPending && !s.path.breakPending⟩⟩⟩ :: qs, ?_, ?_⟩
    · rw [paths, e]
      exact List.append_assoc ..
    · rw [List.map_cons, frames, List.range_succ_eq_map, List.map_cons, List.map_map]
      refine congrArg (· :: _) ?_
      unfold State.gridFrame
      cases s.path.breakPending <;> simp
  · rw [drops, e]
    simp

/-- After one that was dropped, the rest are dropped too. -/
theorem State.sampled_succ_of_full {s t : State} {m n : Nat} (full : 4 ≤ s.link.paths.length)
    (rest : (s.gridSample m).sampled (m + 25) n t) : s.sampled m (n + 1) t := by
  obtain ⟨-, e⟩ := s.gridSample_cases m |>.resolve_left fun h => absurd full (Nat.not_le.mpr h.1)
  obtain ⟨path, ⟨qs, paths, frames⟩, drops⟩ := rest
  have length : 4 - (s.gridSample m).link.paths.length = 0 := by
    rw [e]
    exact Nat.sub_eq_zero_of_le full
  have none : 4 - s.link.paths.length = 0 := Nat.sub_eq_zero_of_le full
  rw [length, Nat.min_zero] at path frames drops
  refine ⟨?_, ?_, ?_⟩ <;> rw [none, Nat.min_zero]
  · have mark : m + 25 + 25 * n = m + 25 * (n + 1) := by omega
    rw [path, e, mark]
    simp
  · exact ⟨qs, by rw [paths, e]; rfl, frames⟩
  · rw [drops, e]
    simp
    split <;> omega

/-- The samples of the grid up to the mark. -/
theorem State.gridSamples_sampled (n : Nat) : ∀ {s : State} {m : Nat}, s.path.nextMark = some m →
    (∀ j < n, m + 25 * j ≤ s.odo.mark) → s.sampled m n (s.gridSamples n) := by
  induction n with
  | zero => exact fun next _ => State.sampled_zero next
  | succ n ih =>
    intro s m next reached
    have due : m ≤ s.odo.mark := reached 0 (Nat.succ_pos n)
    have step : s.gridSamples (n + 1) = (s.gridSample m).gridSamples n := by
      rw [State.gridSamples, next]
      exact if_pos due
    have odo : (s.gridSample m).odo = s.odo :=
      State.same_of_onlyChanges (s.gridSample_onlyChanges m) .odo (by decide)
    have after : (s.gridSample m).path.nextMark = some (m + 25) := by
      rcases s.gridSample_cases m with ⟨-, e⟩ | ⟨-, e⟩ <;> rw [e] <;> rfl
    have rest := ih after fun j below => by
      have far := reached (j + 1) (Nat.succ_lt_succ below)
      rw [odo]
      omega
    rw [step]
    by_cases room : s.link.paths.length < 4
    · exact State.sampled_succ_of_room room rest
    · exact State.sampled_succ_of_full (Nat.not_lt.mp room) rest

/-! ## The expiry (R60, R61, R66) -/

section
variable {s : State} {p : Params} (timers : s.timersRun = true) (cab : s.isCab = true) (copy : s.loader.copy = some p)
include timers cab copy

theorem State.pathExpiry_eq (front : AnalogIn) : s.pathExpiry front = (s.readFront p front).emitSamples.settle := by
  have on : (s.timersRun && s.isCab) = true := by rw [timers, cab]; rfl
  exact (if_pos on).trans (congrArg State.settle (State.withCopy_some copy _))

theorem State.pathExpiry_path (front : AnalogIn) :
    (s.pathExpiry front).path = (s.readFront p front).emitSamples.path
    ∧ (s.pathExpiry front).link = (s.readFront p front).emitSamples.link
    ∧ ∀ c, (s.pathExpiry front).hasCondition c = (s.readFront p front).emitSamples.hasCondition c := by
  rw [State.pathExpiry_eq timers cab copy]
  exact ⟨State.settle_path _, State.settle_link _, State.hasCondition_settle _⟩

end

theorem State.emitSamples_hasCondition (s : State) (c : FaultCode) : s.emitSamples.hasCondition c = s.hasCondition c := by
  have sup : s.emitSamples.sup = s.sup := State.same_of_onlyChanges s.emitSamples_onlyChanges .sup (by decide)
  unfold State.hasCondition
  rw [sup]

/-- The path generator with a sound front angle (R60, R61). -/
def PathGenerator.read (x : PathGenerator) (p : Params) (a : Int) : PathGenerator :=
  { x with frontAngle := a, curvature := curvatureOf a p.wheelbase }

/-- A sound front angle ends STEER_INPUT and is held, with its curvature. -/
theorem State.readFront_sound (s : State) (p : Params) {a : Int} (low : -9000 ≤ a) (high : a ≤ 9000) :
    s.readFront p (.reading a) = (s.endCondition .steerInput).setPath (s.path.read p a) := by
  unfold State.readFront
  rw [show soundReading (-Config.maxAngle) Config.maxAngle (.reading a) = some a from soundReading_reading ⟨low, high⟩]
  rfl

theorem State.readFront_faulty (s : State) (p : Params) {front : AnalogIn} (faulty : faultyReading (-9000) 9000 front) :
    s.readFront p front = (s.follow .steerInput true).setPath { s.path with curvature := 0 } := by
  unfold State.readFront
  rw [show soundReading (-Config.maxAngle) Config.maxAngle front = none from soundReading_faulty faulty]

theorem State.emitsSamples_iff (s : State) : s.emitsSamples = true ↔
    s.working = true ∧ s.odo.markValid = true ∧ s.odo.direction ≠ .reverse ∧ s.hasCondition .steerInput = false := by
  simp [State.emitsSamples, and_assoc]

/-- Without emission the break is pending and no sample mark stands (R62). -/
theorem State.emitSamples_of_none {s : State} (silent : ¬s.emitsSamples = true) :
    s.emitSamples = s.setPath { s.path with breakPending := true, nextMark := none } := if_neg silent

theorem State.emitSamples_of_saturated {s : State} (emits : s.emitsSamples = true) (saturated : s.odo.saturated = true) :
    s.emitSamples = s := (if_pos emits).trans (if_pos saturated)

theorem State.emitSamples_of_first {s : State} (emits : s.emitsSamples = true) (clear : s.odo.saturated = false)
    (next : s.path.nextMark = none) : s.emitSamples = s.firstSample := by
  refine (if_pos emits).trans ((if_neg (ne_true_of_eq_false clear)).trans ?_)
  rw [next]

theorem State.emitSamples_of_next {s : State} {m : Nat} (emits : s.emitsSamples = true) (clear : s.odo.saturated = false)
    (next : s.path.nextMark = some m) : s.emitSamples = s.gridSamples ((s.odo.mark - m) / 25 + 1) := by
  refine (if_pos emits).trans ((if_neg (ne_true_of_eq_false clear)).trans ?_)
  rw [next]
  rfl

/-- The state that emission finds with a sound front angle. -/
def State.heard (s : State) (p : Params) (a : Int) : State := (s.endCondition .steerInput).setPath (s.path.read p a)

theorem State.heard_emits {s : State} (working : s.working = true) (valid : s.odo.markValid = true)
    (along : s.odo.direction ≠ .reverse) (p : Params) (a : Int) : (s.heard p a).emitsSamples = true := by
  refine (State.emitsSamples_iff _).mpr ⟨working, valid, along, ?_⟩
  refine (State.hasCondition_endCondition _ _ _).trans ?_
  simp

theorem State.heard_silent {s : State} (away : s.odo.markValid = false ∨ s.odo.direction = .reverse) (p : Params) (a : Int) :
    ¬(s.heard p a).emitsSamples = true := by
  rw [State.emitsSamples_iff]
  rintro ⟨-, valid, along, -⟩
  exact away.elim (fun none => absurd (valid.symm.trans none) (by decide)) along

theorem State.heard_onlyChanges (s : State) (p : Params) (a : Int) : s.onlyChanges [.path, .sup] (s.heard p a) :=
  (State.onlyChanges_mono (State.endCondition_onlyChanges ..) (by decide)).step (State.setPath_onlyChanges ..) (by decide)

/-- The expiry's frame where nothing is queued. -/
theorem State.pathExpiry_onlyChanges_of_silent {s t : State} (changes : s.onlyChanges [.path, .sup] t) :
    s.onlyChanges [.path, .sup, .odo, .joint, .air, .doors] t.settle :=
  (State.onlyChanges_mono changes (by decide)).step (State.settle_onlyChanges _) (by decide)

section
variable {s : State} {p : Params} {a : Int} (working : s.working = true) (cab : s.isCab = true)
  (copy : s.loader.copy = some p) (low : -9000 ≤ a) (high : a ≤ 9000)
include working cab copy low high

theorem State.pathExpiry_sound : s.pathExpiry (.reading a) = (s.heard p a).emitSamples.settle := by
  rw [State.pathExpiry_eq (State.timersRun_of_working working) cab copy, State.readFront_sound s p low high, State.heard]

/-- Where emission is off, only the angle is taken (R62). -/
theorem State.pathExpiry_of_away (away : s.odo.markValid = false ∨ s.odo.direction = .reverse) :
    (s.pathExpiry (.reading a)).path =
      { s.path.read p a with nextMark := none, breakPending := true }
    ∧ (s.pathExpiry (.reading a)).hasCondition .steerInput = false
    ∧ s.onlyChanges [.path, .sup, .odo, .joint, .air, .doors] (s.pathExpiry (.reading a)) := by
  have silent := State.emitSamples_of_none (State.heard_silent away p a)
  rw [State.pathExpiry_sound working cab copy low high, State.settle_path, State.hasCondition_settle,
    State.emitSamples_hasCondition, silent]
  refine ⟨rfl, ?_, State.pathExpiry_onlyChanges_of_silent ((s.heard_onlyChanges p a).step (State.setPath_onlyChanges ..)
    (by decide))⟩
  refine (State.hasCondition_endCondition _ _ _).trans ?_
  simp

section
variable (valid : s.odo.markValid = true) (along : s.odo.direction ≠ .reverse)
include valid along

theorem State.pathExpiry_of_saturated (saturated : s.odo.saturated = true) :
    (s.pathExpiry (.reading a)).path = s.path.read p a
    ∧ s.onlyChanges [.path, .sup, .odo, .joint, .air, .doors] (s.pathExpiry (.reading a)) := by
  have still := State.emitSamples_of_saturated (State.heard_emits working valid along p a) saturated
  rw [State.pathExpiry_sound working cab copy low high, State.settle_path, still]
  exact ⟨rfl, State.pathExpiry_onlyChanges_of_silent (s.heard_onlyChanges p a)⟩

theorem State.pathExpiry_of_waiting {m : Nat} (clear : s.odo.saturated = false) (next : s.path.nextMark = some m)
    (below : s.odo.mark < m) :
    (s.pathExpiry (.reading a)).path = s.path.read p a
    ∧ s.onlyChanges [.path, .sup, .odo, .joint, .air, .doors] (s.pathExpiry (.reading a)) := by
  have still : (s.heard p a).emitSamples = s.heard p a := by
    have next' : (s.heard p a).path.nextMark = some m := next
    rw [State.emitSamples_of_next (State.heard_emits working valid along p a) clear next', State.gridSamples, next']
    exact if_neg (Nat.not_le.mpr below)
  rw [State.pathExpiry_sound working cab copy low high, State.settle_path, still]
  exact ⟨rfl, State.pathExpiry_onlyChanges_of_silent (s.heard_onlyChanges p a)⟩

/-- The expiry with a first sample after a break (R63). -/
theorem State.pathExpiry_of_first (clear : s.odo.saturated = false) (next : s.path.nextMark = none) :
    (s.pathExpiry (.reading a)).path = (s.heard p a).firstSample.path
    ∧ (s.pathExpiry (.reading a)).link = (s.heard p a).firstSample.link := by
  have first := State.emitSamples_of_first (State.heard_emits working valid along p a) clear next
  rw [State.pathExpiry_sound working cab copy low high, State.settle_path, State.settle_link, first]
  exact ⟨rfl, rfl⟩

/-- The expiry with samples of the grid (R64). -/
theorem State.pathExpiry_of_next {m : Nat} (clear : s.odo.saturated = false) (next : s.path.nextMark = some m) :
    (s.pathExpiry (.reading a)).path = ((s.heard p a).gridSamples ((s.odo.mark - m) / 25 + 1)).path
    ∧ (s.pathExpiry (.reading a)).link = ((s.heard p a).gridSamples ((s.odo.mark - m) / 25 + 1)).link := by
  have grid := State.emitSamples_of_next (State.heard_emits working valid along p a) clear next
  rw [State.pathExpiry_sound working cab copy low high, State.settle_path, State.settle_link, grid]
  exact ⟨rfl, rfl⟩

end

end

theorem State.gridSamples_one {s : State} {m : Nat} (next : s.path.nextMark = some m) (reached : m ≤ s.odo.mark) :
    s.gridSamples 1 = s.gridSample m := by
  rw [State.gridSamples, next]
  exact if_pos reached

theorem State.heard_sampled {s : State} {m n : Nat} (next : s.path.nextMark = some m) (p : Params) (a : Int)
    (reached : m + 25 * (n - 1) ≤ s.odo.mark) : (s.heard p a).sampled m n ((s.heard p a).gridSamples n) :=
  State.gridSamples_sampled n (s := s.heard p a) next fun j below => by
    change m + 25 * j ≤ s.odo.mark
    omega

/-- A faulty front angle raises STEER_INPUT, and with it no sample is sent (R61, R62). -/
theorem State.pathExpiry_of_faulty {s : State} {p : Params} {front : AnalogIn} (working : s.working = true)
    (cab : s.isCab = true) (copy : s.loader.copy = some p) (faulty : faultyReading (-9000) 9000 front) :
    (s.pathExpiry front).path = { s.path with curvature := 0, nextMark := none, breakPending := true }
    ∧ (s.pathExpiry front).hasCondition .steerInput = true
    ∧ s.onlyChanges [.path, .sup, .odo, .joint, .air, .doors] (s.pathExpiry front) := by
  have present : (s.readFront p front).hasCondition .steerInput = true := by
    rw [State.readFront_faulty s p faulty]
    exact (State.hasCondition_follow s .steerInput .steerInput true).trans (if_pos rfl)
  have silent : ¬(s.readFront p front).emitsSamples = true := by
    rw [State.emitsSamples_iff, present]
    rintro ⟨-, -, -, clear⟩
    exact absurd clear (by decide)
  rw [State.pathExpiry_eq (State.timersRun_of_working working) cab copy, State.settle_path, State.hasCondition_settle,
    State.emitSamples_hasCondition, State.emitSamples_of_none silent]
  refine ⟨?_, present, ?_⟩
  · rw [State.readFront_faulty s p faulty]
    rfl
  · rw [State.readFront_faulty s p faulty]
    exact State.pathExpiry_onlyChanges_of_silent (((State.onlyChanges_mono (State.follow_touches ..)
      (by decide)).step (State.setPath_onlyChanges ..) (by decide)).step (State.setPath_onlyChanges ..) (by decide))

/-- Several grid points at once: the gap flag that is left tells whether one was dropped (R64, R65). -/
theorem State.sampled_path_of_several {s t : State} {m n : Nat} (h : s.sampled m n t) (several : 2 ≤ n) :
    t.path =
      { s.path with
        nextMark := some (m + 25 * n)
        breakPending := s.path.breakPending && min n (4 - s.link.paths.length) == 0
        gapPending := decide (min n (4 - s.link.paths.length) < n) } := by
  rw [h.path]
  generalize min n (4 - s.link.paths.length) = k
  by_cases short : k < n
  · simp [short]
  · have k0 : (k == 0) = false := beq_eq_false_iff_ne.mpr (by omega)
    have k1 : (k == 1) = false := beq_eq_false_iff_ne.mpr (by omega)
    rw [k0, k1, decide_eq_false short]
    simp

/-- Settles O31. -/
theorem pathExpiryEmitsSamples : Obligations.path_expiry_emits_samples := by
  intro dt s p a working cab copy
  have changes (front : AnalogIn) := (s.advance dt).pathExpiry_onlyChanges front
  refine ⟨fun low high => ⟨fun away => ?_, fun valid along saturated => ?_, fun valid along clear next full => ?_,
    fun valid along clear next room => ?_, fun m valid along clear next => ⟨fun below => ?_, fun reached single room => ?_,
      fun reached single full => ?_, fun due taken several dueIs takenIs => ?_⟩⟩, fun front faulty => ?_⟩
  · exact completes_of rfl (State.pathExpiry_of_away (s := s.advance dt) working cab copy low high away)
  · exact completes_of rfl
      (State.pathExpiry_of_saturated (s := s.advance dt) working cab copy low high valid along saturated)
  · obtain ⟨path, link⟩ := State.pathExpiry_of_first (s := s.advance dt) working cab copy low high valid along clear next
    obtain ⟨-, e⟩ := ((s.advance dt).heard p a).firstSample_cases.resolve_left fun h => absurd full (Nat.not_le.mpr h.1)
    rw [e] at path link
    exact completes_of rfl ⟨path, link, changes _⟩
  · obtain ⟨path, link⟩ := State.pathExpiry_of_first (s := s.advance dt) working cab copy low high valid along clear next
    obtain ⟨-, e⟩ := ((s.advance dt).heard p a).firstSample_cases.resolve_right fun h => absurd room (Nat.not_lt.mpr h.1)
    rw [e] at path link
    exact completes_of rfl ⟨path, _, congrArg Link.paths link, rfl, changes _⟩
  · exact completes_of rfl
      (State.pathExpiry_of_waiting (s := s.advance dt) working cab copy low high valid along clear next below)
  · have one : (s.odo.mark - m) / 25 + 1 = 1 := by omega
    obtain ⟨path, link⟩ := State.pathExpiry_of_next (s := s.advance dt) working cab copy low high valid along clear next
    have sent := State.gridSamples_one (s := (s.advance dt).heard p a) next reached
    obtain ⟨-, e⟩ := ((s.advance dt).heard p a).gridSample_cases m |>.resolve_right fun h => absurd room (Nat.not_lt.mpr h.1)
    rw [show ((s.advance dt).odo.mark - m) / 25 + 1 = 1 from one, sent, e] at path link
    exact completes_of rfl ⟨path, _, congrArg Link.paths link, rfl, changes _⟩
  · have one : (s.odo.mark - m) / 25 + 1 = 1 := by omega
    obtain ⟨path, link⟩ := State.pathExpiry_of_next (s := s.advance dt) working cab copy low high valid along clear next
    have sent := State.gridSamples_one (s := (s.advance dt).heard p a) next reached
    obtain ⟨-, e⟩ := ((s.advance dt).heard p a).gridSample_cases m |>.resolve_left fun h => absurd full (Nat.not_le.mpr h.1)
    rw [show ((s.advance dt).odo.mark - m) / 25 + 1 = 1 from one, sent, e] at path link
    exact completes_of rfl ⟨congrArg PathGenerator.nextMark path, congrArg PathGenerator.gapPending path,
      (congrArg PathGenerator.breakPending path).trans rfl, link, changes _⟩
  · obtain ⟨path, link⟩ := State.pathExpiry_of_next (s := s.advance dt) working cab copy low high valid along clear next
    rw [show ((s.advance dt).odo.mark - m) / 25 + 1 = due from dueIs.symm] at path link
    have sent := State.heard_sampled (s := s.advance dt) (n := due) next p a
      (show m + 25 * (due - 1) ≤ s.odo.mark by omega)
    have pathIs := State.sampled_path_of_several sent (by omega)
    obtain ⟨-, ⟨qs, paths, frames⟩, drops⟩ := sent
    refine completes_of rfl ⟨path.trans ?_, ⟨qs, (congrArg Link.paths link).trans paths, ?_⟩,
      (congrArg Link.drops link).trans ?_, changes _⟩
    · rw [pathIs, takenIs]
      rfl
    · rw [frames, takenIs]
      rfl
    · rw [drops, takenIs]
      rfl
  · exact completes_of rfl (State.pathExpiry_of_faulty (s := s.advance dt) working cab copy faulty)

end Sys2Proof.Machine
end

section
/-! PROOFS. Retirement, look-ups and the track status (R70, R72 to R77): O32. -/

namespace Sys2Proof.Machine

/-! ## Retirement (R73) -/

/-- Retirement keeps the newest entry below the middle point, and all those at or beyond it. -/
theorem retire_eq (mid : Nat) (es : List TrackEntry) (rising : es.Pairwise (fun e f => e.mark < f.mark)) :
    retire mid es = ((es.filter (fun e => e.mark < mid)).getLast?).toList ++ es.filter (fun e => mid ≤ e.mark) := by
  induction es with
  | nil => rfl
  | cons e rest ih =>
    cases rest with
    | nil => by_cases below : e.mark < mid <;> simp [retire, below, Nat.not_le.mpr, Nat.not_lt.mp]
    | cons f rest =>
      obtain ⟨least, rising'⟩ := List.pairwise_cons.mp rising
      have ef : e.mark < f.mark := least f (by simp)
      unfold retire
      by_cases passed : f.mark < mid
      · have below : e.mark < mid := Nat.lt_trans ef passed
        rw [if_pos passed, ih rising']
        simp [below, passed, Nat.not_le.mpr below, Nat.not_le.mpr passed]
      · have above : ∀ g ∈ f :: rest, mid ≤ g.mark := by
          intro g hg
          rcases List.mem_cons.mp hg with rfl | hg
          · exact Nat.not_lt.mp passed
          · exact Nat.le_of_lt (Nat.lt_of_le_of_lt (Nat.not_lt.mp passed) ((List.pairwise_cons.mp rising').1 g hg))
        have none : (f :: rest).filter (fun e => decide (e.mark < mid)) = [] :=
          List.filter_eq_nil_iff.mpr fun g hg => by simpa using above g hg
        have all : (f :: rest).filter (fun e => decide (mid ≤ e.mark)) = f :: rest :=
          List.filter_eq_self.mpr fun g hg => by simpa using above g hg
        rw [if_neg passed, List.filter_cons (x := e), List.filter_cons (x := e), none, all]
        by_cases below : e.mark < mid <;> simp [below, Nat.not_le.mpr, Nat.not_lt.mp]

/-- The track memory that retirement leaves. -/
theorem State.retireEntries_entries (s : State) (p : Params) : (s.retireEntries p).track.entries =
    if s.odo.markValid then retire (s.odo.mark + midOffset p) s.track.entries else s.track.entries := by
  unfold State.retireEntries State.checkLowWater
  dsimp only
  split_ifs <;> simp

theorem State.retireEntries_starvedRun (s : State) (p : Params) :
    (s.retireEntries p).track.starvedRun = s.track.starvedRun := by
  unfold State.retireEntries State.checkLowWater
  dsimp only
  split_ifs <;> simp

/-- Below 96 entries the high watermark clears, and TRACK_NEAR_FULL ends (R70). -/
theorem State.retireEntries_lowWater {s : State} {p : Params}
    (fewer : (s.retireEntries p).track.entries.length < s.track.entries.length)
    (few : (s.retireEntries p).track.entries.length < 96) :
    (s.retireEntries p).track.highWater = false ∧ (s.retireEntries p).hasCondition .trackNearFull = false := by
  rw [State.retireEntries_entries] at fewer few
  by_cases valid : s.odo.markValid = true
  · rw [if_pos valid] at fewer few
    unfold State.retireEntries State.checkLowWater
    simp [valid, fewer, few]
  · rw [if_neg valid] at fewer
    exact absurd fewer (Nat.lt_irrefl _)

/-! ## Look-ups (R72, R74) -/

theorem lookUp_of_before {e : TrackEntry} {m : Nat} (before : m < e.mark) (rest : List TrackEntry) :
    lookUp (e :: rest) m = none := if_pos before

theorem lookUp_of_reached {e : TrackEntry} {m : Nat} (reached : e.mark ≤ m) (rest : List TrackEntry) :
    lookUp (e :: rest) m = some (lookFrom m e rest) := if_neg (Nat.not_lt.mpr reached)

/-- UNDERRUN, in a memory of rising marks. -/
theorem lookUp_eq_none_iff {es : List TrackEntry} (rising : es.Pairwise (fun e f => e.mark < f.mark)) (m : Nat) :
    lookUp es m = none ↔ underrunsAt es m := by
  cases es with
  | nil => exact iff_of_true rfl fun _ h => absurd h List.not_mem_nil
  | cons e rest =>
    have least := (List.pairwise_cons.mp rising).1
    by_cases before : m < e.mark
    · refine iff_of_true (lookUp_of_before before rest) fun f hf => ?_
      rcases List.mem_cons.mp hf with rfl | hf
      · exact before
      · exact Nat.lt_trans before (least f hf)
    · rw [lookUp_of_reached (Nat.not_lt.mp before)]
      exact iff_of_false (Option.some_ne_none _) fun under => before (under e (by simp))

/-- An entry that a later one up to the mark follows decides no shortfall. -/
theorem fallsShortAt_cons_of_passed {e f : TrackEntry} {rest : List TrackEntry} {m : Nat} (ef : e.mark < f.mark)
    (passed : f.mark ≤ m) : fallsShortAt (e :: f :: rest) m ↔ fallsShortAt (f :: rest) m := by
  constructor
  · rintro ⟨x, hx, far, last, next⟩
    rcases List.mem_cons.mp hx with rfl | hx
    · exact absurd (last f (by simp) passed) (Nat.not_le.mpr ef)
    · refine ⟨x, hx, far, fun g hg => last g (List.mem_cons_of_mem _ hg), fun g hg above least => ?_⟩
      refine next g (List.mem_cons_of_mem _ hg) above fun k hk beyond => ?_
      rcases List.mem_cons.mp hk with rfl | hk
      · omega
      · exact least k hk beyond
  · rintro ⟨x, hx, far, last, next⟩
    refine ⟨x, List.mem_cons_of_mem _ hx, far, fun g hg below => ?_, fun g hg above least => ?_⟩
    · rcases List.mem_cons.mp hg with rfl | hg
      · exact Nat.le_trans (Nat.le_of_lt ef) (last f (by simp) passed)
      · exact last g hg below
    · rcases List.mem_cons.mp hg with rfl | hg
      · omega
      · exact next g hg above fun k hk beyond => least k (List.mem_cons_of_mem _ hk) beyond

/-- A shortfall above 200, in a memory of rising marks whose first entry the mark has reached. -/
theorem lookFrom_short_iff (m : Nat) (rest : List TrackEntry) : ∀ e : TrackEntry,
    (e :: rest).Pairwise (fun e f => e.mark < f.mark) → e.mark ≤ m →
      (200 < (lookFrom m e rest).shortfall ↔ fallsShortAt (e :: rest) m) := by
  induction rest with
  | nil =>
    intro e _ reached
    simp only [lookFrom, fallsShortAt, List.mem_singleton, exists_eq_left, forall_eq]
    exact ⟨fun far => ⟨by omega, fun _ => Nat.le_refl _, fun above => by omega⟩, fun ⟨far, _⟩ => by omega⟩
  | cons f rest ih =>
    intro e rising reached
    obtain ⟨least, rising'⟩ := List.pairwise_cons.mp rising
    have ef : e.mark < f.mark := least f (by simp)
    unfold lookFrom
    by_cases passed : f.mark ≤ m
    · rw [if_pos passed, ih f rising' passed, fallsShortAt_cons_of_passed ef passed]
    · have above : ∀ g ∈ f :: rest, f.mark ≤ g.mark := by
        intro g hg
        rcases List.mem_cons.mp hg with rfl | hg
        · exact Nat.le_refl _
        · exact Nat.le_of_lt ((List.pairwise_cons.mp rising').1 g hg)
      have first : ∀ g ∈ e :: f :: rest, m < g.mark → f.mark ≤ g.mark := by
        intro g hg beyond
        rcases List.mem_cons.mp hg with rfl | hg
        · omega
        · exact above g hg
      rw [if_neg passed]
      by_cases gap : f.gap = true
      · rw [if_pos gap]
        constructor
        · intro far
          have far' : 200 < m - e.mark := far
          refine ⟨e, by simp, by omega, fun g hg below => ?_, fun g hg beyond next => ?_⟩
          · rcases List.mem_cons.mp hg with rfl | hg
            · exact Nat.le_refl _
            · have := above g hg
              omega
          · have same : g.mark = f.mark :=
              Nat.le_antisymm (next f (by simp) (Nat.not_le.mp passed)) (first g hg beyond)
            rcases List.mem_cons.mp hg with rfl | hg
            · omega
            · rcases List.mem_cons.mp hg with rfl | hg
              · exact gap
              · exact absurd same (Nat.ne_of_gt ((List.pairwise_cons.mp rising').1 g hg))
        · rintro ⟨x, hx, far, -, -⟩
          rcases List.mem_cons.mp hx with rfl | hx
          · change 200 < m - x.mark
            omega
          · have := above x hx
            omega
      · rw [if_neg gap]
        constructor
        · exact fun far => absurd far (Nat.not_lt_zero _)
        · rintro ⟨-, -, -, -, next⟩
          exact absurd (next f (by simp) (Nat.not_le.mp passed) first) gap

/-- A look-up that succeeds with a shortfall above 200. -/
theorem lookUp_short_iff {es : List TrackEntry} (rising : es.Pairwise (fun e f => e.mark < f.mark)) (m : Nat) :
    (lookUp es m).elim false (fun l => 200 < l.shortfall) = true ↔ fallsShortAt es m := by
  cases es with
  | nil => simp [lookUp, fallsShortAt]
  | cons e rest =>
    by_cases before : m < e.mark
    · rw [lookUp_of_before before]
      refine iff_of_false (by simp) ?_
      rintro ⟨x, hx, far, -⟩
      have := (lookUp_eq_none_iff rising m).mp (lookUp_of_before before rest) x hx
      omega
    · rw [lookUp_of_reached (Nat.not_lt.mp before)]
      exact decide_eq_true_iff.trans (lookFrom_short_iff m rest e rising (Nat.not_lt.mp before))

/-- The track status outside LIMP, with a mark (R75). -/
theorem State.statusNow_eq {s : State} (p : Params) (valid : s.odo.markValid = true) (away : s.inLimp = false)
    (rising : s.track.entries.Pairwise (fun e f => e.mark < f.mark)) :
    s.statusNow p =
      (if ∃ x ∈ pointsAhead p, underrunsAt s.track.entries (s.odo.mark + x) then TrackStatus.empty
      else if ∃ x ∈ pointsAhead p, fallsShortAt s.track.entries (s.odo.mark + x) then .starved
      else .valid) := by
  have look (x : Nat) : s.lookAhead x = lookUp s.track.entries (s.odo.mark + x) := by
    unfold State.lookAhead
    rw [valid, away]
    rfl
  unfold State.statusNow
  refine if_congr ?_ rfl (if_congr ?_ rfl rfl)
  · rw [List.any_map, List.any_eq_true]
    refine exists_congr fun x => and_congr_right fun _ => ?_
    rw [← lookUp_eq_none_iff rising, ← look]
    exact Option.isNone_iff_eq_none
  · rw [List.any_map, List.any_eq_true]
    refine exists_congr fun x => and_congr_right fun _ => ?_
    rw [← lookUp_short_iff rising, ← look]
    rfl

/-- Without a mark every look-up point is missing (R72, R75). -/
theorem State.statusNow_of_unmarked {s : State} (p : Params) (unmarked : s.odo.markValid = false) :
    s.statusNow p = .empty := by
  have look (x : Nat) : s.lookAhead x = none := by
    unfold State.lookAhead
    rw [unmarked]
    rfl
  unfold State.statusNow
  refine if_pos ?_
  rw [List.any_map, List.any_eq_true]
  refine ⟨midOffset p, ?_, by rw [Function.comp_apply, look]; rfl⟩
  unfold lookupOffsets
  split <;> simp

/-- The status rests on the entries, the mark and LIMP alone. -/
theorem State.statusNow_congr {s t : State} (p : Params) (entries : s.track.entries = t.track.entries)
    (odo : s.odo = t.odo) (limp : s.inLimp = t.inLimp) : s.statusNow p = t.statusNow p := by
  unfold State.statusNow State.lookAhead
  rw [entries, odo, limp]

/-! ## The expiry (R75 to R77) -/

theorem State.retireEntries_odo (s : State) (p : Params) : (s.retireEntries p).odo = s.odo :=
  State.same_of_onlyChanges (s.retireEntries_onlyChanges p) .odo (by decide)

theorem State.retireEntries_inLimp (s : State) (p : Params) : (s.retireEntries p).inLimp = s.inLimp := by
  have stand : (s.retireEntries p).sup.stand = s.sup.stand := by
    unfold State.retireEntries State.checkLowWater
    dsimp only
    split_ifs <;> simp
  unfold State.inLimp
  rw [Supervisor.mode_of_stand stand]

/-- What an expiry leaves in the track memory, and of the faults that it follows. -/
structure State.trackKept (s : State) (p : Params) (t : State) : Prop where
  entries : t.track.entries = (s.retireEntries p).track.entries
  gaps : t.track.gapCount = (s.retireEntries p).track.gapCount
  highWater : t.track.highWater = (s.retireEntries p).track.highWater
  status : t.track.status = (s.retireEntries p).statusNow p
  soon : t.track.starvingSoon = (s.retireEntries p).starvingNow p
  run : t.track.starvedRun = if t.track.status = .starved then min 50 (s.track.starvedRun + 1) else 0
  starved : t.hasCondition .trackStarved = decide (t.track.starvedRun = 50)
  other : ∀ c, c ≠ .trackStarved → t.hasCondition c = (s.retireEntries p).hasCondition c
  changes : s.onlyChanges [.track, .sup] t

theorem nextStarvedRun_eq (status : TrackStatus) (run : Nat) :
    nextStarvedRun status run = if status = .starved then min 50 (run + 1) else 0 := by cases status <;> rfl

theorem State.trackWork_track (s : State) (p : Params) : (s.trackWork p).track =
    { (s.retireEntries p).track with
      status := (s.retireEntries p).statusNow p
      starvingSoon := (s.retireEntries p).starvingNow p
      starvedRun := nextStarvedRun ((s.retireEntries p).statusNow p) (s.retireEntries p).track.starvedRun } :=
  State.follow_track ..

theorem State.trackWork_kept (s : State) (p : Params) : s.trackKept p (s.trackWork p) := by
  have track := s.trackWork_track p
  refine ⟨?_, ?_, ?_, ?_, ?_, ?_, ?_, fun c other => ?_, s.trackWork_onlyChanges p⟩
  · rw [track]
  · rw [track]
  · rw [track]
  · rw [track]
  · rw [track]
  · rw [track]
    dsimp only
    rw [nextStarvedRun_eq, State.retireEntries_starvedRun]
  · rw [track]
    exact (State.hasCondition_follow ..).trans (if_pos rfl)
  · exact (State.hasCondition_follow ..).trans (if_neg other)

theorem State.trackExpiry_kept {s : State} {p : Params} (timers : s.timersRun = true) (keeps : s.keepsTrack = true)
    (copy : s.loader.copy = some p) : s.trackKept p s.trackExpiry := by
  have on : (s.timersRun && s.keepsTrack) = true := by rw [timers, keeps]; rfl
  have work : s.trackExpiry = s.trackWork p := (if_pos on).trans (State.withCopy_some copy _)
  rw [work]
  exact s.trackWork_kept p

section
variable {s t : State} {p : Params} (kept : s.trackKept p t)
include kept

theorem State.trackKept.of_marked (sound : s.track.sound) (valid : s.odo.markValid = true) :
    t.track.entries =
        ((s.track.entries.filter (fun e => e.mark < s.odo.mark + roundNat p.steerLever 2)).getLast?).toList
        ++ s.track.entries.filter (fun e => s.odo.mark + roundNat p.steerLever 2 ≤ e.mark)
      ∧ t.track.gapCount = gapsIn t.track.entries
      ∧ (t.track.entries.length < s.track.entries.length → t.track.entries.length < 96 →
          t.track.highWater = false ∧ t.hasCondition .trackNearFull = false) := by
  refine ⟨?_, ?_, fun fewer few => ?_⟩
  · rw [kept.entries, State.retireEntries_entries, if_pos valid]
    exact retire_eq _ _ sound.rising
  · rw [kept.gaps, kept.entries]
    exact (State.retireEntries_trackSound sound p).gaps
  · rw [kept.entries] at fewer few
    rw [kept.highWater, kept.other _ (by decide)]
    exact State.retireEntries_lowWater fewer few

/-- Retirement takes no entry beyond the middle point, so starving-soon may count before it or after (R73, R77). -/
theorem State.trackKept.of_on_track (sound : s.track.sound) (valid : s.odo.markValid = true) (away : s.inLimp = false) :
    t.track.status =
        (if ∃ x ∈ pointsAhead p, underrunsAt t.track.entries (s.odo.mark + x) then TrackStatus.empty
        else if ∃ x ∈ pointsAhead p, fallsShortAt t.track.entries (s.odo.mark + x) then .starved
        else .valid)
      ∧ t.track.starvingSoon =
        decide ((t.track.entries.filter (fun e => s.odo.mark + roundNat p.steerLever 2 < e.mark)).length < 2) := by
  have odo := s.retireEntries_odo p
  have limp := (s.retireEntries_inLimp p).trans away
  have rising := (State.retireEntries_trackSound sound p).rising
  refine ⟨?_, ?_⟩
  · rw [kept.status, kept.entries, State.statusNow_eq p (by rw [odo, valid]) limp rising, odo]
  · rw [kept.soon, kept.entries]
    unfold State.starvingNow
    rw [odo, valid, limp]
    rfl

theorem State.trackKept.of_unmarked (unmarked : s.odo.markValid = false) :
    t.track.entries = s.track.entries ∧ t.track.status = .empty ∧ t.track.starvingSoon = true
      ∧ t.track.starvedRun = 0 ∧ t.hasCondition .trackStarved = false := by
  have odo := s.retireEntries_odo p
  have status : t.track.status = .empty := kept.status.trans (State.statusNow_of_unmarked p (by rw [odo, unmarked]))
  have run : t.track.starvedRun = 0 := by
    rw [kept.run, status]
    rfl
  refine ⟨?_, status, ?_, run, ?_⟩
  · rw [kept.entries, State.retireEntries_entries, unmarked]
    rfl
  · rw [kept.soon]
    unfold State.starvingNow
    rw [odo, unmarked]
    rfl
  · rw [kept.starved, run]
    rfl

end

/-- Settles O32. -/
theorem trackExpiryRetiresAndStarves : Obligations.track_expiry_retires_and_starves := by
  intro dt s p timers keeps copy sound
  have kept := State.trackExpiry_kept (s := s.advance dt) timers keeps copy
  refine ⟨fun valid => ?_, fun unmarked => ?_, fun run status => ?_⟩
  · obtain ⟨entries, gaps, low⟩ := kept.of_marked sound valid
    exact completes_of rfl ⟨entries, gaps, low, fun away => kept.of_on_track sound valid away, kept.run, kept.starved,
      kept.changes⟩
  · obtain ⟨entries, status, soon, run, clear⟩ := kept.of_unmarked unmarked
    exact completes_of rfl ⟨entries, status, soon, run, clear, kept.changes⟩
  · have same : ((s.advance dt).retireEntries p).statusNow p = (s.retireEntries p).statusNow p := by
      refine State.statusNow_congr p ?_ ?_ ?_
      · rw [State.retireEntries_entries, State.retireEntries_entries]
        rfl
      · rw [State.retireEntries_odo, State.retireEntries_odo]
        rfl
      · rw [State.retireEntries_inLimp, State.retireEntries_inLimp]
        rfl
    have starved : (s.advance dt).trackExpiry.track.status = .starved := kept.status.trans (same.trans status)
    have full : (s.advance dt).trackExpiry.track.starvedRun = 50 := by
      rw [kept.run, if_pos starved, show (s.advance dt).track.starvedRun = 49 from run]
      rfl
    have work : (s.advance dt).starvedExpiry = (s.advance dt).trackExpiry := by
      refine State.expiryIf_of ?_
      rw [full, show (s.advance dt).track.starvedRun = 49 from run]
      rfl
    exact completes_of work ⟨starved, full, kept.starved.trans (by rw [full]; rfl), kept.changes⟩

end Sys2Proof.Machine
end

section
/-! PROOFS. The steering expiry: its steps, the demand's law, FAILED (R81, R88, R90 to R98): O33, O34, O36. -/

namespace Sys2Proof.Machine

/-! ## Steps 1 and 2 (R81, R97, R98) -/

/-- A sound angle ends STEER_SENSOR and is held (R98). -/
theorem State.readSteer_sound (s : State) {a : Int} (low : -9000 ≤ a) (high : a ≤ 9000) :
    s.readSteer (.reading a) = (s.endCondition .steerSensor).setSteer { s.steer with measured := a } := by
  unfold State.readSteer
  rw [show soundReading (-Config.maxAngle) Config.maxAngle (.reading a) = some a from soundReading_reading ⟨low, high⟩]
  rfl

/-- A faulty angle ends in FAILED where STEER_SENSOR is new, and is held as 0 where it is not (R98). -/
theorem State.readSteer_faulty (s : State) {angle : AnalogIn} (faulty : faultyReading (-9000) 9000 angle) :
    (s.readSteer angle).hasCondition .steerSensor = true
    ∧ (s.readSteer angle).steer =
      if s.hasCondition .steerSensor then { s.steer with measured := 0 }
      else Steering.toFailed { s.steer with measured := 0 } := by
  unfold State.readSteer
  rw [show soundReading (-Config.maxAngle) Config.maxAngle angle = none from soundReading_faulty faulty]
  dsimp only
  have present : (s.follow .steerSensor true).hasCondition .steerSensor = true :=
    (State.hasCondition_follow ..).trans (if_pos rfl)
  split
  · refine ⟨present, ?_⟩
    rw [State.setSteer_steer, State.follow_steer]
  · refine ⟨present, ?_⟩
    rw [State.setSteer_steer, State.setSteer_steer, State.follow_steer]

theorem State.readSteer_cases (s : State) (angle : AnalogIn) :
    (∃ v, (s.readSteer angle).steer = { s.steer with measured := v })
    ∨ (∃ v, (s.readSteer angle).steer = Steering.toFailed { s.steer with measured := v }) := by
  unfold State.readSteer
  split
  · exact .inl ⟨_, rfl⟩
  · dsimp only
    rw [State.follow_steer]
    split
    · exact .inl ⟨0, rfl⟩
    · exact .inr ⟨0, rfl⟩

/-- Supervision ends in FAILED at a mismatch, and only counts otherwise (R97). -/
theorem State.superviseSteer_cases (s : State) :
    (s.steer.supervise.mismatched = true
      ∧ s.superviseSteer = ((s.setSteer s.steer.supervise).raiseEvent .steerMismatch).setSteer s.steer.supervise.toFailed)
    ∨ (s.steer.supervise.mismatched = false ∧ s.superviseSteer = s.setSteer s.steer.supervise) := by
  unfold State.superviseSteer
  dsimp only
  rw [State.setSteer_steer]
  by_cases fails : s.steer.supervise.mismatched = true
  · rw [if_pos fails]
    exact .inl ⟨fails, rfl⟩
  · rw [if_neg fails]
    exact .inr ⟨Bool.eq_false_iff.mpr fails, rfl⟩

/-! ## Step 3 (R82 to R87) -/

/-- A step keeps the output line and the angle, and, outside LOCKED, the demand and the raw target. -/
structure Steering.carries (x y : Steering) : Prop where
  line : y.line = x.line
  measured : y.measured = x.measured
  latch : y.failedLatch = x.failedLatch
  demand : y.mode ≠ .locked → y.applied = x.applied
  raw : y.mode ≠ .locked → y.unlimited = x.unlimited

theorem Steering.carries_toLocked (x : Steering) : x.carries x.toLocked :=
  ⟨rfl, rfl, rfl, fun moved => absurd rfl moved, fun moved => absurd rfl moved⟩

theorem State.modeFromLocked_carries (s : State) : s.steer.carries s.modeFromLocked := by
  unfold State.modeFromLocked
  dsimp only
  split
  · exact ⟨rfl, rfl, rfl, fun _ => rfl, fun _ => rfl⟩
  split
  · exact ⟨rfl, rfl, rfl, fun _ => rfl, fun _ => rfl⟩
  · exact ⟨rfl, rfl, rfl, fun _ => rfl, fun _ => rfl⟩

theorem State.modeFromTracking_carries (s : State) : s.steer.carries s.modeFromTracking := by
  unfold State.modeFromTracking
  dsimp only
  split
  · exact ⟨rfl, rfl, rfl, fun _ => rfl, fun _ => rfl⟩
  split
  · split
    · exact ⟨rfl, rfl, rfl, fun _ => rfl, fun _ => rfl⟩
    · exact ⟨rfl, rfl, rfl, fun _ => rfl, fun _ => rfl⟩
  · exact ⟨rfl, rfl, rfl, fun _ => rfl, fun _ => rfl⟩

theorem State.modeFromGuided_carries (s : State) : s.steer.carries s.modeFromGuided := by
  unfold State.modeFromGuided
  dsimp only
  split
  · exact ⟨rfl, rfl, rfl, fun _ => rfl, fun _ => rfl⟩
  split
  · exact ⟨rfl, rfl, rfl, fun _ => rfl, fun _ => rfl⟩
  · exact ⟨rfl, rfl, rfl, fun _ => rfl, fun _ => rfl⟩

theorem State.modeFromCentring_carries (s : State) : s.steer.carries s.modeFromCentring := by
  unfold State.modeFromCentring
  dsimp only
  split
  · exact Steering.carries_toLocked _
  · exact ⟨rfl, rfl, rfl, fun _ => rfl, fun _ => rfl⟩

theorem State.steerMode_carries (s : State) : s.steer.carries s.steerMode.steer := by
  unfold State.steerMode
  split
  · exact s.modeFromLocked_carries
  · exact s.modeFromTracking_carries
  · exact s.modeFromGuided_carries
  · exact s.modeFromCentring_carries
  · exact ⟨rfl, rfl, rfl, fun _ => rfl, fun _ => rfl⟩

/-! ## Steps 1 to 3 together (R81) -/

/-- The state after the output, the reading and the supervision. -/
def State.watched (s : State) (angle : AnalogIn) : State :=
  let read := (s.setSteer s.steer.output).readSteer angle
  if read.steer.mode = .failed then read else read.superviseSteer

/-- The state after the mode. -/
def State.steered (s : State) (angle : AnalogIn) : State :=
  if (s.watched angle).steer.failedLatch then s.watched angle else (s.watched angle).steerMode

theorem State.steerWork_eq (s : State) (angle : AnalogIn) (p : Params) :
    s.steerWork angle p = State.applySteer p (State.steerTarget p (s.steered angle)) := rfl

theorem State.watched_onlyChanges (s : State) (angle : AnalogIn) : s.onlyChanges [.steer, .sup] (s.watched angle) := by
  have read : s.onlyChanges [.steer, .sup] ((s.setSteer s.steer.output).readSteer angle) :=
    (State.onlyChanges_mono (State.setSteer_onlyChanges ..) (by decide)).step (State.readSteer_onlyChanges ..) (by decide)
  exact State.onlyChanges_ite read (State.onlyChanges_trans read (State.superviseSteer_onlyChanges _))

theorem State.steered_onlyChanges (s : State) (angle : AnalogIn) : s.onlyChanges [.steer, .sup] (s.steered angle) :=
  State.onlyChanges_ite (s.watched_onlyChanges angle)
    ((s.watched_onlyChanges angle).step (State.steerMode_onlyChanges _) (by decide))

theorem State.watched_stand (s : State) (angle : AnalogIn) : (s.watched angle).sup.stand = s.sup.stand := by
  have read : ((s.setSteer s.steer.output).readSteer angle).sup.stand = s.sup.stand := by
    unfold State.readSteer
    split
    · simp
    · dsimp only
      split <;> simp
  refine ite_keeps (P := fun t : State => t.sup.stand = s.sup.stand) read ?_
  rcases State.superviseSteer_cases ((s.setSteer s.steer.output).readSteer angle) with ⟨-, e⟩ | ⟨-, e⟩ <;> rw [e]
  · simp [read]
  · exact read

theorem State.steerMode_sup (s : State) : s.steerMode.sup = s.sup :=
  State.same_of_onlyChanges s.steerMode_onlyChanges .sup (by decide)

theorem State.steered_sup (s : State) (angle : AnalogIn) : (s.steered angle).sup = (s.watched angle).sup := by
  unfold State.steered
  split
  · rfl
  · exact State.steerMode_sup _

/-- What steps 1 and 2 make of the block, unless they end in FAILED. -/
theorem State.watched_steer (s : State) (angle : AnalogIn) :
    (s.watched angle).steer.mode = .failed
    ∨ ∃ v, (s.watched angle).steer = Steering.supervise { s.steer.output with measured := v } := by
  unfold State.watched
  dsimp only
  split
  · next failed => exact .inl failed
  · next active =>
    rcases State.superviseSteer_cases ((s.setSteer s.steer.output).readSteer angle) with ⟨-, e⟩ | ⟨-, e⟩ <;> rw [e]
    · exact .inl rfl
    · rcases (s.setSteer s.steer.output).readSteer_cases angle with ⟨v, read⟩ | ⟨v, read⟩
      · exact .inr ⟨v, by rw [State.setSteer_steer, read]; rfl⟩
      · exact absurd (by rw [read]; rfl) active

theorem State.steered_of_failed {s : State} {angle : AnalogIn} (failed : (s.watched angle).steer.mode = .failed) :
    s.steered angle = s.watched angle := by
  unfold State.steered State.steerMode
  rw [failed]
  split <;> rfl

/-- What steps 1 to 3 make of the block, unless it is then FAILED. -/
theorem State.steered_steer {s : State} {angle : AnalogIn} (active : (s.steered angle).steer.mode ≠ .failed) :
    (s.steered angle).steer.line = s.steer.staged
    ∧ ((s.steered angle).steer.mode ≠ .locked → (s.steered angle).steer.applied = s.steer.applied
      ∧ (s.steered angle).steer.unlimited = s.steer.unlimited) := by
  rcases s.watched_steer angle with failed | ⟨v, watched⟩
  · rw [State.steered_of_failed failed] at active
    exact absurd failed active
  · unfold State.steered
    split
    · rw [watched]
      exact ⟨rfl, fun _ => ⟨rfl, rfl⟩⟩
    · obtain ⟨line, -, -, demand, raw⟩ := (s.watched angle).steerMode_carries
      rw [watched] at line demand raw
      exact ⟨line, fun moved => ⟨demand moved, raw moved⟩⟩

/-! ## Steps 4 to 6, and the whole expiry (R90 to R96) -/

/-- The applied demand of step 5, on the state that step 3 leaves (R95). -/
def State.demandNow (s : State) (p : Params) : Int :=
  match s.steer.mode with
  | .locked | .failed => 0
  | .tracking | .guided | .centring =>
    rateLimited p.rateLimit s.steer.applied (clampInt (steerBound p s.odo.reference) (s.rawTarget p))

/-- The block after steps 4 to 6, from the state that step 3 leaves. -/
def State.demanded (s : State) (p : Params) : Steering :=
  { s.steer with
    unlimited := s.rawTarget p
    target := clampInt (steerBound p s.odo.reference) (s.rawTarget p)
    docking := if s.steer.mode = .tracking then s.dockingNow p else 0
    applied := s.demandNow p
    staged := s.demandNow p }

theorem State.applied_steer (s : State) (p : Params) : (State.applySteer p (State.steerTarget p s)).steer = s.demanded p :=
  rfl

theorem State.copy_of_steered {s : State} (steered : s.isSteered = true) : ∃ p, s.loader.copy = some p := by
  cases copy : s.loader.copy with
  | some p => exact ⟨p, rfl⟩
  | none => simp [State.isSteered, State.marksSteered, copy] at steered

/-- An expiry of the block (R79, R81). -/
theorem State.steerExpiry_eq {s : State} {p : Params} (working : s.working = true) (steered : s.isSteered = true)
    (copy : s.loader.copy = some p) (angle : AnalogIn) :
    (s.steerExpiry angle).steer = (s.steered angle).demanded p
    ∧ (∀ c, (s.steerExpiry angle).hasCondition c = (s.watched angle).hasCondition c) := by
  have on : (s.working && s.isSteered) = true := by rw [working, steered]; rfl
  have work : s.steerExpiry angle = (s.steerWork angle p).settle :=
    (if_pos on).trans (congrArg State.settle (State.withCopy_some copy _))
  rw [work, State.settle_steer, State.steerWork_eq]
  refine ⟨rfl, fun c => ?_⟩
  rw [State.hasCondition_settle]
  unfold State.hasCondition
  rw [← State.steered_sup]
  rfl

/-! ## A sound angle (R98) -/

section
variable {s : State} {a : Int} (low : -9000 ≤ a) (high : a ≤ 9000)
include low high

theorem State.watched_sound : s.watched (.reading a) =
    if s.steer.mode = .failed
    then (s.endCondition .steerSensor).setSteer { s.steer.output with measured := a }
    else ((s.endCondition .steerSensor).setSteer { s.steer.output with measured := a }).superviseSteer := by
  unfold State.watched
  dsimp only
  rw [State.readSteer_sound _ low high]
  rfl

theorem State.watched_measured : (s.watched (.reading a)).steer.measured = a
    ∧ (s.watched (.reading a)).hasCondition .steerSensor = false := by
  have ended (x : Steering) : ((s.endCondition .steerSensor).setSteer x).hasCondition .steerSensor = false := by
    refine (State.hasCondition_endCondition s .steerSensor .steerSensor).trans ?_
    simp
  rw [State.watched_sound low high]
  split
  · exact ⟨rfl, ended _⟩
  · rcases State.superviseSteer_cases ((s.endCondition .steerSensor).setSteer { s.steer.output with measured := a }) with
      ⟨-, e⟩ | ⟨-, e⟩ <;> rw [e]
    · refine ⟨rfl, ?_⟩
      refine (State.hasCondition_raiseEvent ..).trans ?_
      rw [Bool.and_eq_false_iff]
      exact .inl (ended _)
    · exact ⟨rfl, ended _⟩

theorem State.steered_measured : (s.steered (.reading a)).steer.measured = a := by
  have watched := (State.watched_measured (s := s) low high).1
  unfold State.steered
  split
  · exact watched
  · exact (s.watched (.reading a)).steerMode_carries.measured.trans watched

end

/-- Outside FAILED the line takes the demand staged before (R81, R96). -/
theorem State.steerExpiry_line {s : State} {angle : AnalogIn} (working : s.working = true) (steered : s.isSteered = true)
    (active : (s.steerExpiry angle).steer.mode ≠ .failed) : (s.steerExpiry angle).steer.line = s.steer.staged := by
  obtain ⟨p, copy⟩ := State.copy_of_steered steered
  have steer := (State.steerExpiry_eq working steered copy angle).1
  rw [steer] at active ⊢
  exact (State.steered_steer active).1

/-- Settles O33. -/
theorem steeringOutputsAndFails : Obligations.steering_outputs_and_fails := by
  intro dt s a working steered
  obtain ⟨p, copy⟩ := State.copy_of_steered steered
  have expiry (angle : AnalogIn) := State.steerExpiry_eq (s := s.advance dt) working steered copy angle
  have changes (angle : AnalogIn) := (s.advance dt).steerExpiry_onlyChanges angle
  refine ⟨fun low high => ?_, fun angle faulty clear => ?_⟩
  · obtain ⟨steer, condition⟩ := expiry (.reading a)
    obtain ⟨-, ended⟩ := State.watched_measured (s := s.advance dt) low high
    refine completes_of rfl ⟨?_, (condition _).trans ended, ?_,
      State.steerExpiry_line (s := s.advance dt) working steered, changes _⟩
    · exact (congrArg Steering.measured steer).trans (State.steered_measured low high)
    · exact (congrArg Steering.staged steer).trans (congrArg Steering.applied steer).symm
  · obtain ⟨steer, condition⟩ := expiry angle
    obtain ⟨present, read⟩ := ((s.advance dt).setSteer (s.advance dt).steer.output).readSteer_faulty faulty
    rw [if_neg (ne_true_of_eq_false (show ((s.advance dt).setSteer _).hasCondition .steerSensor = false from clear))] at read
    have watched : (s.advance dt).watched angle = ((s.advance dt).setSteer (s.advance dt).steer.output).readSteer angle :=
      if_pos (by rw [read]; rfl)
    rw [State.steered_of_failed (by rw [watched, read]; rfl), watched] at steer
    unfold State.demanded State.demandNow at steer
    rw [read] at steer
    refine completes_of rfl ⟨?_, ?_, ?_, ?_, ?_, ?_, ?_, (condition _).trans (watched ▸ present), changes _⟩
    · exact congrArg Steering.mode steer
    · exact congrArg Steering.failedLatch steer
    · exact congrArg Steering.solenoid steer
    · exact congrArg Steering.line steer
    · exact congrArg Steering.staged steer
    · exact congrArg Steering.applied steer
    · exact congrArg Steering.measured steer

/-! ## The target and the demand: O34 -/

theorem steerBound_nonneg (p : Params) (reference : Nat) : 0 ≤ steerBound p reference := by
  unfold steerBound
  split
  · exact Int.natCast_nonneg _
  split
  · next above below =>
    refine Int.sub_nonneg.mpr (Int.ofNat_le.mpr ?_)
    have bound : p.steerLimit * 75 * (reference - 417) ≤ p.steerLimit * 97200 := by
      rw [Nat.mul_assoc]
      exact Nat.mul_le_mul_left _ (by omega)
    unfold roundNat
    rw [Nat.div_le_iff_le_mul_add_pred (by decide)]
    omega
  · exact Int.natCast_nonneg _

/-- What the target law reads besides the block itself is what the expiry found. -/
theorem State.steered_reads (s : State) (angle : AnalogIn) :
    (s.steered angle).odo = s.odo ∧ (s.steered angle).joint = s.joint
    ∧ (s.steered angle).driverContent = s.driverContent
    ∧ ∀ offset, (s.steered angle).lookAhead offset = s.lookAhead offset := by
  have changes := s.steered_onlyChanges angle
  have odo : (s.steered angle).odo = s.odo := State.same_of_onlyChanges changes .odo (by decide)
  have joint : (s.steered angle).joint = s.joint := State.same_of_onlyChanges changes .joint (by decide)
  have driver : (s.steered angle).driver = s.driver := State.same_of_onlyChanges changes .driver (by decide)
  have track : (s.steered angle).track = s.track := State.same_of_onlyChanges changes .track (by decide)
  have mode : (s.steered angle).sup.mode = s.sup.mode := by
    rw [State.steered_sup]
    exact Supervisor.mode_of_stand (s.watched_stand angle)
  refine ⟨odo, joint, ?_, fun offset => ?_⟩
  · unfold State.driverContent State.driverUsable
    rw [driver]
  · unfold State.lookAhead State.inLimp
    rw [odo, track, mode]

/-- The docking contribution, where it is asked for (R93). -/
theorem State.dockingNow_eq (s : State) (p : Params) : s.dockingNow p =
    if s.driverContent.any (fun c => c.docking) = true ∧ s.odo.reference < 278 then
      (if p.kerbSide = 1 then (p.dockingOffset : Int) else -(p.dockingOffset : Int))
    else 0 := by
  unfold State.dockingNow State.driverField
  cases s.driverContent with
  | none => simp
  | some c => rfl

theorem State.dockingNow_congr {s t : State} (p : Params) (odo : t.odo = s.odo)
    (driver : t.driverContent = s.driverContent) : t.dockingNow p = s.dockingNow p := by
  unfold State.dockingNow State.driverField
  rw [odo, driver]

section
variable {s : State} {p : Params}

theorem State.rawTarget_of_passive (passive : s.steer.mode = .locked ∨ s.steer.mode = .failed ∨ s.steer.mode = .centring) :
    s.rawTarget p = 0 := by
  unfold State.rawTarget
  rcases passive with mode | mode | mode <;> rw [mode]

theorem State.rawTarget_of_guided (guided : s.steer.mode = .guided) :
    s.rawTarget p = -roundInt (p.guidedGain * s.joint.measured) 1000 := by
  unfold State.rawTarget
  rw [guided]
  rfl

theorem State.rawTarget_of_tracking (tracking : s.steer.mode = .tracking) : s.rawTarget p =
    match s.lookAhead (roundNat p.steerLever 2) with
    | some l => halfChord p.steerLever l.curvature + s.dockingNow p
    | none => s.steer.unlimited := by
  unfold State.rawTarget
  rw [tracking]
  rfl

theorem State.demandNow_of_passive (passive : s.steer.mode = .locked ∨ s.steer.mode = .failed) : s.demandNow p = 0 := by
  unfold State.demandNow
  rcases passive with mode | mode <;> rw [mode]

theorem State.demandNow_of_active (moved : s.steer.mode ≠ .locked) (active : s.steer.mode ≠ .failed) :
    s.demandNow p = rateLimited p.rateLimit s.steer.applied (s.demanded p).target := by
  unfold State.demandNow State.demanded
  cases mode : s.steer.mode with
  | locked => exact absurd mode moved
  | failed => exact absurd mode active
  | tracking | guided | centring => rfl

end

/-- Settles O34. -/
theorem steerTargetAndDemandFollowTheirLaws : Obligations.steer_target_and_demand_follow_their_laws := by
  intro dt angle s p working steered copy
  have steer := (State.steerExpiry_eq (s := s.advance dt) working steered copy angle).1
  have changes := (s.advance dt).steerExpiry_onlyChanges angle
  obtain ⟨odo, joint, driver, look⟩ := (s.advance dt).steered_reads angle
  have carried := State.steered_steer (s := s.advance dt) (angle := angle)
  have docked := State.dockingNow_congr p odo driver
  change State.onlyChanges _ _ ((s.advance dt).steerExpiry angle) at changes
  refine completes_of (t := (s.advance dt).steerExpiry angle) rfl ?_
  generalize (s.advance dt).steerExpiry angle = t at steer changes
  generalize (s.advance dt).steered angle = m at steer odo joint driver look carried docked
  have mode : t.steer.mode = m.steer.mode := (congrArg Steering.mode steer).trans rfl
  have raw : t.steer.unlimited = m.rawTarget p := congrArg Steering.unlimited steer
  have target : t.steer.target = clampInt (steerBound p s.odo.reference) (m.rawTarget p) := by
    rw [show s.odo = m.odo from odo.symm]
    exact congrArg Steering.target steer
  have docking : t.steer.docking = if m.steer.mode = .tracking then m.dockingNow p else 0 :=
    congrArg Steering.docking steer
  have applied : t.steer.applied = m.demandNow p := congrArg Steering.applied steer
  obtain ⟨least, most⟩ := clampInt_bounds (steerBound_nonneg p s.odo.reference) (m.rawTarget p)
  refine ⟨fun passive => ?_, fun moved active => ?_, congrArg Steering.staged steer |>.trans applied.symm,
    target.trans (congrArg _ raw.symm), fun passive => ?_, fun guided => ?_, fun tracking => ?_,
    target ▸ least, target ▸ most, changes⟩
  · rw [applied]
    exact State.demandNow_of_passive (mode ▸ passive)
  · rw [mode] at moved active
    rw [applied, State.demandNow_of_active moved active, (carried active).2 moved |>.1]
    rw [show (m.demanded p).target = t.steer.target from congrArg Steering.target steer.symm]
    rfl
  · rw [mode] at passive
    rw [raw, docking, State.rawTarget_of_passive passive]
    refine ⟨rfl, if_neg fun tracking => ?_⟩
    rw [tracking] at passive
    simp at passive
  · rw [mode] at guided
    rw [raw, docking, State.rawTarget_of_guided guided, joint, guided]
    exact ⟨rfl, rfl⟩
  · rw [mode] at tracking
    rw [raw, docking, State.rawTarget_of_tracking tracking, if_pos tracking, docked, look]
    refine ⟨State.dockingNow_eq _ p, fun l found => ?_, fun under => ?_⟩
    · rw [show (s.advance dt).lookAhead (roundNat p.steerLever 2) = some l from found]
    · rw [show (s.advance dt).lookAhead (roundNat p.steerLever 2) = none from under]
      exact ((carried (by rw [tracking]; decide)).2 (by rw [tracking]; decide)).2

end Sys2Proof.Machine
end

section
/-! PROOFS. The mismatch tests and the moves of the steer mode (R82 to R87, R97): O35, O36. -/

namespace Sys2Proof.Machine

/-- The block as a sound angle finds it: the staged demand is on the line, the angle held. -/
def Steering.heard (x : Steering) (a : Int) : Steering := { x.output with measured := a }

section
variable {s : State} {a : Int} (low : -9000 ≤ a) (high : a ≤ 9000) (active : s.steer.mode ≠ .failed)
include low high active

theorem State.watched_active : s.watched (.reading a) =
    ((s.endCondition .steerSensor).setSteer (s.steer.heard a)).superviseSteer :=
  (State.watched_sound low high).trans (if_neg active)

theorem State.supervisedSteer_eq (working : s.working = true) (steered : s.isSteered = true) :
    s.supervisedSteer (.reading a) = some (s.steer.heard a).supervise := by
  unfold State.supervisedSteer
  dsimp only
  rw [State.readSteer_sound _ low high, working, steered]
  exact if_pos (by simpa [Steering.output] using active)

end

/-! ## A mismatch: O36 -/

/-- What closes at a step's end keeps every record (R181). -/
theorem State.settle_exists_code {s : State} {c : FaultCode} (h : ∃ r ∈ s.sup.faults, r.code = c) :
    ∃ r ∈ s.settle.sup.faults, r.code = c := by
  refine State.settle_keeps_pending (Q := fun t => ∃ r ∈ t.sup.faults, r.code = c) h ?_
    (fun t u _ _ faults known => by rw [faults]; exact known)
  rintro t d ⟨r, mem, code⟩
  rw [State.applyPending_faults, Supervisor.undefer_eq]
  refine ⟨_, List.mem_map_of_mem mem, ?_⟩
  split
  · exact (FaultRecord.undefer_code ..).trans code
  · exact code

/-- An expiry whose supervision fails ends in FAILED, with STEER_MISMATCH recorded (R88, R97). -/
theorem State.steerExpiry_of_mismatched {s : State} {a : Int} (working : s.working = true) (steered : s.isSteered = true)
    (low : -9000 ≤ a) (high : a ≤ 9000) (active : s.steer.mode ≠ .failed)
    (mismatched : (s.steer.heard a).supervise.mismatched = true) :
    (s.steerExpiry (.reading a)).steer.mode = .failed ∧ (s.steerExpiry (.reading a)).steer.failedLatch = true
    ∧ (s.steerExpiry (.reading a)).steer.solenoid = false ∧ (s.steerExpiry (.reading a)).steer.line = 0
    ∧ (s.steerExpiry (.reading a)).steer.staged = 0 ∧ (s.steerExpiry (.reading a)).hasCondition .steerMismatch = false
    ∧ (s.sup.faults.length < 15 → ∃ x ∈ (s.steerExpiry (.reading a)).sup.faults, x.code = .steerMismatch)
    ∧ s.onlyChanges [.steer, .sup, .odo, .joint, .air, .doors] (s.steerExpiry (.reading a)) := by
  obtain ⟨p, copy⟩ := State.copy_of_steered steered
  obtain ⟨steer, condition⟩ := State.steerExpiry_eq working steered copy (.reading a)
  have watched := State.watched_active low high active
  rcases State.superviseSteer_cases ((s.endCondition .steerSensor).setSteer (s.steer.heard a)) with ⟨-, e⟩ | ⟨fits, -⟩
  swap
  · exact absurd (mismatched.symm.trans fits) (by decide)
  rw [e] at watched
  have failed : (s.watched (.reading a)).steer = (s.steer.heard a).supervise.toFailed := by rw [watched]; rfl
  rw [State.steered_of_failed (by rw [failed]; rfl)] at steer
  unfold State.demanded State.demandNow at steer
  rw [failed] at steer
  refine ⟨(congrArg Steering.mode steer).trans rfl, (congrArg Steering.failedLatch steer).trans rfl,
    (congrArg Steering.solenoid steer).trans rfl, (congrArg Steering.line steer).trans rfl,
    (congrArg Steering.staged steer).trans rfl, ?_, fun room => ?_, s.steerExpiry_onlyChanges _⟩
  · rw [condition, watched]
    refine (State.hasCondition_raiseEvent ..).trans ?_
    simp
  · have on : (s.working && s.isSteered) = true := by rw [working, steered]; rfl
    have work : s.steerExpiry (.reading a) = (s.steerWork (.reading a) p).settle :=
      (if_pos on).trans (congrArg State.settle (State.withCopy_some copy _))
    have room' : ((s.endCondition .steerSensor).setSteer (s.steer.heard a)).sup.faults.length < 16 := by
      change (s.sup.faults.map _).length < 16
      rw [List.length_map]
      exact Nat.lt_succ_of_lt room
    obtain ⟨r, mem, code, -⟩ := State.exists_record_raiseEvent
      (s := ((s.endCondition .steerSensor).setSteer (s.steer.heard a)).setSteer (s.steer.heard a).supervise) room'
      (c := .steerMismatch) (by decide) rfl
    have sup : (s.steerWork (.reading a) p).sup = (s.watched (.reading a)).sup := State.steered_sup s _
    rw [work]
    refine State.settle_exists_code (c := .steerMismatch) ⟨r, ?_, code⟩
    rw [sup, watched]
    exact mem

/-- Settles O36. -/
theorem steerMismatchEndsInFailed : Obligations.steer_mismatch_ends_in_failed := by
  intro dt s a working steered low high
  refine ⟨fun follows run apart => ?_, fun centring travel => ?_⟩
  · have active : s.steer.mode ≠ .failed := by rcases follows with mode | mode <;> rw [mode] <;> decide
    have full : (s.steer.heard a).supervise.mismatch = 20 := by
      have counts : ((s.steer.mode == .tracking || s.steer.mode == .guided
          || (s.steer.mode == .centring && s.steer.staged != 0)) && decide (300 < (s.steer.staged - a).natAbs)) = true := by
        rw [decide_eq_true apart]
        rcases follows with mode | mode <;> rw [mode] <;> rfl
      refine (if_pos counts).trans ?_
      change min 20 (s.steer.mismatch + 1) = 20
      rw [run]
      rfl
    have work : (s.advance dt).mismatchExpiry (.reading a) = (s.advance dt).steerExpiry (.reading a) := by
      refine State.expiryIf_of ?_
      rw [State.supervisedSteer_eq (s := s.advance dt) low high active working steered]
      exact beq_iff_eq.mpr full
    exact completes_of work (State.steerExpiry_of_mismatched (s := s.advance dt) working steered low high active
      (Bool.or_eq_true_iff.mpr (.inl (beq_iff_eq.mpr full))))
  · have active : s.steer.mode ≠ .failed := by rw [centring]; decide
    have full : (s.steer.heard a).supervise.travel = 200 := by
      have begun : 0 < s.steer.travel := by omega
      refine (if_pos centring).trans ((if_pos (.inr begun)).trans ?_)
      change min 200 (s.steer.travel + 1) = 200
      rw [travel]
      rfl
    have work : (s.advance dt).travelExpiry (.reading a) = (s.advance dt).steerExpiry (.reading a) := by
      refine State.expiryIf_of ?_
      rw [State.supervisedSteer_eq (s := s.advance dt) low high active working steered]
      exact beq_iff_eq.mpr full
    exact completes_of work (State.steerExpiry_of_mismatched (s := s.advance dt) working steered low high active
      (Bool.or_eq_true_iff.mpr (.inr (beq_iff_eq.mpr full))))

/-! ## The moves (R82 to R87) -/

theorem countRun_eq_succ_iff {n run : Nat} {condition : Bool} :
    countRun (n + 1) run condition = n + 1 ↔ condition = true ∧ n ≤ run := by
  unfold countRun
  cases condition <;> simp

theorem countRun_eq_of_ne {n run : Nat} {condition : Bool} (short : ¬(condition = true ∧ n ≤ run)) :
    countRun (n + 1) run condition = if condition then run + 1 else 0 := by
  unfold countRun
  cases condition
  · rfl
  · simp only [if_true]
    have : ¬n ≤ run := fun full => short ⟨rfl, full⟩
    omega

theorem State.modeFromLocked_eq (s : State) : s.modeFromLocked =
    if (!s.steer.atCentre) = true ∧ 9 ≤ s.steer.lockLoss then s.steer.toCentring
    else if s.mayTrack = true then s.steer.toTracking
    else { s.steer with lockLoss := if !s.steer.atCentre then s.steer.lockLoss + 1 else 0 } := by
  by_cases full : (!s.steer.atCentre) = true ∧ 9 ≤ s.steer.lockLoss
  · exact (if_pos (countRun_eq_succ_iff.mpr full)).trans (if_pos full).symm
  · rw [if_neg full, ← countRun_eq_of_ne full]
    exact if_neg (mt countRun_eq_succ_iff.mp full)

theorem State.modeFromTracking_eq (s : State) : s.modeFromTracking =
    if s.mustCentre = true then s.steer.toCentring
    else if ((s.track.status != .valid) = true ∧ 49 ≤ s.steer.notValid) ∨ 3000 < s.odo.borrowTime ∨ s.ownAlert = true then
      if s.jointUsable = true then s.steer.toGuided else s.steer.toCentring
    else { s.steer with notValid := if s.track.status != .valid then s.steer.notValid + 1 else 0 } := by
  unfold State.modeFromTracking
  refine if_congr Iff.rfl rfl ?_
  by_cases leaves : ((s.track.status != .valid) = true ∧ 49 ≤ s.steer.notValid) ∨ 3000 < s.odo.borrowTime ∨ s.ownAlert = true
  · rw [if_pos leaves]
    exact if_pos (leaves.imp_left countRun_eq_succ_iff.mpr)
  · rw [if_neg leaves, ← countRun_eq_of_ne fun full => leaves (.inl full)]
    exact if_neg (mt (Or.imp_left countRun_eq_succ_iff.mp) leaves)

theorem State.modeFromGuided_eq (s : State) : s.modeFromGuided =
    if (s.mustCentre || !s.jointUsable) = true then s.steer.toCentring
    else if (s.track.status == .valid && s.odo.borrowTime == 0 && !s.ownAlert) = true ∧ 99 ≤ s.steer.guidedExit then
      s.steer.toTracking
    else { s.steer with
      guidedExit := if s.track.status == .valid && s.odo.borrowTime == 0 && !s.ownAlert then s.steer.guidedExit + 1 else 0 } := by
  unfold State.modeFromGuided
  refine if_congr Iff.rfl rfl ?_
  by_cases full : (s.track.status == .valid && s.odo.borrowTime == 0 && !s.ownAlert) = true ∧ 99 ≤ s.steer.guidedExit
  · exact (if_pos (countRun_eq_succ_iff.mpr full)).trans (if_pos full).symm
  · rw [if_neg full, ← countRun_eq_of_ne full]
    exact if_neg (mt countRun_eq_succ_iff.mp full)

theorem State.modeFromCentring_eq (s : State) : s.modeFromCentring =
    if (s.steer.applied == 0 && s.steer.atCentre) = true ∧ 9 ≤ s.steer.centred then s.steer.toLocked
    else { s.steer with centred := if s.steer.applied == 0 && s.steer.atCentre then s.steer.centred + 1 else 0 } := by
  by_cases full : (s.steer.applied == 0 && s.steer.atCentre) = true ∧ 9 ≤ s.steer.centred
  · exact (if_pos (countRun_eq_succ_iff.mpr full)).trans (if_pos full).symm
  · rw [if_neg full, ← countRun_eq_of_ne full]
    exact if_neg (mt countRun_eq_succ_iff.mp full)

/-! ## The conditions of the moves -/

theorem State.mustCentre_iff (s : State) : s.mustCentre = true ↔ s.calledToCentre := by
  unfold State.mustCentre State.calledToCentre
  simp [or_assoc]

theorem State.jointUsable_iff (s : State) : s.jointUsable = true ↔ s.jointServes := by
  unfold State.jointUsable State.jointServes
  simp [and_assoc]

theorem State.ownAlert_iff (s : State) : s.ownAlert = true ↔ s.jointAlerts := by
  unfold State.ownAlert State.jointAlerts
  simp

/-! ## The block after an expiry without a mismatch -/

/-- The state that step 3 finds after a sound angle and no mismatch. -/
def State.calm (s : State) (a : Int) : State := (s.endCondition .steerSensor).setSteer (s.steer.heard a).supervise

theorem State.calm_jointUsable (s : State) (a : Int) : (s.calm a).jointUsable = s.jointUsable := by
  have same : (s.calm a).hasCondition .jointSensor = s.hasCondition .jointSensor := by
    refine (State.hasCondition_endCondition s .steerSensor .jointSensor).trans ?_
    simp
  unfold State.jointUsable
  rw [same]
  rfl

theorem State.calm_atCentre (s : State) (a : Int) : (s.calm a).steer.atCentre = decide (a.natAbs ≤ 50) := rfl

theorem State.calm_mayTrack_iff (s : State) (a : Int) : (s.calm a).mayTrack = true ↔
    s.runOrDegraded = true ∧ s.driverUsable = true ∧ s.odo.direction = .forward ∧ s.track.status = .valid ∧ a.natAbs ≤ 50
      ∧ s.odo.borrowTime ≤ 3000 ∧ ¬s.jointAlerts ∧ ¬s.calledToCentre := by
  have alert : (s.calm a).ownAlert = s.ownAlert := rfl
  have centre : (s.calm a).mustCentre = s.mustCentre := rfl
  unfold State.mayTrack
  rw [State.calm_atCentre, alert, centre, ← State.ownAlert_iff, ← State.mustCentre_iff]
  simp only [Bool.and_eq_true, and_assoc, beq_iff_eq, decide_eq_true_eq, Bool.not_eq_true', Bool.not_eq_true]
  rfl

/-- Neither test of R97 fails (R97). -/
theorem Steering.heard_fits {x : Steering} {a : Int}
    (small : x.mode = .locked ∨ (x.staged - a).natAbs ≤ 300 ∨ x.mismatch < 19)
    (travels : x.mode = .centring → x.travel < 199) : (x.heard a).supervise.mismatched = false := by
  have run : (x.heard a).supervise.mismatch ≠ 20 := by
    change countRun 20 x.mismatch ((x.mode == .tracking || x.mode == .guided || (x.mode == .centring && x.staged != 0))
      && decide (300 < (x.staged - a).natAbs)) ≠ 20
    rw [Ne, countRun_eq_succ_iff, Bool.and_eq_true, decide_eq_true_eq]
    rintro ⟨⟨follows, apart⟩, full⟩
    rcases small with mode | near | few
    · rw [mode] at follows
      exact absurd follows (by simp)
    · omega
    · omega
  have travel : (x.heard a).supervise.travel ≠ 200 := by
    change (if x.mode = .centring then (if x.staged = 0 ∨ 0 < x.travel then min 200 (x.travel + 1) else 0) else 0) ≠ 200
    by_cases centring : x.mode = .centring
    · have short := travels centring
      rw [if_pos centring]
      split <;> omega
    · rw [if_neg centring]
      decide
  unfold Steering.mismatched
  rw [Bool.or_eq_false_iff]
  exact ⟨beq_eq_false_iff_ne.mpr run, beq_eq_false_iff_ne.mpr travel⟩

/-- Without a mismatch the expiry moves the mode by step 3 (R81). -/
theorem State.steerExpiry_of_calm {s : State} {a : Int} (working : s.working = true) (steered : s.isSteered = true)
    (unlatched : s.steer.failedLatch = false) (low : -9000 ≤ a) (high : a ≤ 9000) (active : s.steer.mode ≠ .failed)
    (fits : (s.steer.heard a).supervise.mismatched = false) :
    ∃ p, (s.steerExpiry (.reading a)).steer = (s.calm a).steerMode.demanded p := by
  obtain ⟨p, copy⟩ := State.copy_of_steered steered
  have steer := (State.steerExpiry_eq working steered copy (.reading a)).1
  have watched := State.watched_active low high active
  rcases State.superviseSteer_cases ((s.endCondition .steerSensor).setSteer (s.steer.heard a)) with ⟨fails, -⟩ | ⟨-, e⟩
  · exact absurd (fails.symm.trans fits) (by decide)
  rw [e] at watched
  refine ⟨p, steer.trans ?_⟩
  have moded : s.steered (.reading a) = (s.watched (.reading a)).steerMode := by
    refine if_neg ?_
    rw [watched]
    exact ne_true_of_eq_false unlatched
  rw [moded, watched]
  rfl

section
variable (s : State) (a : Int)

theorem State.calm_offCentre_iff : (!(s.calm a).steer.atCentre) = true ↔ 50 < a.natAbs := by
  rw [State.calm_atCentre]
  simp

theorem State.calm_offTrack_iff : ((s.calm a).track.status != .valid) = true ↔ s.track.status ≠ .valid := bne_iff_ne

theorem State.calm_onTrack_iff :
    ((s.calm a).track.status == .valid && (s.calm a).odo.borrowTime == 0 && !(s.calm a).ownAlert) = true
      ↔ s.track.status = .valid ∧ s.odo.borrowTime = 0 ∧ ¬s.jointAlerts := by
  rw [← State.ownAlert_iff]
  simp only [Bool.and_eq_true, and_assoc, beq_iff_eq, Bool.not_eq_true', Bool.not_eq_true]
  rfl

theorem State.calm_centred_iff :
    ((s.calm a).steer.applied == 0 && (s.calm a).steer.atCentre) = true ↔ s.steer.applied = 0 ∧ a.natAbs ≤ 50 := by
  rw [State.calm_atCentre, Bool.and_eq_true, beq_iff_eq, decide_eq_true_eq]
  rfl

theorem State.calm_fromLocked : (s.calm a).modeFromLocked =
    if 50 < a.natAbs ∧ 9 ≤ s.steer.lockLoss then (s.calm a).steer.toCentring
    else if s.runOrDegraded = true ∧ s.driverUsable = true ∧ s.odo.direction = .forward ∧ s.track.status = .valid
      ∧ a.natAbs ≤ 50 ∧ s.odo.borrowTime ≤ 3000 ∧ ¬s.jointAlerts ∧ ¬s.calledToCentre then (s.calm a).steer.toTracking
    else { (s.calm a).steer with lockLoss := if 50 < a.natAbs then s.steer.lockLoss + 1 else 0 } := by
  refine (s.calm a).modeFromLocked_eq.trans (if_congr (and_congr (s.calm_offCentre_iff a) Iff.rfl) rfl
    (if_congr (s.calm_mayTrack_iff a) rfl ?_))
  rw [if_congr (s.calm_offCentre_iff a) rfl rfl]
  rfl

theorem State.calm_fromTracking : (s.calm a).modeFromTracking =
    if s.calledToCentre then (s.calm a).steer.toCentring
    else if (s.track.status ≠ .valid ∧ 49 ≤ s.steer.notValid) ∨ 3000 < s.odo.borrowTime ∨ s.jointAlerts then
      if s.jointServes then (s.calm a).steer.toGuided else (s.calm a).steer.toCentring
    else { (s.calm a).steer with notValid := if s.track.status ≠ .valid then s.steer.notValid + 1 else 0 } := by
  refine (s.calm a).modeFromTracking_eq.trans (if_congr s.mustCentre_iff rfl
    (if_congr (or_congr (and_congr (s.calm_offTrack_iff a) Iff.rfl) (or_congr Iff.rfl s.ownAlert_iff))
      (if_congr ?_ rfl rfl) ?_))
  · rw [State.calm_jointUsable]
    exact s.jointUsable_iff
  · rw [if_congr (s.calm_offTrack_iff a) rfl rfl]
    rfl

theorem State.calm_fromGuided : (s.calm a).modeFromGuided =
    if s.calledToCentre ∨ ¬s.jointServes then (s.calm a).steer.toCentring
    else if (s.track.status = .valid ∧ s.odo.borrowTime = 0 ∧ ¬s.jointAlerts) ∧ 99 ≤ s.steer.guidedExit then
      (s.calm a).steer.toTracking
    else { (s.calm a).steer with
      guidedExit :=
        if s.track.status = .valid ∧ s.odo.borrowTime = 0 ∧ ¬s.jointAlerts then s.steer.guidedExit + 1 else 0 } := by
  refine (s.calm a).modeFromGuided_eq.trans (if_congr ?_ rfl
    (if_congr (and_congr (s.calm_onTrack_iff a) Iff.rfl) rfl ?_))
  · rw [State.calm_jointUsable, Bool.or_eq_true, Bool.not_eq_true', ← Bool.not_eq_true]
    exact or_congr s.mustCentre_iff (not_congr s.jointUsable_iff)
  · rw [if_congr (s.calm_onTrack_iff a) rfl rfl]
    rfl

theorem State.calm_fromCentring : (s.calm a).modeFromCentring =
    if (s.steer.applied = 0 ∧ a.natAbs ≤ 50) ∧ 9 ≤ s.steer.centred then (s.calm a).steer.toLocked
    else { (s.calm a).steer with
      centred := if s.steer.applied = 0 ∧ a.natAbs ≤ 50 then s.steer.centred + 1 else 0 } := by
  refine (s.calm a).modeFromCentring_eq.trans (if_congr (and_congr (s.calm_centred_iff a) Iff.rfl) rfl ?_)
  rw [if_congr (s.calm_centred_iff a) rfl rfl]
  rfl

end

section
variable {s : State} {a : Int} {t : Steering} {p : Params} (moved : t = (s.calm a).steerMode.demanded p)
include moved

/-- The moves from LOCKED (R82, R83). -/
theorem State.moves_from_locked (locked : s.steer.mode = .locked) :
    t.mode =
        (if 50 < a.natAbs ∧ 9 ≤ s.steer.lockLoss then SteerMode.centring
        else if s.runOrDegraded = true ∧ s.driverUsable = true ∧ s.odo.direction = .forward
          ∧ s.track.status = .valid ∧ a.natAbs ≤ 50 ∧ s.odo.borrowTime ≤ 3000 ∧ ¬s.jointAlerts
          ∧ ¬s.calledToCentre then .tracking
        else .locked)
      ∧ t.solenoid = (if t.mode = .locked then s.steer.solenoid else true)
      ∧ (t.mode = .locked → t.lockLoss = if 50 < a.natAbs then s.steer.lockLoss + 1 else 0) := by
  have mode : (s.calm a).steerMode = (s.calm a).setSteer (s.calm a).modeFromLocked := by
    unfold State.steerMode
    rw [show (s.calm a).steer.mode = .locked from locked]
  rw [mode, State.calm_fromLocked] at moved
  split at moved
  · next lost =>
    rw [if_pos lost, moved]
    exact ⟨rfl, rfl, fun stays => absurd stays (by simp [State.demanded, Steering.toCentring])⟩
  · next holds =>
    rw [if_neg holds]
    split at moved
    · next may =>
      rw [if_pos may, moved]
      exact ⟨rfl, rfl, fun stays => absurd stays (by simp [State.demanded, Steering.toTracking])⟩
    · next may =>
      have stays : t.mode = .locked := by rw [moved]; exact locked
      rw [if_neg may, stays, if_pos rfl, moved]
      exact ⟨rfl, rfl, fun _ => rfl⟩

/-- The moves from TRACKING (R84, R85). -/
theorem State.moves_from_tracking (tracking : s.steer.mode = .tracking) :
    t.mode =
        (if s.calledToCentre then SteerMode.centring
        else if (s.track.status ≠ .valid ∧ 49 ≤ s.steer.notValid) ∨ 3000 < s.odo.borrowTime ∨ s.jointAlerts then
          (if s.jointServes then .guided else .centring)
        else .tracking)
      ∧ t.solenoid = (if t.mode = .centring then true else s.steer.solenoid)
      ∧ t.notValid = (if t.mode = .tracking ∧ s.track.status ≠ .valid then s.steer.notValid + 1 else 0)
      ∧ (t.mode = .guided → t.guidedExit = 0) := by
  have mode : (s.calm a).steerMode = (s.calm a).setSteer (s.calm a).modeFromTracking := by
    unfold State.steerMode
    rw [show (s.calm a).steer.mode = .tracking from tracking]
  rw [mode, State.calm_fromTracking] at moved
  split at moved
  · next called =>
    rw [if_pos called, moved]
    exact ⟨rfl, rfl, rfl, fun guided => absurd guided (by simp [State.demanded, Steering.toCentring])⟩
  · next free =>
    rw [if_neg free]
    split at moved
    · next leaves =>
      rw [if_pos leaves]
      split at moved
      · next serves =>
        rw [if_pos serves, moved]
        exact ⟨rfl, rfl, rfl, fun _ => rfl⟩
      · next fails =>
        rw [if_neg fails, moved]
        exact ⟨rfl, rfl, rfl, fun guided => absurd guided (by simp [State.demanded, Steering.toCentring])⟩
    · next stays =>
      have mode' : t.mode = .tracking := by rw [moved]; exact tracking
      rw [if_neg stays, mode', moved]
      refine ⟨rfl, rfl, ?_, fun guided => absurd guided (by decide)⟩
      exact if_congr (by simp) rfl rfl

/-- The moves from GUIDED (R84, R86). -/
theorem State.moves_from_guided (guided : s.steer.mode = .guided) :
    t.mode =
        (if s.calledToCentre ∨ ¬s.jointServes then SteerMode.centring
        else if s.track.status = .valid ∧ s.odo.borrowTime = 0 ∧ ¬s.jointAlerts ∧ 99 ≤ s.steer.guidedExit then .tracking
        else .guided)
      ∧ t.solenoid = (if t.mode = .guided then s.steer.solenoid else true)
      ∧ t.guidedExit =
        (if t.mode = .guided ∧ s.track.status = .valid ∧ s.odo.borrowTime = 0 ∧ ¬s.jointAlerts then s.steer.guidedExit + 1
        else 0)
      ∧ (t.mode = .tracking → t.notValid = 0) := by
  have mode : (s.calm a).steerMode = (s.calm a).setSteer (s.calm a).modeFromGuided := by
    unfold State.steerMode
    rw [show (s.calm a).steer.mode = .guided from guided]
  rw [mode, State.calm_fromGuided] at moved
  split at moved
  · next called =>
    rw [if_pos called, moved]
    exact ⟨rfl, rfl, rfl, fun tracking => absurd tracking (by simp [State.demanded, Steering.toCentring])⟩
  · next free =>
    rw [if_neg free]
    split at moved
    · next full =>
      rw [if_pos ⟨full.1.1, full.1.2.1, full.1.2.2, full.2⟩, moved]
      exact ⟨rfl, rfl, rfl, fun _ => rfl⟩
    · next stays =>
      have mode' : t.mode = .guided := by rw [moved]; exact guided
      rw [if_neg fun ⟨valid, own, quiet, long⟩ => stays ⟨⟨valid, own, quiet⟩, long⟩, mode', moved]
      refine ⟨rfl, rfl, ?_, fun tracking => absurd tracking (by decide)⟩
      exact if_congr (by simp) rfl rfl

/-- The moves from CENTRING (R87). -/
theorem State.moves_from_centring (centring : s.steer.mode = .centring) :
    t.mode = (if s.steer.applied = 0 ∧ a.natAbs ≤ 50 ∧ 9 ≤ s.steer.centred then SteerMode.locked else .centring)
      ∧ t.solenoid = (if t.mode = .locked then false else s.steer.solenoid)
      ∧ t.centred =
        (if t.mode = .centring ∧ s.steer.applied = 0 ∧ a.natAbs ≤ 50 then s.steer.centred + 1 else 0) := by
  have mode : (s.calm a).steerMode = (s.calm a).setSteer (s.calm a).modeFromCentring := by
    unfold State.steerMode
    rw [show (s.calm a).steer.mode = .centring from centring]
  rw [mode, State.calm_fromCentring] at moved
  split at moved
  · next full =>
    rw [if_pos ⟨full.1.1, full.1.2, full.2⟩, moved]
    exact ⟨rfl, rfl, rfl⟩
  · next stays =>
    have mode' : t.mode = .centring := by rw [moved]; exact centring
    rw [if_neg fun ⟨straight, near, long⟩ => stays ⟨⟨straight, near⟩, long⟩, mode', moved]
    refine ⟨rfl, rfl, ?_⟩
    exact if_congr (by simp) rfl rfl

end

theorem State.steerMoves_of {s t : State} {before after : SteerMode} (was : s.steer.mode = before)
    (is : t.steer.mode = after) : s.steerMoves t before after = true := by
  unfold State.steerMoves
  rw [was, is, beq_self_eq_true, beq_self_eq_true]
  rfl

/-- Where TRACKING is left after the not-valid run (R85). -/
theorem State.leavesTracking_eq {s : State} (away : s.track.status ≠ .valid) (full : 49 ≤ s.steer.notValid) :
    (if s.calledToCentre then SteerMode.centring
      else if (s.track.status ≠ .valid ∧ 49 ≤ s.steer.notValid) ∨ 3000 < s.odo.borrowTime ∨ s.jointAlerts then
        (if s.jointServes then .guided else .centring)
      else .tracking) =
    if s.mustCentre = false ∧ s.jointUsable = true then SteerMode.guided else SteerMode.centring := by
  rw [if_pos (show (s.track.status ≠ .valid ∧ 49 ≤ s.steer.notValid) ∨ 3000 < s.odo.borrowTime ∨ s.jointAlerts from
    .inl ⟨away, full⟩)]
  have free : s.mustCentre = false ↔ ¬s.calledToCentre := by rw [← Bool.not_eq_true, s.mustCentre_iff]
  by_cases called : s.calledToCentre
  · rw [if_pos called, if_neg fun h => free.mp h.1 called]
  · rw [if_neg called]
    exact if_congr ⟨fun serves => ⟨free.mpr called, s.jointUsable_iff.mpr serves⟩, fun h => s.jointUsable_iff.mp h.2⟩ rfl rfl

theorem State.notValidExpiry_of_left {s : State} {a : Int} (tracking : s.steer.mode = .tracking)
    (away : s.track.status ≠ .valid) (run : s.steer.notValid = 49)
    (mode : (s.steerExpiry (.reading a)).steer.mode =
      if s.mustCentre = false ∧ s.jointUsable = true then SteerMode.guided else SteerMode.centring) :
    s.notValidExpiry (.reading a) = s.steerExpiry (.reading a) := by
  refine State.expiryIf_of ?_
  rw [run, bne_iff_ne.mpr away]
  change (s.steerMoves _ .tracking .guided || s.steerMoves _ .tracking .centring) = true
  rw [Bool.or_eq_true]
  split at mode
  · exact .inl (State.steerMoves_of tracking mode)
  · exact .inr (State.steerMoves_of tracking mode)

/-- Settles O35. -/
theorem steerModeMovesByItsRows : Obligations.steer_mode_moves_by_its_rows := by
  intro dt s a working steered unlatched low high
  have line := State.steerExpiry_line (s := s.advance dt) (angle := .reading a) working steered
  have changes := (s.advance dt).steerExpiry_onlyChanges (.reading a)
  have calm (active : s.steer.mode ≠ .failed) (small : s.steer.mode = .locked ∨ (s.steer.staged - a).natAbs ≤ 300
      ∨ s.steer.mismatch < 19) (travels : s.steer.mode = .centring → s.steer.travel < 199) :=
    State.steerExpiry_of_calm (s := s.advance dt) working steered unlatched low high active
      (Steering.heard_fits small travels)
  refine ⟨fun locked run lost => ?_, fun tracking run away near => ?_,
    fun guided run valid own quiet free serves near => ?_, fun centring run straight staged travel near => ?_,
    fun small travels => ?_⟩
  · obtain ⟨p, moved⟩ := calm (by rw [locked]; decide) (.inl locked) fun mode => by rw [locked] at mode; cases mode
    obtain ⟨mode, solenoid, -⟩ := State.moves_from_locked (s := s.advance dt) moved locked
    rw [if_pos ⟨lost, Nat.le_of_eq run.symm⟩] at mode
    rw [mode] at solenoid line
    exact completes_of (State.expiryIf_of (State.steerMoves_of locked mode)) ⟨mode, solenoid, line (by decide), changes⟩
  · obtain ⟨p, moved⟩ := calm (by rw [tracking]; decide) (.inr (.inl near)) fun mode => by rw [tracking] at mode; cases mode
    obtain ⟨mode, -, -, -⟩ := State.moves_from_tracking (s := s.advance dt) moved tracking
    rw [State.leavesTracking_eq (s := s.advance dt) away (Nat.le_of_eq run.symm)] at mode
    have left := State.notValidExpiry_of_left (s := s.advance dt) (a := a) tracking away run mode
    have awayFrom : ((s.advance dt).steerExpiry (.reading a)).steer.mode ≠ .tracking
        ∧ ((s.advance dt).steerExpiry (.reading a)).steer.mode ≠ .failed := by
      rw [mode]
      split <;> decide
    have docking : ((s.advance dt).steerExpiry (.reading a)).steer.docking = 0 := by
      rw [moved] at awayFrom ⊢
      exact if_neg awayFrom.1
    exact completes_of left ⟨mode, line awayFrom.2, docking, changes⟩
  · obtain ⟨p, moved⟩ := calm (by rw [guided]; decide) (.inr (.inl near)) fun mode => by rw [guided] at mode; cases mode
    obtain ⟨mode, solenoid, -, -⟩ := State.moves_from_guided (s := s.advance dt) moved guided
    have called : ¬(s.calledToCentre ∨ ¬s.jointServes) := by
      rw [← State.mustCentre_iff, ← State.jointUsable_iff, free, serves]
      simp
    have alert : ¬s.jointAlerts := by
      rw [← State.ownAlert_iff, quiet]
      decide
    rw [if_neg (show ¬((s.advance dt).calledToCentre ∨ ¬(s.advance dt).jointServes) from called),
      if_pos ⟨valid, own, alert, Nat.le_of_eq run.symm⟩] at mode
    rw [mode] at solenoid line
    exact completes_of (State.expiryIf_of (State.steerMoves_of guided mode)) ⟨mode, solenoid, line (by decide), changes⟩
  · obtain ⟨p, moved⟩ := calm (by rw [centring]; decide) (.inr (.inl (by omega))) fun _ => travel
    obtain ⟨mode, solenoid, -⟩ := State.moves_from_centring (s := s.advance dt) moved centring
    rw [if_pos ⟨straight, near, Nat.le_of_eq run.symm⟩] at mode
    rw [mode] at solenoid
    obtain ⟨rest, still⟩ : ((s.advance dt).steerExpiry (.reading a)).steer.staged = 0
        ∧ ((s.advance dt).steerExpiry (.reading a)).steer.applied = 0 := by
      rw [moved] at mode ⊢
      exact ⟨State.demandNow_of_passive (.inl mode), State.demandNow_of_passive (.inl mode)⟩
    exact completes_of (State.expiryIf_of (State.steerMoves_of centring mode)) ⟨mode, solenoid, rest, still, changes⟩
  · have calmIn {m : SteerMode} (mode : s.steer.mode = m) (on : m ≠ .failed) :=
      calm (by rw [mode]; exact on) small travels
    refine completes_of rfl ⟨fun locked => ?_, fun tracking => ?_, fun guided => ?_, fun centring => ?_, changes⟩
    · obtain ⟨p, moved⟩ := calmIn locked (by decide)
      exact State.moves_from_locked (s := s.advance dt) moved locked
    · obtain ⟨p, moved⟩ := calmIn tracking (by decide)
      exact State.moves_from_tracking (s := s.advance dt) moved tracking
    · obtain ⟨p, moved⟩ := calmIn guided (by decide)
      exact State.moves_from_guided (s := s.advance dt) moved guided
    · obtain ⟨p, moved⟩ := calmIn centring (by decide)
      exact State.moves_from_centring (s := s.advance dt) moved centring

end Sys2Proof.Machine
end

section
/-! PROOFS. The joint monitor's expiry and the jack alert (R101 to R110): O37, O38. -/

namespace Sys2Proof.Machine

/-! ## Steps of an expiry -/

/-- A sound joint angle ends JOINT_SENSOR and is held (R102). -/
theorem State.readJoint_sound (s : State) {a : Int} (low : -9000 ≤ a) (high : a ≤ 9000) :
    s.readJoint (.reading a) = (s.endCondition .jointSensor).setJoint { s.joint with measured := a } := by
  unfold State.readJoint
  rw [show soundReading (-Config.maxAngle) Config.maxAngle (.reading a) = some a from soundReading_reading ⟨low, high⟩]
  rfl

theorem State.readJoint_faulty (s : State) {joint : AnalogIn} (faulty : faultyReading (-9000) 9000 joint) :
    s.readJoint joint =
      (s.follow .jointSensor true).setJoint { (s.follow .jointSensor true).joint with measured := 0 } := by
  unfold State.readJoint
  rw [show soundReading (-Config.maxAngle) Config.maxAngle joint = none from soundReading_faulty faulty]

theorem State.readJoint_windowRests {s : State} (h : s.windowRests) (joint : AnalogIn) : (s.readJoint joint).windowRests := by
  unfold State.readJoint
  split
  · exact (State.follow_windowRests h _ _).of_same rfl rfl
  · exact (State.follow_windowRests h _ _).of_same rfl rfl

/-- JOINT_SENSOR, raised, may take its consequence, and changes nothing else of the monitor (R102, R180). -/
theorem State.follow_jointSensor (s : State) : (s.follow .jointSensor true).joint = s.joint
    ∨ (s.follow .jointSensor true).joint = s.joint.protectOff := by
  rcases s.follow_cases .jointSensor true with ⟨-, -, e⟩ | ⟨-, -, e⟩ | ⟨off, -⟩
  · exact .inl (by rw [e])
  · rw [e]
    rcases s.raiseFault_deferrable_cases (c := .jointSensor) rfl with ⟨-, e⟩ | ⟨-, -, e⟩ | ⟨-, -, -, e⟩ <;> rw [e]
    · exact .inl rfl
    · exact .inl rfl
    · exact .inr rfl
  · cases off

/-- Step 4 keeps what the steps before it left, but for the alert and its runs (R105, R106). -/
theorem State.alertWork_joint (s : State) (p : Params) :
    ∃ alert set clear, (s.alertWork p).joint = { s.joint with jackAlert := alert, setRun := set, clearRun := clear } := by
  unfold State.alertWork
  dsimp only
  split
  · exact ⟨_, _, _, rfl⟩
  split
  · split
    · split
      · exact ⟨_, _, _, rfl⟩
      · exact ⟨_, _, _, rfl⟩
    · split
      · exact ⟨_, _, _, rfl⟩
      · exact ⟨_, _, _, rfl⟩
  · split
    · split
      · exact ⟨_, _, _, State.queueAlert_joint ..⟩
      · exact ⟨_, _, _, rfl⟩
    · split
      · exact ⟨_, _, _, State.queueAlert_joint ..⟩
      · exact ⟨_, _, _, rfl⟩

theorem State.alertWork_of_off {s : State} (off : s.joint.protectionOff = true) (p : Params) : s.alertWork p = s :=
  if_pos off

/-- Steps 5 and 6 (R108, R109). -/
theorem State.damperFold_joint (s : State) : s.damperWork.foldWork.joint =
    { s.joint with
      damper := some (damperDemand s.joint.jackAlert s.odo.reference)
      fold := if s.hasCondition .jointSensor then s.joint.fold else foldAfter s.joint.fold s.joint.measured } := by
  unfold State.foldWork
  have same : s.damperWork.hasCondition .jointSensor = s.hasCondition .jointSensor := rfl
  rw [same]
  split <;> rfl

theorem State.damperFold_link (s : State) : s.damperWork.foldWork.link = s.link := by
  unfold State.foldWork
  split <;> rfl

/-! ## The expiry -/

/-- The state that step 4 finds after `read`. -/
def State.afterCompare (s : State) (p : Params) : State := (s.compareJoint p).alertWork p

theorem State.afterCompare_reads (s : State) (p : Params) :
    (s.afterCompare p).odo = s.odo ∧ ∀ c, (s.afterCompare p).hasCondition c = s.hasCondition c := by
  have changes : s.onlyChanges [.joint, .link] (s.afterCompare p) :=
    (State.onlyChanges_mono (State.compareJoint_onlyChanges ..) (by decide)).step (State.alertWork_onlyChanges ..) (by decide)
  refine ⟨State.same_of_onlyChanges changes .odo (by decide), fun c => ?_⟩
  unfold State.hasCondition
  rw [State.same_of_onlyChanges changes .sup (by decide)]

theorem State.jointWork_windowRests {s : State} (p : Params) (rests : s.windowRests) (joint : AnalogIn) :
    (s.jointWork joint p).windowRests := by
  have read := State.readJoint_windowRests rests joint
  have rest : (s.readJoint joint).onlyChanges [.joint, .link] (((s.readJoint joint).afterCompare p).damperWork.foldWork) :=
    (((State.onlyChanges_mono (State.compareJoint_onlyChanges ..) (by decide)).step (State.alertWork_onlyChanges ..)
      (by decide)).step (State.damperWork_onlyChanges _) (by decide)).step (State.foldWork_onlyChanges _) (by decide)
  exact ite_keeps read (read.of_onlyChanges rest (by decide))

theorem State.jointWork_working {s : State} (p : Params) (working : s.working = true) (joint : AnalogIn) :
    s.jointWork joint p = ((s.readJoint joint).afterCompare p).damperWork.foldWork := by
  refine if_neg ?_
  intro limp
  unfold State.working at working
  rw [beq_iff_eq.mp limp] at working
  cases working

section
variable {s : State} {p : Params} (owns : s.ownsJoint = true) (copy : s.loader.copy = some p)
include owns copy

theorem State.jointExpiry_eq (timers : s.timersRun = true) (joint : AnalogIn) :
    s.jointExpiry joint = (s.jointWork joint p).settle := by
  have on : (s.timersRun && s.ownsJoint) = true := by rw [timers, owns]; rfl
  exact (if_pos on).trans (congrArg State.settle (State.withCopy_some copy _))

/-- Where no window closes, the expiry is its own work, and the moves of mode and release lines after it. -/
theorem State.jointExpiry_of_rests (timers : s.timersRun = true) (rests : s.windowRests) (joint : AnalogIn) :
    (s.jointExpiry joint).joint = (s.jointWork joint p).joint
    ∧ (s.jointExpiry joint).link = (s.jointWork joint p).link
    ∧ (∀ c, (s.jointExpiry joint).hasCondition c = (s.jointWork joint p).hasCondition c)
    ∧ (s.jointWork joint p).onlyChanges [.sup, .doors] (s.jointExpiry joint) := by
  rw [State.jointExpiry_eq owns copy timers]
  have settled := State.settle_onlyChanges_of_stays (State.jointWork_windowRests p rests joint).closeIfIdle
  exact ⟨State.same_of_onlyChanges settled .joint (by decide), State.settle_link _, State.hasCondition_settle _, settled⟩

theorem State.jointExpiry_in_limp (limp : s.sup.mode = .limp) (rests : s.windowRests) (joint : AnalogIn) :
    (s.jointExpiry joint).joint = (s.readJoint joint).joint
    ∧ (∀ c, (s.jointExpiry joint).hasCondition c = (s.readJoint joint).hasCondition c)
    ∧ s.onlyChanges [.joint, .sup, .doors] (s.jointExpiry joint) := by
  have inLimp : s.inLimp = true := beq_iff_eq.mpr limp
  have work : s.jointWork joint p = s.readJoint joint := if_pos inLimp
  have timers : s.timersRun = true := by
    unfold State.timersRun
    rw [inLimp, Bool.or_true]
  obtain ⟨joint', -, condition, settled⟩ := State.jointExpiry_of_rests owns copy timers rests joint
  rw [work] at joint' condition settled
  exact ⟨joint', condition, (State.onlyChanges_mono (s.readJoint_onlyChanges joint) (by decide)).step settled (by decide)⟩

theorem State.jointExpiry_working (working : s.working = true) (rests : s.windowRests) (joint : AnalogIn) :
    (s.jointExpiry joint).joint = ((s.readJoint joint).afterCompare p).damperWork.foldWork.joint
    ∧ (s.jointExpiry joint).link = ((s.readJoint joint).afterCompare p).link
    ∧ (∀ c, (s.jointExpiry joint).hasCondition c = (s.readJoint joint).hasCondition c)
    ∧ s.onlyChanges [.joint, .link, .sup, .doors] (s.jointExpiry joint) := by
  have work := State.jointWork_working p working joint
  obtain ⟨joint', link, condition, settled⟩ :=
    State.jointExpiry_of_rests owns copy (State.timersRun_of_working working) rests joint
  have changes : s.onlyChanges [.joint, .link, .sup, .doors] (s.jointWork joint p) :=
    State.onlyChanges_mono (s.jointWork_onlyChanges joint p) (by decide)
  rw [work] at joint' link condition settled changes
  refine ⟨joint', link.trans (State.damperFold_link _), fun c => (condition c).trans ?_, changes.step settled (by decide)⟩
  have unchanged : ((s.readJoint joint).afterCompare p).onlyChanges [.joint]
      ((s.readJoint joint).afterCompare p).damperWork.foldWork :=
    (State.damperWork_onlyChanges _).step (State.foldWork_onlyChanges _) (by decide)
  refine Eq.trans ?_ ((State.afterCompare_reads (s.readJoint joint) p).2 c)
  unfold State.hasCondition
  rw [State.same_of_onlyChanges unchanged .sup (by decide)]

end

/-! ## The expiry's outcome: O37 -/

theorem usableLook_some (l : LookUp) : usableLook (some l) = if l.shortfall ≤ 200 then some l.curvature else none := rfl

/-- The expected articulation, from the look-ups themselves (R103). -/
theorem State.expectedNow_eq (s : State) (p : Params) : s.expectedNow p =
    match s.lookAhead (roundNat p.steerLever 2), s.lookAhead p.steerLever,
        s.lookAhead (p.steerLever + roundNat p.jointLever 2) with
      | some mid, some joint, some far =>
        if mid.shortfall ≤ 200 ∧ joint.shortfall ≤ 200 ∧ far.shortfall ≤ 200 ∧ s.track.starvingSoon = false then
          some (expectedArticulation p.steerLever p.jointLever mid.curvature far.curvature)
        else none
      | _, _, _ => none := by
  unfold State.expectedNow midOffset jointOffset farOffset
  cases s.lookAhead (roundNat p.steerLever 2) with
  | none => rfl
  | some mid =>
  cases s.lookAhead p.steerLever with
  | none =>
    rw [usableLook_some]
    split <;> simp_all [usableLook]
  | some joint =>
  cases s.lookAhead (p.steerLever + roundNat p.jointLever 2) with
  | none =>
    rw [usableLook_some, usableLook_some]
    split <;> simp_all [usableLook]
  | some far =>
    simp only [usableLook_some]
    by_cases near : mid.shortfall ≤ 200 <;> by_cases mean : joint.shortfall ≤ 200 <;> by_cases away : far.shortfall ≤ 200 <;>
      cases s.track.starvingSoon <;> simp [near, mean, away]

/-- The state after steps 1 to 3 with a sound angle (R102 to R104). -/
def State.compared (s : State) (p : Params) (a : Int) : State :=
  (s.endCondition .jointSensor).setJoint
    { s.joint with
      measured := a, expected := s.expectedNow p
      deviation := (s.expectedNow p).map fun e => max (-9000) (min 9000 (a - e)) }

theorem State.compareJoint_sound {s : State} {a : Int} (low : -9000 ≤ a) (high : a ≤ 9000) (p : Params) :
    (s.readJoint (.reading a)).compareJoint p = s.compared p a := by
  unfold State.compared
  rw [State.readJoint_sound s low high]
  have deviation : ((s.endCondition .jointSensor).setJoint { s.joint with measured := a }).deviationNow (s.expectedNow p)
      = (s.expectedNow p).map fun e => max (-9000) (min 9000 (a - e)) := by
    refine if_neg ?_
    rw [show ((s.endCondition .jointSensor).setJoint { s.joint with measured := a }).hasCondition .jointSensor = false from
      (State.hasCondition_endCondition ..).trans (by simp)]
    decide
  rw [← deviation]
  rfl

/-- The monitor after a sound angle: what the steps compute, and the alert's own fields (R101). -/
theorem State.afterCompare_sound {s : State} {a : Int} (low : -9000 ≤ a) (high : a ≤ 9000) (p : Params) :
    ∃ alert set clear, ((s.readJoint (.reading a)).afterCompare p).joint =
      { s.joint with
        measured := a, expected := s.expectedNow p
        deviation := (s.expectedNow p).map fun e => max (-9000) (min 9000 (a - e))
        jackAlert := alert, setRun := set, clearRun := clear } := by
  unfold State.afterCompare
  rw [State.compareJoint_sound low high]
  exact State.alertWork_joint _ p

theorem State.readJoint_sound_condition {s : State} {a : Int} (low : -9000 ≤ a) (high : a ≤ 9000) :
    (s.readJoint (.reading a)).hasCondition .jointSensor = false := by
  rw [State.readJoint_sound s low high]
  refine (State.hasCondition_endCondition s .jointSensor .jointSensor).trans ?_
  simp

theorem State.readJoint_faulty_condition (s : State) {joint : AnalogIn} (faulty : faultyReading (-9000) 9000 joint) :
    (s.readJoint joint).hasCondition .jointSensor = true := by
  rw [State.readJoint_faulty s faulty]
  exact (State.hasCondition_follow ..).trans (if_pos rfl)

/-- Settles O37. -/
theorem jointExpiryMeasuresExpectsAndDamps : Obligations.joint_expiry_measures_expects_and_damps := by
  intro dt s p a copy owns closed
  have rests : (s.advance dt).windowRests := .inl closed
  refine ⟨fun working => ⟨fun low high => ?_, fun joint faulty new quiet fresh => ?_⟩,
    fun limp => ⟨fun low high => ?_, fun joint faulty => ?_⟩⟩
  · obtain ⟨joint, -, condition, changes⟩ :=
      State.jointExpiry_working (s := s.advance dt) owns copy working rests (.reading a)
    have clear := State.readJoint_sound_condition (s := s.advance dt) low high
    obtain ⟨odo, conditions⟩ := ((s.advance dt).readJoint (.reading a)).afterCompare_reads p
    have odo' : ((s.advance dt).readJoint (.reading a)).odo = s.odo := by
      rw [State.readJoint_sound _ low high]
      rfl
    obtain ⟨alert, set, ease, compared⟩ := State.afterCompare_sound (s := s.advance dt) low high p
    rw [State.damperFold_joint, conditions, clear, odo, odo', compared] at joint
    refine completes_of rfl ⟨?_, (condition _).trans clear, ?_, ?_, ?_, ?_, changes⟩
    · exact congrArg JointMonitor.measured joint
    · have alerted : ((s.advance dt).jointExpiry (.reading a)).joint.jackAlert = alert := congrArg JointMonitor.jackAlert joint
      refine (congrArg JointMonitor.damper joint).trans ?_
      rw [← alerted]
      rfl
    · exact congrArg JointMonitor.fold joint
    · exact (congrArg JointMonitor.expected joint).trans (s.expectedNow_eq p)
    · have expected : ((s.advance dt).jointExpiry (.reading a)).joint.expected = s.expectedNow p :=
        congrArg JointMonitor.expected joint
      exact (congrArg JointMonitor.deviation joint).trans (congrArg (Option.map _) expected.symm)
  · obtain ⟨joint', -, condition, changes⟩ :=
      State.jointExpiry_working (s := s.advance dt) owns copy working rests joint
    have present := (s.advance dt).readJoint_faulty_condition faulty
    obtain ⟨odo, conditions⟩ := ((s.advance dt).readJoint joint).afterCompare_reads p
    have read : ((s.advance dt).readJoint joint).joint = { s.joint.protectOff with measured := 0 } := by
      rw [State.readJoint_faulty _ faulty]
      have raised : (s.advance dt).follow .jointSensor true = (s.advance dt).raiseFault .jointSensor :=
        (if_pos rfl).trans (if_neg (ne_true_of_eq_false new))
      rw [raised, State.raiseFault_immediate (s.advance dt) rfl fresh quiet closed]
      rfl
    have compared : (((s.advance dt).readJoint joint).afterCompare p).joint =
        { s.joint.protectOff with
          measured := 0, expected := ((s.advance dt).readJoint joint).expectedNow p, deviation := none } := by
      unfold State.afterCompare State.compareJoint
      dsimp only
      rw [State.alertWork_of_off (by rw [State.setJoint_joint, read]; rfl), State.setJoint_joint, read]
      unfold State.deviationNow
      rw [if_pos present]
    rw [State.damperFold_joint, conditions, present, compared] at joint'
    exact completes_of rfl ⟨congrArg JointMonitor.measured joint', (condition _).trans present,
      congrArg JointMonitor.protectionOff joint', congrArg JointMonitor.jackAlert joint',
      congrArg JointMonitor.deviation joint', (congrArg JointMonitor.fold joint').trans rfl, changes⟩
  · obtain ⟨joint, condition, changes⟩ := State.jointExpiry_in_limp (s := s.advance dt) owns copy limp rests (.reading a)
    have clear := State.readJoint_sound_condition (s := s.advance dt) low high
    rw [State.readJoint_sound _ low high] at joint
    exact completes_of rfl ⟨joint, (condition _).trans clear, changes⟩
  · obtain ⟨joint', condition, changes⟩ := State.jointExpiry_in_limp (s := s.advance dt) owns copy limp rests joint
    have present := (s.advance dt).readJoint_faulty_condition faulty
    rw [State.readJoint_faulty _ faulty, State.setJoint_joint] at joint'
    refine completes_of rfl ?_
    rcases (s.advance dt).follow_jointSensor with e | e <;> rw [e] at joint'
    all_goals
      exact ⟨congrArg JointMonitor.measured joint', (condition _).trans present,
        (congrArg JointMonitor.expected joint').trans rfl, (congrArg JointMonitor.deviation joint').trans rfl,
        (congrArg JointMonitor.damper joint').trans rfl, (congrArg JointMonitor.fold joint').trans rfl, changes⟩

/-! ## The jack alert: O38 -/

/-- The set run's third expiry sets the alert and queues its ALERT (R105). -/
theorem State.alertWork_of_set {s : State} {p : Params} {d : Int} (on : s.joint.protectionOff = false)
    (quiet : s.joint.jackAlert = false) (run : s.joint.setRun = 2) (deviation : s.joint.deviation = some d)
    (wide : p.jackThreshold < d.natAbs) (fast : 500 < s.odo.reference) :
    s.alertWork p =
      (s.setJoint { s.joint with jackAlert := true, setRun := 3, clearRun := 0 }).queueAlert .jackknife 255 d := by
  have builds : s.alertBuilds p = true := by
    unfold State.alertBuilds JointMonitor.deviates
    rw [deviation]
    exact Bool.and_eq_true_iff.mpr ⟨decide_eq_true wide, decide_eq_true fast⟩
  refine (if_neg (ne_true_of_eq_false on)).trans ((if_neg (ne_true_of_eq_false quiet)).trans ?_)
  dsimp only
  rw [if_pos builds, run, deviation]
  rfl

/-- The clear run's twentieth clears it (R106). -/
theorem State.alertWork_of_cleared {s : State} {p : Params} (on : s.joint.protectionOff = false)
    (alert : s.joint.jackAlert = true) (run : s.joint.clearRun = 19) (eases : s.alertEases p = true) :
    s.alertWork p = s.setJoint { s.joint with jackAlert := false, clearRun := 20, setRun := 0 } := by
  refine (if_neg (ne_true_of_eq_false on)).trans ((if_pos alert).trans ?_)
  dsimp only
  rw [if_pos eases, run]
  rfl

/-- The newest waiting ALERT is the one just queued (R15). -/
theorem State.queueAlert_newest (s : State) (kind : AlertKind) (slot : Nat) (value : Int) :
    ((s.queueAlert kind slot value).link.alerts.getLast?).map (fun q => q.frame.payload) =
      some (encodeAlert ⟨kind, s.station, slot, value⟩) := by
  obtain ⟨q, frame, room, full⟩ := s.queueAlert_link kind slot value
  by_cases few : s.link.alerts.length < 2
  · rw [room few]
    simp [frame]
  · rw [full (Nat.not_lt.mp few)]
    simp [frame]

/-- Settles O38. -/
theorem jackAlertSetsAndClears : Obligations.jack_alert_sets_and_clears := by
  intro dt s p a e working owns copy closed on low high
  have rests : (s.advance dt).windowRests := .inl closed
  obtain ⟨joint, link, -, changes⟩ :=
    State.jointExpiry_working (s := s.advance dt) owns copy working rests (.reading a)
  have clear := State.readJoint_sound_condition (s := s.advance dt) low high
  obtain ⟨odo, conditions⟩ := ((s.advance dt).readJoint (.reading a)).afterCompare_reads p
  have odo' : ((s.advance dt).readJoint (.reading a)).odo = s.odo := by
    rw [State.readJoint_sound _ low high]
    rfl
  have changes' := State.onlyChanges_mono changes
    (show ∀ b ∈ [Block.joint, .link, .sup, .doors], b ∈ [Block.joint, .link, .sup, .odo, .air, .doors] by decide)
  rw [State.damperFold_joint, odo, odo'] at joint
  unfold State.afterCompare at joint link
  rw [State.compareJoint_sound low high] at joint link
  have deviation (x : Int) (expected : s.expectedNow p = some x) :
      ((s.advance dt).compared p a).joint.deviation = some (max (-9000) (min 9000 (a - x))) :=
    congrArg (Option.map fun e => max (-9000) (min 9000 (a - e))) expected
  refine ⟨fun quiet run expected fast wide => ?_, fun alert run eases => ?_⟩
  · rw [State.alertWork_of_set (s := (s.advance dt).compared p a) on quiet run (deviation e expected) wide fast]
      at joint link
    rw [State.queueAlert_joint] at joint
    have set : ((s.advance dt).jointExpiry (.reading a)).joint.jackAlert = true := congrArg JointMonitor.jackAlert joint
    have work : (s.advance dt).alertSetExpiry (.reading a) = (s.advance dt).jointExpiry (.reading a) := by
      refine State.expiryIf_of ?_
      rw [set, show (s.advance dt).joint.jackAlert = false from quiet]
      rfl
    refine completes_of work ⟨set, congrArg JointMonitor.clearRun joint, congrArg JointMonitor.damper joint, ?_, changes'⟩
    rw [link]
    exact State.queueAlert_newest ..
  · have ease : ((s.advance dt).compared p a).alertEases p = true := by
      unfold State.alertEases JointMonitor.deviates
      rw [Bool.or_eq_true]
      refine eases.imp decide_eq_true fun ⟨expected, small⟩ => ?_
      rw [deviation e expected]
      exact decide_eq_true small
    rw [State.alertWork_of_cleared (s := (s.advance dt).compared p a) on alert run ease] at joint link
    have cleared : ((s.advance dt).jointExpiry (.reading a)).joint.jackAlert = false :=
      congrArg JointMonitor.jackAlert joint
    have kept : ((s.advance dt).jointExpiry (.reading a)).joint.protectionOff = false :=
      (congrArg JointMonitor.protectionOff joint).trans on
    have work : (s.advance dt).alertClearExpiry (.reading a) = (s.advance dt).jointExpiry (.reading a) := by
      refine State.expiryIf_of ?_
      rw [cleared, kept, show (s.advance dt).joint.jackAlert = true from alert]
      rfl
    exact completes_of work ⟨cleared, congrArg JointMonitor.setRun joint, link, congrArg JointMonitor.damper joint, changes'⟩

end Sys2Proof.Machine
end

section
/-! PROOFS. The braking expiry: the pressure law, backup, and the slip records (R113 to R128): O39, O40, O41. -/

namespace Sys2Proof.Machine

/-! ## Steps of an expiry -/

theorem State.readPressure_sound (s : State) {v : Nat} (high : v ≤ 1000) :
    s.readPressure (.reading v) = (s.endCondition .brakeSensor).setBrake { s.brake with measured := v } := by
  unfold State.readPressure
  rw [show soundNat Config.maxPressure (.reading v) = some v from soundNat_reading high]
  rfl

theorem State.readPressure_faulty (s : State) {pressure : AnalogIn} (faulty : faultyReading 0 1000 pressure) :
    s.readPressure pressure =
      if s.hasCondition .brakeSensor
      then (s.follow .brakeSensor true).setBrake { s.brake with measured := 0 }
      else ((s.follow .brakeSensor true).setBrake { s.brake with measured := 0 }).latchBackup .brakeSensor := by
  unfold State.readPressure
  rw [show soundNat Config.maxPressure pressure = none from soundNat_faulty faulty]
  dsimp only
  rw [State.follow_brake]

theorem State.readPressure_cases (s : State) (pressure : AnalogIn) :
    ∃ present v, s.readPressure pressure = (s.follow .brakeSensor present).setBrake { s.brake with measured := v }
      ∨ s.readPressure pressure =
        ((s.follow .brakeSensor present).setBrake { s.brake with measured := v }).latchBackup .brakeSensor := by
  unfold State.readPressure
  split
  · exact ⟨false, _, .inl rfl⟩
  · refine ⟨true, 0, ?_⟩
    dsimp only
    rw [State.follow_brake]
    split
    · exact .inl rfl
    · exact .inr rfl

theorem State.supervisePressure_of_follows {s : State} (short : s.brake.comparePressure.mismatchRun < 30) :
    s.supervisePressure = s.setBrake s.brake.comparePressure := if_neg (Nat.not_le.mpr short)

theorem State.supervisePressure_of_mismatch {s : State} (full : 30 ≤ s.brake.comparePressure.mismatchRun) :
    s.supervisePressure =
      ((s.setBrake s.brake.comparePressure).raiseEvent .brakePressureMismatch).latchBackup .pressureMismatch := if_pos full

/-- In backup the mismatch run rests (R125). -/
theorem Braking.comparePressure_of_backup {b : Braking} (backup : b.backup = true) :
    b.comparePressure = { b with mismatchRun := 0 } := if_pos backup

theorem State.loseDriver_of_usable {s : State} (usable : s.driverUsable = true) : s.loseDriver = s := if_pos usable

theorem State.exitBackup_of_held {s : State}
    (held : (s.brake.backup && s.brake.driverLost && s.brake.latched.isNone && s.driverUsable) = false) :
    s.exitBackup = s.setBrake { s.brake with exitRun := 0 } := if_neg (ne_true_of_eq_false held)

/-- Steps 1 to 5 of an expiry. -/
def State.pressed (s : State) (pressure : AnalogIn) (p : Params) : State :=
  (((s.setBrake s.brake.output).readPressure pressure).supervisePressure.loseDriver.exitBackup.demandWork).pressureWork p

theorem State.pressed_onlyChanges (s : State) (pressure : AnalogIn) (p : Params) :
    s.onlyChanges [.brake, .sup, .doors] (s.pressed pressure p) := by
  have read : s.onlyChanges [.brake, .sup, .doors]
      ((s.setBrake s.brake.output).readPressure pressure).supervisePressure :=
    ((State.onlyChanges_mono (State.setBrake_onlyChanges ..) (by decide)).step (State.readPressure_onlyChanges ..)
      (by decide)).step (State.supervisePressure_onlyChanges _) (by decide)
  exact (((read.step (State.loseDriver_onlyChanges _) (by decide)).step (State.exitBackup_onlyChanges _)
    (by decide)).step (State.demandWork_onlyChanges _) (by decide)).step (State.pressureWork_onlyChanges _ p)
    (by decide)

section
variable {s : State} {p : Params} (working : s.working = true) (copy : s.loader.copy = some p)
include working copy

theorem State.brakeExpiry_eq (pressure : AnalogIn) : s.brakeExpiry pressure = ((s.pressed pressure p).slipWork p).settle :=
  (if_pos working).trans (congrArg State.settle (State.withCopy_some copy _))

theorem State.brakeExpiry_brake (pressure : AnalogIn) :
    (s.brakeExpiry pressure).brake = ((s.pressed pressure p).slipWork p).brake := by
  rw [State.brakeExpiry_eq working copy, State.settle_brake]

end

/-! ## The pressure law: O39 -/

/-- The state after steps 1 to 3 where the pressure follows, outside backup. -/
def State.steady (s : State) (v : Nat) : State :=
  (s.endCondition .brakeSensor).setBrake
    { s.brake with line := s.brake.staged, select := true, measured := v, mismatchRun := 0, exitRun := 0 }

/-- Step 4 outside backup, for a demand (R115, R116). -/
def State.asked (s : State) (demand : Nat) : State :=
  s.setBrake { s.brake with demand := demand, load := if demand = 0 then s.air.axleLoad else s.brake.load }

/-- Steps 1 to 3 where the pressure follows, outside backup (R113, R125). -/
theorem State.calm_pressure {s : State} {v : Nat} (out : s.brake.backup = false) (usable : s.driverUsable = true)
    (high : v ≤ 1000) (below : v ≤ s.brake.staged + 80) (above : s.brake.staged ≤ v + 80) :
    ((s.setBrake s.brake.output).readPressure (.reading v)).supervisePressure.loseDriver.exitBackup =
      s.steady v := by
  have output : s.brake.output = { s.brake with line := s.brake.staged, select := true } :=
    if_neg (ne_true_of_eq_false out)
  have near : distance v s.brake.staged ≤ 80 := by
    unfold distance
    omega
  have compared : Braking.comparePressure { s.brake with line := s.brake.staged, select := true, measured := v } =
      { s.brake with line := s.brake.staged, select := true, measured := v, mismatchRun := 0 } :=
    (if_neg (ne_true_of_eq_false out)).trans (if_pos near)
  rw [output, State.readPressure_sound _ high, State.supervisePressure_of_follows, State.loseDriver_of_usable,
    State.exitBackup_of_held]
  · exact congrArg (fun b => State.setBrake _ { b with exitRun := 0 }) compared
  · change ((Braking.comparePressure { s.brake with line := s.brake.staged, select := true, measured := v }).backup
      && _ && _ && _) = false
    rw [compared]
    change (s.brake.backup && _ && _ && _) = false
    rw [out]
    rfl
  · exact usable
  · change (Braking.comparePressure { s.brake with line := s.brake.staged, select := true, measured := v }).mismatchRun < 30
    rw [compared]
    exact Nat.zero_lt_succ _

theorem State.demandWork_of_out {s : State} (out : s.brake.backup = false) {demand : Nat}
    (asked : s.driverField DriverContent.demand 0 = demand) : s.demandWork = s.asked demand := by
  unfold State.demandWork
  rw [if_neg (ne_true_of_eq_false out), asked]
  rfl

/-- The commanded pressure (R117 to R120). -/
def State.commandedNow (s : State) (p : Params) : Nat :=
  min p.maxPressure (max (haltContribution p s.doors.halt s.doors.anyRelease s.brake.halt)
    (if s.reductionNow p = true ∧ 0 < demandPressure p s.brake.demand s.brake.load
      then p.threshold + roundNat (demandPressure p s.brake.demand s.brake.load - p.threshold) 2
      else demandPressure p s.brake.demand s.brake.load))

theorem State.pressureWork_of_out {s : State} (out : s.brake.backup = false) (p : Params) : s.pressureWork p =
    s.setBrake
      { s.brake with
        jackReduction := s.reductionNow p
        halt := haltContribution p s.doors.halt s.doors.anyRelease s.brake.halt
        commanded := s.commandedNow p, staged := s.commandedNow p } := by
  have reduced : (if s.reductionNow p then reducePressure p (demandPressure p s.brake.demand s.brake.load)
        else demandPressure p s.brake.demand s.brake.load) =
      if s.reductionNow p = true ∧ 0 < demandPressure p s.brake.demand s.brake.load
      then p.threshold + roundNat (demandPressure p s.brake.demand s.brake.load - p.threshold) 2
      else demandPressure p s.brake.demand s.brake.load := by
    generalize demandPressure p s.brake.demand s.brake.load = full
    unfold reducePressure
    cases s.reductionNow p
    · simp
    · by_cases none : full = 0
      · simp [none]
      · simp [none, Nat.pos_of_ne_zero none]
  have commanded : s.commandedNow p = min p.maxPressure (max (if s.reductionNow p
      then reducePressure p (demandPressure p s.brake.demand s.brake.load)
        else demandPressure p s.brake.demand s.brake.load)
      (haltContribution p s.doors.halt s.doors.anyRelease s.brake.halt)) := by
    unfold State.commandedNow
    rw [reduced, max_comm]
  rw [commanded]
  exact if_neg (ne_true_of_eq_false out)

/-- Settles O39. -/
theorem brakePressureLaw : Obligations.brake_pressure_law := by
  intro dt s p c v working copy out content high below above
  have usable : s.driverUsable = true := by
    by_contra lost
    rw [State.driverContent, if_neg lost] at content
    cases content
  have demand : s.driverField DriverContent.demand 0 = c.demand := by
    unfold State.driverField
    rw [content]
  have calm := State.calm_pressure (s := s.advance dt) out usable high below above
  have brake := State.brakeExpiry_brake (s := s.advance dt) working copy (.reading v)
  have changes := (s.advance dt).brakeExpiry_onlyChanges (.reading v)
  unfold State.pressed at brake
  rw [calm, State.demandWork_of_out (s := (s.advance dt).steady v) out demand,
    State.pressureWork_of_out (s := ((s.advance dt).steady v).asked c.demand) out p] at brake
  have load := congrArg Braking.load brake
  have halt := congrArg Braking.halt brake
  refine completes_of (t := (s.advance dt).brakeExpiry (.reading v)) rfl ⟨congrArg Braking.line brake,
    congrArg Braking.select brake, congrArg Braking.measured brake, (congrArg Braking.backup brake).trans out, congrArg Braking.demand brake, load, congrArg Braking.jackReduction brake,
    halt, ⟨_, rfl, ?_⟩, (congrArg Braking.staged brake).trans (congrArg Braking.commanded brake).symm, changes⟩
  rw [load, halt]
  exact congrArg Braking.commanded brake

/-! ## Backup: O40 -/

/-- A first cause latches, and backup is entered (R126, R127, R163). -/
theorem State.latchBackup_of_out {s : State} (out : s.brake.backup = false) (first : s.brake.latched = none)
    (c : LatchedCause) :
    s.latchBackup c = (s.setBrake { s.brake.toBackup with latched := some c }).setDoors s.doors.forceOff := by
  have latch : s.brake.latch c = { s.brake with latched := some c } := by
    unfold Braking.latch
    rw [first]
    rfl
  unfold State.latchBackup
  rw [latch]
  exact if_neg (ne_true_of_eq_false out)

theorem State.loseDriver_of_backup {s : State} (backup : s.brake.backup = true) :
    ∃ lost, s.loseDriver = s.setBrake { s.brake with driverLost := lost } := by
  by_cases usable : s.driverUsable = true
  · exact ⟨s.brake.driverLost, if_pos usable⟩
  · exact ⟨true, (if_neg usable).trans (if_pos backup)⟩

/-- What backup by a latched cause keeps through the steps of an expiry (R128). -/
structure State.backupHolds (s t : State) : Prop where
  backup : t.brake.backup = true
  latched : t.brake.latched.isSome = true ∧ t.brake.latched = s.brake.latched
  lines : t.brake.select = s.brake.select ∧ t.brake.line = s.brake.line
  measured : t.brake.measured = s.brake.measured
  doors : t.doors = s.doors
  sup : t.sup = s.sup

section
variable {s t : State} (h : s.backupHolds t)
include h

theorem State.backupHolds.supervised : s.backupHolds t.supervisePressure := by
  have rests := Braking.comparePressure_of_backup h.backup
  rw [State.supervisePressure_of_follows (by rw [rests]; exact Nat.zero_lt_succ _), rests]
  exact ⟨h.backup, h.latched, h.lines, h.measured, h.doors, h.sup⟩

theorem State.backupHolds.lost : s.backupHolds t.loseDriver := by
  obtain ⟨lost, e⟩ := State.loseDriver_of_backup h.backup
  rw [e]
  exact ⟨h.backup, h.latched, h.lines, h.measured, h.doors, h.sup⟩

theorem State.backupHolds.stays : s.backupHolds t.exitBackup := by
  have held : (t.brake.backup && t.brake.driverLost && t.brake.latched.isNone && t.driverUsable) = false := by
    rw [← Option.not_isSome, h.latched.1]
    simp
  rw [State.exitBackup_of_held held]
  exact ⟨h.backup, h.latched, h.lines, h.measured, h.doors, h.sup⟩

theorem State.backupHolds.demanded : s.backupHolds t.demandWork :=
  ⟨h.backup, h.latched, h.lines, h.measured, h.doors, h.sup⟩

theorem State.backupHolds.pressed (p : Params) : s.backupHolds (t.pressureWork p)
    ∧ (t.pressureWork p).brake.commanded = 0 ∧ (t.pressureWork p).brake.staged = 0 := by
  have work : t.pressureWork p =
      t.setBrake { t.brake with jackReduction := t.reductionNow p, halt := 0, commanded := 0, staged := 0 } :=
    if_pos h.backup
  rw [work]
  exact ⟨⟨h.backup, h.latched, h.lines, h.measured, h.doors, h.sup⟩, rfl, rfl⟩

theorem State.backupHolds.slipped (p : Params) : s.backupHolds (t.slipWork p)
    ∧ (t.slipWork p).brake.slipL.state = .free ∧ (t.slipWork p).brake.slipR.state = .free := by
  have off (w : Wheel) : t.slipOff w = true := by
    unfold State.slipOff
    rw [h.backup, Bool.or_true]
  have freed (w : Wheel) (r : SlipRecord) : (t.slipStep p w r).state = .free := by
    unfold State.slipStep
    rw [if_pos (off w)]
    rfl
  exact ⟨⟨h.backup, h.latched, h.lines, h.measured, h.doors, h.sup⟩, freed .., freed ..⟩

end

/-- The release lines and grants of an interlock that is off stay off at a step's end (R166). -/
theorem State.settle_doors_off {s : State} (release : s.doors.anyRelease = false) (grant : s.doors.anyGrant = false) :
    s.settle.doors.anyRelease = false ∧ s.settle.doors.anyGrant = false := by
  have moved : s.closeIfIdle.updateMode.doors.anyRelease = false ∧ s.closeIfIdle.updateMode.doors.anyGrant = false := by
    have closed := s.closeIfIdle_doors
    rcases s.closeIfIdle.updateMode_cases with ⟨-, -, e⟩ | ⟨-, -, e⟩ | e <;> rw [e]
    · refine ⟨?_, ?_⟩
      · exact (congrArg DoorInterlock.anyRelease closed).trans release
      · exact (congrArg DoorInterlock.anyGrant closed).trans grant
    · refine ⟨?_, ?_⟩
      · exact (congrArg DoorInterlock.anyRelease closed).trans release
      · exact (congrArg DoorInterlock.anyGrant closed).trans grant
    · rw [closed]
      exact ⟨release, grant⟩
  unfold State.settle
  rcases s.closeIfIdle.updateMode.gateReleases_cases with ⟨-, e⟩ | ⟨-, off, e⟩
  · rw [e]
    exact moved
  · refine ⟨off, ?_⟩
    rw [e]
    obtain ⟨-, grants⟩ := moved
    have kept (d : DoorSlot) : d.gate.grant = d.grant := by
      unfold DoorSlot.gate
      split
      · exact d.drop_grant
      · rfl
    change ((_ : DoorSlot).gate.grant || (_ : DoorSlot).gate.grant) = false
    rw [kept, kept]
    exact grants

/-- An expiry whose step 2 latches a cause, with the entry's effects (R125 to R128, R163). -/
theorem State.brakeExpiry_of_latched {s e : State} {p : Params} {pressure : AnalogIn} {c : LatchedCause}
    (working : s.working = true) (copy : s.loader.copy = some p) (out : e.brake.backup = false)
    (first : e.brake.latched = none)
    (rest : (e.latchBackup c).backupHolds ((s.setBrake s.brake.output).readPressure pressure).supervisePressure) :
    let t := s.brakeExpiry pressure
    t.brake.backup = true ∧ t.brake.latched = some c ∧ (∀ d, t.hasCondition d = e.hasCondition d)
    ∧ t.brake.select = false ∧ t.brake.line = 0 ∧ t.brake.staged = 0 ∧ t.brake.commanded = 0
    ∧ t.brake.measured = e.brake.measured ∧ t.brake.slipL.state = .free ∧ t.brake.slipR.state = .free
    ∧ t.doors.halt = .off ∧ t.doors.anyRelease = false ∧ t.doors.anyGrant = false
    ∧ s.onlyChanges [.brake, .sup, .odo, .joint, .air, .doors] t := by
  intro t
  have entered := State.latchBackup_of_out out first c
  obtain ⟨pressed, commanded, staged⟩ := rest.lost.stays.demanded.pressed p
  obtain ⟨slipped, slipL, slipR⟩ := pressed.slipped p
  have expiry : t = ((s.pressed pressure p).slipWork p).settle := State.brakeExpiry_eq working copy pressure
  have brake : t.brake = ((s.pressed pressure p).slipWork p).brake := by rw [expiry, State.settle_brake]
  have changes : s.onlyChanges [.brake, .sup, .odo, .joint, .air, .doors] t := s.brakeExpiry_onlyChanges pressure
  obtain ⟨backup, ⟨-, latched⟩, ⟨select, line⟩, measured, doors, sup⟩ := slipped
  rw [entered] at latched select line measured doors sup
  have off : ((s.pressed pressure p).slipWork p).doors = e.doors.forceOff := doors
  obtain ⟨release, grant⟩ := State.settle_doors_off (s := (s.pressed pressure p).slipWork p) (by rw [off]; simp)
    (by rw [off]; rfl)
  rw [← expiry] at release grant
  refine ⟨brake ▸ backup, brake ▸ latched, fun d => ?_, brake ▸ select, brake ▸ line, ?_, ?_, brake ▸ measured,
    brake ▸ slipL, brake ▸ slipR, ?_, release, grant, changes⟩
  · rw [expiry, State.hasCondition_settle]
    unfold State.hasCondition
    exact congrArg (fun u : Supervisor => u.conditions.contains d) sup
  · rw [brake]
    exact staged
  · rw [brake]
    exact commanded
  · rw [expiry, State.settle_doors_halt, off]
    rfl

theorem State.backupHolds_latchBackup (s : State) (c : LatchedCause) : (s.latchBackup c).backupHolds (s.latchBackup c) :=
  ⟨State.latchBackup_backup .., ⟨by rw [State.latchBackup_latched]; rfl, rfl⟩, ⟨rfl, rfl⟩, rfl, rfl, rfl⟩

section
variable {s : State} (working : s.working = true) (copied : s.hasCopy = true) (out : s.brake.backup = false)
  (first : s.brake.latched = none)
include working copied out first

/-- A faulty pressure input latches backup (R126). -/
theorem State.brakeExpiry_of_faulty {pressure : AnalogIn} (faulty : faultyReading 0 1000 pressure)
    (new : s.hasCondition .brakeSensor = false) :
    let t := s.brakeExpiry pressure
    t.brake.backup = true ∧ t.brake.latched = some .brakeSensor ∧ t.hasCondition .brakeSensor = true
    ∧ t.brake.select = false ∧ t.brake.line = 0 ∧ t.brake.staged = 0 ∧ t.brake.commanded = 0
    ∧ t.brake.measured = 0 ∧ t.brake.slipL.state = .free ∧ t.brake.slipR.state = .free
    ∧ t.doors.halt = .off ∧ t.doors.anyRelease = false ∧ t.doors.anyGrant = false
    ∧ s.onlyChanges [.brake, .sup, .odo, .joint, .air, .doors] t := by
  intro t
  obtain ⟨p, copy⟩ := Option.isSome_iff_exists.mp copied
  have output : s.brake.output = { s.brake with line := s.brake.staged, select := true } :=
    if_neg (ne_true_of_eq_false out)
  have read := State.readPressure_faulty (s.setBrake s.brake.output) faulty
  have new' : (s.setBrake s.brake.output).hasCondition .brakeSensor = false := new
  rw [if_neg (ne_true_of_eq_false new')] at read
  generalize entry : ((s.setBrake s.brake.output).follow .brakeSensor true).setBrake _ = e at read
  have brake : e.brake = { s.brake with line := s.brake.staged, select := true, measured := 0 } := by
    rw [← entry, output]
    rfl
  have present : e.hasCondition .brakeSensor = true := by
    rw [← entry]
    exact (State.hasCondition_follow ..).trans (if_pos rfl)
  have rest : (e.latchBackup .brakeSensor).backupHolds
      ((s.setBrake s.brake.output).readPressure pressure).supervisePressure := by
    rw [read]
    exact (e.backupHolds_latchBackup .brakeSensor).supervised
  obtain ⟨backup, latched, condition, select, line, staged, commanded, measured, others⟩ :=
    State.brakeExpiry_of_latched working copy (by rw [brake]; exact out) (by rw [brake]; exact first) rest
  exact ⟨backup, latched, (condition _).trans present, select, line, staged, commanded, measured.trans (by rw [brake]),
    others⟩

/-- A pressure that does not follow a steady line for 300 ms latches backup (R125). -/
theorem State.brakeExpiry_of_mismatch {v : Nat} (high : v ≤ 1000) (run : s.brake.mismatchRun = 29)
    (apart : 80 < distance v s.brake.staged) (steady : distance s.brake.staged s.brake.mismatchReference ≤ 20) :
    let t := s.brakeExpiry (.reading v)
    s.pressureExpiry (.reading v) = t
    ∧ t.brake.backup = true ∧ t.brake.latched = some .pressureMismatch ∧ t.hasCondition .brakePressureMismatch = false
    ∧ t.brake.select = false ∧ t.brake.line = 0 ∧ t.brake.staged = 0 ∧ t.brake.commanded = 0
    ∧ t.brake.measured = v ∧ t.brake.slipL.state = .free ∧ t.brake.slipR.state = .free
    ∧ t.doors.halt = .off ∧ t.doors.anyRelease = false ∧ t.doors.anyGrant = false
    ∧ s.onlyChanges [.brake, .sup, .odo, .joint, .air, .doors] t := by
  intro t
  obtain ⟨p, copy⟩ := Option.isSome_iff_exists.mp copied
  have output : s.brake.output = { s.brake with line := s.brake.staged, select := true } :=
    if_neg (ne_true_of_eq_false out)
  have read := State.readPressure_sound (s.setBrake s.brake.output) high
  have compared : Braking.comparePressure
      { s.brake with line := s.brake.staged, select := true, measured := v } =
      { s.brake with line := s.brake.staged, select := true, measured := v, mismatchRun := 30 } := by
    refine (if_neg (ne_true_of_eq_false out)).trans ((if_neg (Nat.not_le.mpr apart)).trans ((if_neg ?_).trans ?_))
    · change ¬(s.brake.mismatchRun = 0 ∨ 20 < distance s.brake.staged s.brake.mismatchReference)
      omega
    · rw [run]
  have brake : ((s.setBrake s.brake.output).readPressure (.reading v)).brake.comparePressure =
      { s.brake with line := s.brake.staged, select := true, measured := v, mismatchRun := 30 } := by
    rw [read, output]
    exact compared
  have full : 30 ≤ ((s.setBrake s.brake.output).readPressure (.reading v)).brake.comparePressure.mismatchRun := by
    rw [brake]
  have happens : s.pressureExpiry (.reading v) = t := by
    refine State.expiryIf_of ?_
    rw [working, copied]
    exact decide_eq_true full
  have supervised := State.supervisePressure_of_mismatch full
  rw [brake] at supervised
  generalize entry : (((s.setBrake s.brake.output).readPressure (.reading v)).setBrake _).raiseEvent .brakePressureMismatch
    = e at supervised
  have found : e.brake = { s.brake with line := s.brake.staged, select := true, measured := v, mismatchRun := 30 } := by
    rw [← entry, State.raiseEvent_brake]
    rfl
  have clear : e.hasCondition .brakePressureMismatch = false := by
    rw [← entry, State.hasCondition_raiseEvent]
    simp
  have rest := e.backupHolds_latchBackup .pressureMismatch
  obtain ⟨backup, latched, condition, select, line, staged, commanded, measured, others⟩ :=
    State.brakeExpiry_of_latched working copy (by rw [found]; exact out) (by rw [found]; exact first)
      (c := .pressureMismatch) (pressure := .reading v) (by rw [supervised]; exact rest)
  exact ⟨happens, backup, latched, (condition _).trans clear, select, line, staged, commanded,
    measured.trans (by rw [found]), others⟩

end

/-- Settles O40. -/
theorem brakeFaultsLatchBackup : Obligations.brake_faults_latch_backup := by
  intro dt s v working copied out first
  refine ⟨fun pressure faulty new => completes_of rfl
    (State.brakeExpiry_of_faulty (s := s.advance dt) working copied out first faulty new), fun low high run apart steady => ?_⟩
  obtain ⟨n, rfl⟩ := Int.eq_ofNat_of_zero_le low
  obtain ⟨happens, backup, latched, clear, select, line, staged, commanded, measured, others⟩ :=
    State.brakeExpiry_of_mismatch (s := s.advance dt) working copied out first (v := n) (by omega) run
      (show 80 < distance n s.brake.staged by unfold distance; omega)
      (show distance s.brake.staged s.brake.mismatchReference ≤ 20 by unfold distance; omega)
  exact completes_of happens ⟨backup, latched, clear, select, line, staged, commanded, congrArg _ measured, others⟩

end Sys2Proof.Machine
end

section
/-! PROOFS. The slip records and the end of backup (R121 to R124, R128): O41. -/

namespace Sys2Proof.Machine

/-! ## One record (Tables 7.5 and 7.6) -/

/-- The modulator lines stand as the record's state has them (Table 7.5). -/
structure SlipRecord.lined (r : SlipRecord) : Prop where
  free : r.state = .free → r.holdLine = false
  holds : r.state = .dump ∨ r.state = .hold → r.holdLine = true
  dump : r.dumpLine = decide (r.state = .dump)

theorem SlipRecord.freed_lined (r : SlipRecord) : r.freed.lined := ⟨fun _ => rfl, fun h => h.elim nofun nofun, rfl⟩
theorem SlipRecord.toDump_lined (r : SlipRecord) : r.toDump.lined := ⟨nofun, fun _ => rfl, rfl⟩
theorem SlipRecord.toHold_lined (r : SlipRecord) : r.toHold.lined := ⟨nofun, fun _ => rfl, rfl⟩

theorem SlipRecord.reapplyStep_of_done {r : SlipRecord} (done : r.phase = 0 ∧ 10 ≤ r.steps) : r.reapplyStep = r.freed :=
  if_pos done

theorem SlipRecord.reapplyStep_of_running {r : SlipRecord} (running : ¬(r.phase = 0 ∧ 10 ≤ r.steps)) : r.reapplyStep =
    { r with
      state := .reapply
      steps := if r.phase = 0 then r.steps + 1 else r.steps
      phase := if r.phase = 2 then 0 else r.phase + 1
      holdLine := r.phase != 0
      dumpLine := false } := if_neg running

theorem SlipRecord.reapplyStep_lined (r : SlipRecord) : r.reapplyStep.lined := by
  by_cases done : r.phase = 0 ∧ 10 ≤ r.steps
  · rw [SlipRecord.reapplyStep_of_done done]
    exact r.freed_lined
  · rw [SlipRecord.reapplyStep_of_running done]
    exact ⟨nofun, fun h => h.elim nofun nofun, rfl⟩

section
variable (r : SlipRecord) (p : Params) (slip : Int) (wheel : Nat) {commanded : Nat}

theorem SlipRecord.move_free (free : r.state = .free) (pressed : 0 < commanded) : r.move p slip wheel commanded =
    if (p.slipEntry : Int) ≤ slip then r.toDump else r.freed := by
  unfold SlipRecord.move
  rw [free]
  refine if_congr ?_ rfl rfl
  simp [pressed]

theorem SlipRecord.move_dump (dump : r.state = .dump) : r.move p slip wheel commanded =
    if slip < p.slipExit ∨ r.previous < wheel then r.toHold else r.toDump := by
  unfold SlipRecord.move
  rw [dump]
  exact if_congr (by simp) rfl rfl

theorem SlipRecord.move_hold (hold : r.state = .hold) : r.move p slip wheel commanded =
    if slip < p.slipExit then { r with steps := 0, phase := 0 }.reapplyStep
    else if (p.slipEntry : Int) ≤ slip ∧ wheel ≤ r.previous then r.toDump else r.toHold := by
  unfold SlipRecord.move
  rw [hold]
  exact if_congr (by simp) rfl (if_congr (by simp) rfl rfl)

theorem SlipRecord.move_reapply (reapply : r.state = .reapply) : r.move p slip wheel commanded =
    if (p.slipEntry : Int) ≤ slip then r.toDump else r.reapplyStep := by
  unfold SlipRecord.move
  rw [reapply]
  exact if_congr (by simp) rfl rfl

theorem SlipRecord.move_lined : (r.move p slip wheel commanded).lined := by
  unfold SlipRecord.move
  dsimp only
  split
  · exact ite_keeps (P := SlipRecord.lined) r.toDump_lined r.freed_lined
  · exact ite_keeps (P := SlipRecord.lined) r.toHold_lined r.toDump_lined
  · exact ite_keeps (P := SlipRecord.lined) (SlipRecord.reapplyStep_lined _)
      (ite_keeps (P := SlipRecord.lined) r.toDump_lined r.toHold_lined)
  · exact ite_keeps (P := SlipRecord.lined) r.toDump_lined r.reapplyStep_lined

/-- The rows of Table 7.6, at a pressure. -/
theorem SlipRecord.move_state (pressed : 0 < commanded) : (r.move p slip wheel commanded).state =
    match r.state with
    | .free => if p.slipEntry ≤ slip then SlipState.dump else .free
    | .dump => if slip < p.slipExit ∨ r.previous < wheel then .hold else .dump
    | .hold =>
      if slip < p.slipExit then .reapply
      else if p.slipEntry ≤ slip ∧ wheel ≤ r.previous then .dump
      else .hold
    | .reapply =>
      if p.slipEntry ≤ slip then .dump
      else if r.phase = 0 ∧ 10 ≤ r.steps then .free
      else .reapply := by
  cases state : r.state with
  | free =>
    rw [r.move_free p slip wheel state pressed]
    exact apply_ite SlipRecord.state ..
  | dump =>
    rw [r.move_dump p slip wheel state]
    exact apply_ite SlipRecord.state ..
  | hold =>
    have begins : ¬((0 : Nat) = 0 ∧ 10 ≤ (0 : Nat)) := by omega
    rw [r.move_hold p slip wheel state,
      SlipRecord.reapplyStep_of_running (r := { r with steps := 0, phase := 0 }) begins]
    dsimp only
    split
    · rfl
    · exact apply_ite SlipRecord.state ..
  | reapply =>
    rw [r.move_reapply p slip wheel state]
    dsimp only
    split
    · rfl
    · by_cases done : r.phase = 0 ∧ 10 ≤ r.steps
      · rw [SlipRecord.reapplyStep_of_done done, if_pos done]
        rfl
      · rw [SlipRecord.reapplyStep_of_running done, if_neg done]

/-- REAPPLY begins with one step made (R123). -/
theorem SlipRecord.move_begins_reapply (hold : r.state = .hold) (reapplies : (r.move p slip wheel commanded).state = .reapply) :
    (r.move p slip wheel commanded).steps = 1 ∧ (r.move p slip wheel commanded).phase = 1
    ∧ (r.move p slip wheel commanded).holdLine = false := by
  rw [r.move_hold p slip wheel hold] at reapplies ⊢
  split at reapplies
  · next exits =>
    have begins : ¬((0 : Nat) = 0 ∧ 10 ≤ (0 : Nat)) := by omega
    rw [if_pos exits, SlipRecord.reapplyStep_of_running (r := { r with steps := 0, phase := 0 }) begins]
    exact ⟨rfl, rfl, rfl⟩
  · split at reapplies <;> cases reapplies

/-- REAPPLY goes through its phases (R123). -/
theorem SlipRecord.move_goes_on_reapply (reapply : r.state = .reapply)
    (reapplies : (r.move p slip wheel commanded).state = .reapply) :
    (r.move p slip wheel commanded).steps = (if r.phase = 0 then r.steps + 1 else r.steps)
    ∧ (r.move p slip wheel commanded).phase = (if r.phase = 2 then 0 else r.phase + 1)
    ∧ (r.move p slip wheel commanded).holdLine = decide (r.phase ≠ 0) := by
  rw [r.move_reapply p slip wheel reapply] at reapplies ⊢
  split at reapplies
  · cases reapplies
  · next low =>
    rw [if_neg low]
    by_cases done : r.phase = 0 ∧ 10 ≤ r.steps
    · rw [SlipRecord.reapplyStep_of_done done] at reapplies
      cases reapplies
    · rw [SlipRecord.reapplyStep_of_running done]
      refine ⟨rfl, rfl, ?_⟩
      cases h : r.phase <;> rfl

end

/-! ## The records up to step 6 -/

/-- The slip records are those of `s`, or backup was entered for a cause that lasts. -/
def State.slipsKept (s t : State) : Prop :=
  (∀ side, t.brake.slip side = s.brake.slip side)
  ∨ (t.brake.backup = true ∧ (t.brake.latched.isSome = true ∨ t.driverUsable = false))

theorem State.slipsKept_latchBackup (s t : State) (c : LatchedCause) : s.slipsKept (t.latchBackup c) := by
  have latched : (t.latchBackup c).brake.latched.isSome = true := by
    rw [State.latchBackup_latched]
    rfl
  exact .inr ⟨State.latchBackup_backup .., .inl latched⟩

section
variable {s t : State} (h : s.slipsKept t)
include h

/-- A change of the block that leaves the records, the backup state and its causes. -/
theorem State.slipsKept.of_brake {x : Braking} (slips : x.slipL = t.brake.slipL ∧ x.slipR = t.brake.slipR)
    (backup : x.backup = t.brake.backup) (latched : t.brake.latched.isSome = true → x.latched.isSome = true) :
    s.slipsKept (t.setBrake x) := by
  refine h.imp (fun same side => ?_) fun ⟨held, cause⟩ => ⟨backup.trans held, cause.imp_left latched⟩
  rw [← same side]
  cases side
  · exact slips.1
  · exact slips.2

theorem State.slipsKept.read (pressure : AnalogIn) : s.slipsKept (t.readPressure pressure) := by
  have measured (present : Bool) (v : Nat) :
      s.slipsKept ((t.follow .brakeSensor present).setBrake { t.brake with measured := v }) := by
    have followed : s.slipsKept (t.follow .brakeSensor present) := by
      unfold State.slipsKept State.driverUsable
      rw [State.follow_brake, State.follow_driver]
      exact h
    refine followed.of_brake ?_ ?_ ?_ <;> rw [State.follow_brake]
    · exact ⟨rfl, rfl⟩
    · exact id
  obtain ⟨present, v, e | e⟩ := t.readPressure_cases pressure <;> rw [e]
  · exact measured present v
  · exact State.slipsKept_latchBackup ..

theorem State.slipsKept.supervised : s.slipsKept t.supervisePressure := by
  have compared : s.slipsKept (t.setBrake t.brake.comparePressure) := by
    have same : t.brake.comparePressure.slipL = t.brake.slipL ∧ t.brake.comparePressure.slipR = t.brake.slipR
        ∧ t.brake.comparePressure.backup = t.brake.backup ∧ t.brake.comparePressure.latched = t.brake.latched := by
      unfold Braking.comparePressure
      split
      · exact ⟨rfl, rfl, rfl, rfl⟩
      split
      · exact ⟨rfl, rfl, rfl, rfl⟩
      split
      · exact ⟨rfl, rfl, rfl, rfl⟩
      · exact ⟨rfl, rfl, rfl, rfl⟩
    obtain ⟨left, right, backup, latched⟩ := same
    exact h.of_brake ⟨left, right⟩ backup (by rw [latched]; exact id)
  exact ite_keeps (P := s.slipsKept) (State.slipsKept_latchBackup ..) compared

theorem State.slipsKept.lost : s.slipsKept t.loseDriver := by
  by_cases usable : t.driverUsable = true
  · rw [State.loseDriver_of_usable usable]
    exact h
  · refine .inr ?_
    have lose : t.loseDriver = (t.setBrake { t.brake with driverLost := true }).enterBackup := if_neg usable
    rw [lose]
    refine ⟨State.enterBackup_backup _, .inr ?_⟩
    unfold State.driverUsable
    rw [State.enterBackup_driver]
    exact Bool.eq_false_iff.mpr usable

/-- Backup that ends was not entered at this expiry, so the records are those it began with (R128). -/
theorem State.slipsKept.exited : t.exitBackup.brake.backup = false → ∀ side, t.exitBackup.brake.slip side = s.brake.slip side := by
  intro out side
  have slip : t.exitBackup.brake.slip side = t.brake.slip side := by
    unfold State.exitBackup
    dsimp only
    split
    · split <;> cases side <;> rfl
    · cases side <;> rfl
  rw [slip]
  refine h.elim (fun same => same side) fun ⟨held, cause⟩ => ?_
  have stays : (t.brake.backup && t.brake.driverLost && t.brake.latched.isNone && t.driverUsable) = false := by
    rcases cause with latched | lost
    · rw [← Option.not_isSome, latched]
      simp
    · rw [lost]
      simp
  rw [State.exitBackup_of_held stays] at out
  exact absurd (held.symm.trans out) (by decide)

end

theorem State.pressed_slips (s : State) (pressure : AnalogIn) (p : Params)
    (out : (s.pressed pressure p).brake.backup = false) (side : Side) :
    (s.pressed pressure p).brake.slip side = s.brake.slip side := by
  have begun : s.slipsKept (s.setBrake s.brake.output) := by
    refine .inl fun side => ?_
    unfold Braking.output
    split <;> cases side <;> rfl
  have exited := (begun.read pressure).supervised.lost.exited
  generalize rest : ((s.setBrake s.brake.output).readPressure pressure).supervisePressure.loseDriver.exitBackup = x at exited
  have work : s.pressed pressure p = x.demandWork.pressureWork p := by
    unfold State.pressed
    rw [rest]
  have kept : (x.demandWork.pressureWork p).brake.backup = x.brake.backup
      ∧ (x.demandWork.pressureWork p).brake.slip side = x.brake.slip side := by
    unfold State.pressureWork
    dsimp only
    split <;> cases side <;> exact ⟨rfl, rfl⟩
  rw [work] at out ⊢
  exact kept.2.trans (exited (kept.1.symm.trans out) side)

/-! ## Step 6: O41 -/

/-- Step 6 for one side (R121, R124). -/
theorem State.slipWork_slip (s : State) (p : Params) (side : Side) :
    (s.slipWork p).brake.slip side = s.slipStep p (s.odo.wheel side) (s.brake.slip side) := by cases side <;> rfl

theorem State.slipStep_off {s : State} {w : Wheel} (off : s.slipOff w = true) (p : Params) (r : SlipRecord) :
    s.slipStep p w r = { r.freed with previous := w.speed } :=
  congrArg (fun m : SlipRecord => { m with previous := w.speed }) (if_pos off)

theorem State.slipStep_on {s : State} {w : Wheel} (on : s.slipOff w = false) (p : Params) (r : SlipRecord) :
    s.slipStep p w r =
      { r.move p (slipOf s.odo.reference w.speed) w.speed s.brake.commanded with previous := w.speed } :=
  congrArg (fun m : SlipRecord => { m with previous := w.speed }) (if_neg (ne_true_of_eq_false on))

theorem State.slipStep_lined (s : State) (p : Params) (w : Wheel) (r : SlipRecord) : (s.slipStep p w r).lined := by
  cases off : s.slipOff w
  · rw [State.slipStep_on off]
    obtain ⟨free, holds, dump⟩ := SlipRecord.move_lined r p (slipOf s.odo.reference w.speed) w.speed
      (commanded := s.brake.commanded)
    exact ⟨free, holds, dump⟩
  · rw [State.slipStep_off off]
    obtain ⟨free, holds, dump⟩ := r.freed_lined
    exact ⟨free, holds, dump⟩

theorem State.slipOff_iff (s : State) (w : Wheel) : s.slipOff w = true ↔
    s.brake.backup = true ∨ s.brake.commanded = 0 ∨ s.odo.reference < 150 ∨ w.excluded = true := by
  unfold State.slipOff
  simp only [Bool.or_eq_true, beq_iff_eq, decide_eq_true_eq]
  tauto

/-- The state that step 6 finds: its pressure and backup state are the expiry's, its speeds those before it. -/
theorem State.pressed_reads (s : State) (pressure : AnalogIn) (p : Params) :
    (s.pressed pressure p).odo = s.odo
    ∧ ((s.pressed pressure p).slipWork p).brake.backup = (s.pressed pressure p).brake.backup
    ∧ ((s.pressed pressure p).slipWork p).brake.commanded = (s.pressed pressure p).brake.commanded :=
  ⟨State.same_of_onlyChanges (s.pressed_onlyChanges pressure p) .odo (by decide), rfl, rfl⟩

/-- An expiry's records, from the state that step 6 finds. -/
theorem State.brakeExpiry_slip {s : State} {p : Params} (working : s.working = true) (copy : s.loader.copy = some p)
    (pressure : AnalogIn) (side : Side) :
    (s.brakeExpiry pressure).brake.backup = (s.pressed pressure p).brake.backup
    ∧ (s.brakeExpiry pressure).brake.commanded = (s.pressed pressure p).brake.commanded
    ∧ (s.brakeExpiry pressure).brake.slip side =
      (s.pressed pressure p).slipStep p (s.odo.wheel side) ((s.pressed pressure p).brake.slip side)
    ∧ (s.pressed pressure p).odo = s.odo := by
  obtain ⟨odo, backup, commanded⟩ := s.pressed_reads pressure p
  rw [State.brakeExpiry_brake working copy, State.slipWork_slip, odo]
  exact ⟨backup, commanded, rfl, rfl⟩

/-- A REAPPLY record whose steps are made ends, whatever else holds (R123, R124). -/
theorem State.slipStep_reapplied {s : State} {w : Wheel} {r : SlipRecord} (p : Params)
    (same : s.slipOff w = false → r.state = .reapply ∧ r.phase = 0 ∧ 10 ≤ r.steps)
    (low : slipOf s.odo.reference w.speed < p.slipEntry) :
    (s.slipStep p w r).state = .free ∧ (s.slipStep p w r).previous = w.speed := by
  cases off : s.slipOff w
  · obtain ⟨reapply, phase, steps⟩ := same off
    rw [State.slipStep_on off, r.move_reapply p _ _ reapply, if_neg (Int.not_le.mpr low),
      SlipRecord.reapplyStep_of_done ⟨phase, steps⟩]
    exact ⟨rfl, rfl⟩
  · rw [State.slipStep_off off]
    exact ⟨rfl, rfl⟩

/-- Backup ends at the hundredth expiry with driver content (R128). -/
theorem State.pressed_of_exit {s : State} {v : Nat} (high : v ≤ 1000) (backup : s.brake.backup = true)
    (lost : s.brake.driverLost = true) (first : s.brake.latched = none) (usable : s.driverUsable = true)
    (run : s.brake.exitRun = 99) (p : Params) :
    (s.pressed (.reading v) p).brake.backup = false ∧ (s.pressed (.reading v) p).brake.driverLost = false
    ∧ (s.pressed (.reading v) p).brake.exitRun = 0 ∧ (s.pressed (.reading v) p).brake.measured = v := by
  have output : s.brake.output = s.brake := if_pos backup
  have compared : Braking.comparePressure { s.brake with measured := v } = { s.brake with measured := v, mismatchRun := 0 } :=
    Braking.comparePressure_of_backup backup
  have read : ((s.setBrake s.brake.output).readPressure (.reading v)).supervisePressure =
      (s.endCondition .brakeSensor).setBrake { s.brake with measured := v, mismatchRun := 0 } := by
    have rests : Braking.comparePressure
        (((s.setBrake s.brake).endCondition .brakeSensor).setBrake { s.brake with measured := v }).brake =
        { s.brake with measured := v, mismatchRun := 0 } := compared
    rw [output, State.readPressure_sound _ high, State.setBrake_brake, State.supervisePressure_of_follows]
    · rw [rests]
      rfl
    · rw [rests]
      exact Nat.zero_lt_succ _
  have left : ((s.endCondition .brakeSensor).setBrake { s.brake with measured := v, mismatchRun := 0 }).exitBackup =
      (s.endCondition .brakeSensor).setBrake
        { s.brake with measured := v, mismatchRun := 0, driverLost := false, backup := false, exitRun := 0 } := by
    have ends : (s.brake.backup && s.brake.driverLost && s.brake.latched.isNone && s.driverUsable) = true := by
      rw [backup, lost, first, usable]
      rfl
    have full : 100 ≤ s.brake.exitRun + 1 := by omega
    exact (if_pos ends).trans (if_pos full)
  have same : s.pressed (.reading v) p = (((s.endCondition .brakeSensor).setBrake
      { s.brake with measured := v, mismatchRun := 0, driverLost := false, backup := false, exitRun := 0 }).demandWork).pressureWork
        p := by
    unfold State.pressed
    rw [read, State.loseDriver_of_usable, left]
    exact usable
  rw [same, State.pressureWork_of_out rfl]
  exact ⟨rfl, rfl, rfl, rfl⟩

/-- Settles O41. -/
theorem slipRecordsMoveAndBackupEnds : Obligations.slip_records_move_and_backup_ends := by
  intro dt s p working copy
  have changes (pressure : AnalogIn) := (s.advance dt).brakeExpiry_onlyChanges pressure
  have expiry (pressure : AnalogIn) (side : Side) :=
    State.brakeExpiry_slip (s := s.advance dt) (p := p) working copy pressure side
  refine ⟨fun pressure => completes_of (t := (s.advance dt).brakeExpiry pressure) rfl ⟨fun side => ?_, changes pressure⟩,
    fun side pressure reapply phase steps low => ?_, fun v high backup lost first usable run => ?_⟩
  · obtain ⟨backup, commanded, slip, odo⟩ := expiry pressure side
    have kept := (s.advance dt).pressed_slips pressure p
    rw [backup, commanded, slip]
    obtain ⟨free, holds, dump⟩ := ((s.advance dt).pressed pressure p).slipStep_lined p (s.odo.wheel side)
      (((s.advance dt).pressed pressure p).brake.slip side)
    have offIff := ((s.advance dt).pressed pressure p).slipOff_iff (s.odo.wheel side)
    rw [odo] at offIff
    generalize (s.advance dt).pressed pressure p = m at *
    refine ⟨rfl, fun off => ?_, fun out pressed fast used => ?_, free, holds, dump⟩
    · rw [show (s.advance dt).odo.wheel side = s.odo.wheel side from rfl, State.slipStep_off (offIff.mpr off)]
      exact ⟨rfl, rfl, rfl⟩
    · have on : m.slipOff (s.odo.wheel side) = false := by
        rw [← Bool.not_eq_true, offIff]
        rintro (held | none | slow | excluded)
        · exact absurd (held.symm.trans out) (by decide)
        · omega
        · exact absurd slow (Nat.not_lt.mpr fast)
        · exact absurd (excluded.symm.trans used) (by decide)
      have record : m.brake.slip side = s.brake.slip side := kept out side
      rw [show (s.advance dt).odo.wheel side = s.odo.wheel side from rfl, State.slipStep_on on, record, odo]
      exact ⟨(s.brake.slip side).move_state p _ _ pressed,
        fun reapplies hold => (s.brake.slip side).move_begins_reapply p _ _ hold reapplies,
        fun reapplies reapply => (s.brake.slip side).move_goes_on_reapply p _ _ reapply reapplies⟩
  · obtain ⟨backup, commanded, slip, odo⟩ := expiry pressure side
    have kept := (s.advance dt).pressed_slips pressure p
    have lined := ((s.advance dt).pressed pressure p).slipStep_lined p (s.odo.wheel side)
      (((s.advance dt).pressed pressure p).brake.slip side)
    have same (on : ((s.advance dt).pressed pressure p).slipOff (s.odo.wheel side) = false) :
        (((s.advance dt).pressed pressure p).brake.slip side).state = .reapply
        ∧ (((s.advance dt).pressed pressure p).brake.slip side).phase = 0
        ∧ 10 ≤ (((s.advance dt).pressed pressure p).brake.slip side).steps := by
      have out : ((s.advance dt).pressed pressure p).brake.backup = false := by
        rw [← Bool.not_eq_true]
        exact fun held => ne_true_of_eq_false on ((State.slipOff_iff ..).mpr (.inl held))
      rw [kept out side]
      exact ⟨reapply, phase, steps⟩
    obtain ⟨state, previous⟩ := State.slipStep_reapplied p same (by rw [odo]; exact low)
    have slip' : ((s.advance dt).brakeExpiry pressure).brake.slip side =
        ((s.advance dt).pressed pressure p).slipStep p (s.odo.wheel side)
          (((s.advance dt).pressed pressure p).brake.slip side) := slip
    rw [← slip'] at state previous lined
    have work : (s.advance dt).reapplyExpiry side pressure = (s.advance dt).brakeExpiry pressure := by
      refine State.expiryIf_of ?_
      rw [state]
      unfold SlipRecord.reapplied
      rw [show ((s.advance dt).brake.slip side).state = .reapply from reapply,
        show ((s.advance dt).brake.slip side).phase = 0 from phase,
        decide_eq_true (show 10 ≤ ((s.advance dt).brake.slip side).steps from steps)]
      rfl
    refine completes_of work ⟨state, lined.free state, ?_, previous, changes pressure⟩
    rw [lined.dump, state]
    rfl
  · have brake := State.brakeExpiry_brake (s := s.advance dt) working copy (.reading v)
    obtain ⟨out, found, rests, measured⟩ := State.pressed_of_exit (s := s.advance dt) high backup lost first usable run p
    have backup' : ((s.advance dt).brakeExpiry (.reading v)).brake.backup = false := by
      rw [brake]
      exact out
    have work : (s.advance dt).backupExitExpiry (.reading v) = (s.advance dt).brakeExpiry (.reading v) := by
      refine State.expiryIf_of ?_
      rw [backup', show (s.advance dt).brake.backup = true from backup]
      rfl
    exact completes_of work ⟨backup', (congrArg Braking.driverLost brake).trans found,
      (congrArg Braking.exitRun brake).trans rests, (congrArg Braking.measured brake).trans measured, changes _⟩

end Sys2Proof.Machine
end

section
/-! PROOFS. The cab's DRIVER emission (R24, R114): O44. -/

namespace Sys2Proof.Machine

theorem State.driverWork_sound {lines : DriverLines} {travel : Nat} (high : travel ≤ 1000)
    (pedal : lines.pedal = .reading travel) (s : State) :
    s.driverWork lines =
      (s.endCondition .pedalInput).sendDriver ((s.endCondition .pedalInput).readDriver lines travel) := by
  unfold State.driverWork
  rw [pedal, soundNat_reading high]
  rfl

theorem State.driverWork_faulty {lines : DriverLines} (faulty : faultyReading 0 1000 lines.pedal) (s : State) :
    s.driverWork lines = s.follow .pedalInput true := by
  unfold State.driverWork
  rw [show soundNat 1000 lines.pedal = none from soundNat_faulty faulty]

section
variable {s : State} (timers : s.timersRun = true) (cab : s.isCab = true) (lines : DriverLines)
include timers cab

theorem State.emitDriver_eq : s.emitDriver lines = (s.driverWork lines).settle := by
  refine if_pos ?_
  rw [timers, cab]
  rfl

/-- An expiry that queues no frame changes the fault, and what settles with it (R114). -/
theorem State.emitDriver_of_tested {present : Bool} (work : s.driverWork lines = s.follow .pedalInput present) :
    (s.emitDriver lines).hasCondition .pedalInput = present
    ∧ s.onlyChanges [.sup, .odo, .joint, .air, .doors] (s.emitDriver lines) := by
  rw [State.emitDriver_eq timers cab, work, State.hasCondition_settle, State.hasCondition_follow, if_pos rfl]
  exact ⟨rfl, (State.onlyChanges_mono (State.follow_touches ..) (by decide)).step (State.settle_onlyChanges _) (by decide)⟩

end

/-- The content that the cab's lines and its path generator give is queued and becomes the cab's own (R24, R41). -/
theorem State.emitDriver_of_sent {s : State} {lines : DriverLines} {travel : Nat} (working : s.working = true)
    (cab : s.isCab = true) (high : travel ≤ 1000) (pedal : lines.pedal = .reading travel) (emits : s.link.emits = true) :
    let c := s.readDriver lines travel
    let t := s.emitDriver lines
    t.link.driver.map (fun q => q.frame) = some { identifier := 8 + s.station, payload := encodeDriver c }
    ∧ t.driver = { content := some c, since := s.now, status := .fresh }
    ∧ t.hasCondition .pedalInput = false ∧ t.hasCondition .cabLost = false := by
  intro c t
  have same : (s.endCondition .pedalInput).readDriver lines travel = c := by
    have condition : (s.endCondition .pedalInput).hasCondition .steerInput = s.hasCondition .steerInput := by
      refine (State.hasCondition_endCondition s .pedalInput .steerInput).trans ?_
      simp
    unfold State.readDriver
    rw [condition]
    rfl
  have sends : ((s.endCondition .pedalInput).working && (s.endCondition .pedalInput).link.emits) = true := by
    rw [show (s.endCondition .pedalInput).working = true from working]
    exact emits
  have expiry : t = (((s.endCondition .pedalInput).queueDriver (encodeDriver c)).newDriver c).settle := by
    refine (State.emitDriver_eq (State.timersRun_of_working working) cab lines).trans (congrArg State.settle ?_)
    rw [State.driverWork_sound high pedal, same]
    exact if_pos sends
  rw [expiry, State.settle_link, State.settle_driver, State.hasCondition_settle, State.hasCondition_settle]
  refine ⟨rfl, rfl, ?_, ?_⟩
  · refine (State.hasCondition_endCondition _ .cabLost .pedalInput).trans (Bool.and_eq_false_iff.mpr (.inl ?_))
    refine (State.hasCondition_endCondition s .pedalInput .pedalInput).trans ?_
    simp
  · refine (State.hasCondition_endCondition _ .cabLost .cabLost).trans ?_
    simp

/-- Settles O44. -/
theorem driverEmissionSendsOrTests : Obligations.driver_emission_sends_or_tests := by
  intro dt s lines cab
  refine ⟨fun travel working high pedal engine => ?_, fun travel limp high pedal => ?_, fun timers faulty => ?_⟩
  · have emits : (s.advance dt).link.emits = true := by
      unfold Link.emits
      rcases engine with state | state <;> rw [show (s.advance dt).link.state = _ from state]
    obtain ⟨frame, driver, pedalEnds, cabEnds⟩ :=
      State.emitDriver_of_sent (s := s.advance dt) working cab high pedal emits
    refine completes_of rfl ⟨(s.advance dt).readDriver lines travel, ?_, frame, driver, pedalEnds, cabEnds,
      (s.advance dt).emitDriver_onlyChanges lines⟩
    have condition : (s.advance dt).hasCondition .steerInput = s.hasCondition .steerInput := rfl
    unfold State.readDriver demandOf
    rw [condition]
    cases s.hasCondition .steerInput <;> rfl
  · have notWorking : (s.advance dt).working = false := by
      unfold State.working
      rw [show (s.advance dt).sup.mode = .limp from limp]
    have timers : (s.advance dt).timersRun = true := by
      unfold State.timersRun State.inLimp
      rw [show (s.advance dt).sup.mode = .limp from limp, notWorking]
      rfl
    have work : (s.advance dt).driverWork lines = (s.advance dt).follow .pedalInput false := by
      rw [State.driverWork_sound high pedal]
      refine if_neg ?_
      rw [show ((s.advance dt).endCondition .pedalInput).working = false from notWorking]
      simp
    exact completes_of rfl (State.emitDriver_of_tested timers cab lines work)
  · exact completes_of rfl
      (State.emitDriver_of_tested (s := s.advance dt) timers cab lines (State.driverWork_faulty faulty _))

end Sys2Proof.Machine
end

section
/-! PROOFS. Frames decode to what they were made from (R27 to R32): O50, O51. -/

namespace Sys2Proof.Machine

/-! ## Fields of words (R28) -/

theorem toByte_toNat (n : Nat) : (toByte n).toNat = n % 256 := BitVec.toNat_ofNat ..

/-- Two bytes of a number, read again. -/
@[simp] theorem word16_of_bytes (n : Nat) : (toByte n).toNat + 256 * (toByte (n / 256)).toNat = n % 65536 := by
  rw [toByte_toNat, toByte_toNat]
  omega

theorem word32_of_bytes (n : Nat) :
    (toByte n).toNat + 256 * (toByte (n / 256)).toNat
      + 65536 * ((toByte (n / 65536)).toNat + 256 * (toByte (n / 16777216)).toNat) = n % 4294967296 := by
  simp only [toByte_toNat]
  omega

theorem flagBit_le (b : Bool) : flagBit b ≤ 1 := by cases b <;> decide

theorem bitFlag_of {n k : Nat} {b : Bool} (h : n / 2 ^ k % 2 = flagBit b) : bitFlag n k = b := by
  unfold bitFlag
  rw [h]
  cases b <;> rfl

theorem fromSigned16_signed16 {x : Int} (low : -32768 ≤ x) (high : x ≤ 32767) : fromSigned16 (signed16 x % 65536) = x := by
  unfold fromSigned16 signed16
  split <;> omega

/-! ## Codings -/

theorem HaltState.code_le (h : HaltState) : h.code ≤ 3 := by cases h <;> decide
theorem AirStatus.code_le (a : AirStatus) : a.code ≤ 2 := by cases a <;> decide
theorem LevelState.code_le (l : LevelState) : l.code ≤ 7 := by cases l <;> decide
theorem DoorState.code_le (d : DoorState) : d.code ≤ 5 := by cases d <;> decide
theorem SteerMode.code_le (m : SteerMode) : m.code ≤ 4 := by cases m <;> decide
theorem Mode.code_le (m : Mode) : m.code ≤ 3 := by cases m <;> decide

theorem HaltState.ofCode_code (h : HaltState) : HaltState.ofCode h.code = h := by cases h <;> rfl
theorem AirStatus.ofCode?_code (a : AirStatus) : AirStatus.ofCode? a.code = some a := by cases a <;> rfl
theorem LevelState.ofCode_code (l : LevelState) : LevelState.ofCode l.code = l := by cases l <;> rfl
theorem DoorState.ofCode?_code (d : DoorState) : DoorState.ofCode? d.code = some d := by cases d <;> rfl
theorem SteerMode.ofCode?_code (m : SteerMode) : SteerMode.ofCode? m.code = some m := by cases m <;> rfl

/-- START and RESTART send no mode. -/
theorem Mode.ofCode_code {m : Mode} (sent : m ≠ .start ∧ m ≠ .restart) : Mode.ofCode m.code = m := by
  obtain ⟨start, restart⟩ := sent
  cases m
  case start => contradiction
  case restart => contradiction
  all_goals rfl

/-! ## PATH and ALERT frames: O51 -/

theorem decodePath_encodePath {x : PathSample} (mark : x.mark ≤ 4000000000) (low : -20000 ≤ x.curvature)
    (high : x.curvature ≤ 20000) : decodePath (encodePath x) = some x := by
  have markWord : word32At (encodePath x) 0 = x.mark % 4294967296 := word32_of_bytes _
  have curvatureWord : word16At (encodePath x) 4 = signed16 x.curvature % 65536 := word16_of_bytes _
  have flags : byteAt (encodePath x) 6 = (flagBit x.firstAfterBreak + 2 * flagBit x.gapBefore) % 256 := toByte_toNat _
  have first := flagBit_le x.firstAfterBreak
  have gap := flagBit_le x.gapBefore
  have markIs : min Config.maxMark (word32At (encodePath x) 0) = x.mark := by
    rw [markWord]
    change min 4000000000 _ = _
    omega
  have curvatureIs : clampInt Config.maxCurvature (fromSigned16 (word16At (encodePath x) 4)) = x.curvature := by
    rw [curvatureWord, fromSigned16_signed16 (by omega) (by omega)]
    exact clampInt_of_within ⟨low, high⟩
  have firstIs : bitFlag (byteAt (encodePath x) 6) 0 = x.firstAfterBreak := by
    refine bitFlag_of ?_
    rw [flags]
    omega
  have gapIs : bitFlag (byteAt (encodePath x) 6) 1 = x.gapBefore := by
    refine bitFlag_of ?_
    rw [flags]
    omega
  unfold decodePath
  rw [if_neg (fun length => length rfl), markIs, curvatureIs, firstIs, gapIs]

theorem AlertKind.ofCode?_code (k : AlertKind) : AlertKind.ofCode? k.code = some k := by cases k <;> rfl
theorem AlertKind.code_le (k : AlertKind) : k.code ≤ 5 := by cases k <;> decide

/-- The slot of R32, by the words of the obligation. -/
theorem AlertKind.slotFits_of {k : AlertKind} {slot : Nat}
    (h : if k = .doorUnreleased ∨ k = .edge then slot = 0 ∨ slot = 1 else slot = 255) :
    k.slotFits slot = true ∧ slot ≤ 255 := by
  cases k
  case doorUnreleased | edge =>
    rw [if_pos (by decide)] at h
    rcases h with rfl | rfl <;> decide
  case standstillLost | jackknife | limpEntered =>
    rw [if_neg (by decide)] at h
    subst h
    decide

theorem decodeAlert_encodeAlert {a : Alert} (station : a.station < 8) (low : -32768 ≤ a.value) (high : a.value ≤ 32767)
    (fits : a.kind.slotFits a.slot = true) (slot : a.slot ≤ 255) :
    decodeAlert a.station (encodeAlert a) = some a := by
  have kindIs : byteAt (encodeAlert a) 0 = a.kind.code :=
    (toByte_toNat _).trans (Nat.mod_eq_of_lt (by have := a.kind.code_le; omega))
  have stationIs : byteAt (encodeAlert a) 1 = a.station := (toByte_toNat _).trans (Nat.mod_eq_of_lt (by omega))
  have slotIs : byteAt (encodeAlert a) 2 = a.slot := (toByte_toNat _).trans (Nat.mod_eq_of_lt (by omega))
  have valueIs : fromSigned16 (word16At (encodeAlert a) 4) = a.value := by
    rw [show word16At (encodeAlert a) 4 = signed16 a.value % 65536 from word16_of_bytes _]
    exact fromSigned16_signed16 low high
  have sound : ¬((encodeAlert a).length ≠ 8 ∨ byteAt (encodeAlert a) 1 ≠ a.station) := by
    rw [stationIs]
    rintro (length | other)
    · exact length rfl
    · exact other rfl
  unfold decodeAlert
  rw [if_neg sound, kindIs, AlertKind.ofCode?_code]
  dsimp only
  rw [slotIs, if_pos fits, stationIs, valueIs]

/-! ## DRIVER frames -/

theorem directionCode_le (d : Direction) : directionCode d ≤ 2 := by cases d <;> decide
theorem requestCode_le (r : LevelRequest) : requestCode r ≤ 2 := by cases r <;> decide
theorem directionOfCode?_code (d : Direction) : directionOfCode? (directionCode d) = some d := by cases d <;> rfl
theorem requestOfCode?_code (r : LevelRequest) : requestOfCode? (requestCode r) = some r := by cases r <;> rfl

/-- A signed field that a clear flag empties, sent and read again (R28). -/
theorem signed_of_flagged {flag : Bool} {bound x : Int} (within : -bound ≤ x ∧ x ≤ bound) (fits : bound ≤ 32767)
    (empty : flag = false → x = 0) :
    (if flag then clampInt bound (fromSigned16 (signed16 (if flag then x else 0) % 65536)) else 0) = x := by
  obtain ⟨low, high⟩ := within
  cases flag
  · exact (empty rfl).symm
  · change clampInt bound (fromSigned16 (signed16 x % 65536)) = x
    rw [fromSigned16_signed16 (by omega) (by omega)]
    exact clampInt_of_within ⟨low, high⟩

theorem decodeDriver_encodeDriver {c : DriverContent} (h : c.inRange) : decodeDriver (encodeDriver c) = some c := by
  obtain ⟨demand, doorMask, ⟨curvatureLow, curvatureHigh, noCurvature⟩, ⟨angle, noAngle⟩⟩ := h
  have w0 : word16At (encodeDriver c) 0 = (c.demand + 1024 * directionCode c.direction + 4096 * requestCode c.level
      + 16384 * flagBit c.driveIntent + 32768 * flagBit c.haltSwitch) % 65536 := word16_of_bytes _
  have w2 : word16At (encodeDriver c) 2 =
      (c.doorMask + 4096 * flagBit c.docking + 8192 * flagBit c.angleValid) % 65536 := word16_of_bytes _
  have w4 : word16At (encodeDriver c) 4 = signed16 (if c.angleValid then c.curvature else 0) % 65536 := word16_of_bytes _
  have w6 : word16At (encodeDriver c) 6 = signed16 (if c.angleValid then c.frontAngle else 0) % 65536 := word16_of_bytes _
  have direction := directionCode_le c.direction
  have request := requestCode_le c.level
  have intent := flagBit_le c.driveIntent
  have halt := flagBit_le c.haltSwitch
  have docking := flagBit_le c.docking
  have valid := flagBit_le c.angleValid
  have directionIs : directionOfCode? (bitField (word16At (encodeDriver c) 0) 10 2) = some c.direction := by
    rw [← directionOfCode?_code, w0]
    unfold bitField
    congr 1
    omega
  have requestIs : requestOfCode? (bitField (word16At (encodeDriver c) 0) 12 2) = some c.level := by
    rw [← requestOfCode?_code, w0]
    unfold bitField
    congr 1
    omega
  have demandIs : min Config.maxDemand (bitField (word16At (encodeDriver c) 0) 0 10) = c.demand := by
    rw [w0]
    unfold bitField
    change min 650 _ = _
    omega
  have intentIs : bitFlag (word16At (encodeDriver c) 0) 14 = c.driveIntent := bitFlag_of (by rw [w0]; omega)
  have haltIs : bitFlag (word16At (encodeDriver c) 0) 15 = c.haltSwitch := bitFlag_of (by rw [w0]; omega)
  have maskIs : bitField (word16At (encodeDriver c) 2) 0 12 = c.doorMask := by
    rw [w2]
    unfold bitField
    omega
  have dockingIs : bitFlag (word16At (encodeDriver c) 2) 12 = c.docking := bitFlag_of (by rw [w2]; omega)
  have validIs : bitFlag (word16At (encodeDriver c) 2) 13 = c.angleValid := bitFlag_of (by rw [w2]; omega)
  unfold decodeDriver
  dsimp only
  rw [if_neg (fun length => length rfl), directionIs, requestIs]
  dsimp only
  rw [demandIs, intentIs, haltIs, maskIs, dockingIs, validIs, w4, w6,
    signed_of_flagged (bound := Config.maxCurvature) ⟨curvatureLow, curvatureHigh⟩ (by decide) noCurvature,
    signed_of_flagged (bound := Config.maxAngle) angle (by decide) noAngle]

/-- Settles O51. -/
theorem shortFramesRoundTrip : Obligations.short_frames_round_trip :=
  ⟨fun _ h => decodeDriver_encodeDriver h, fun _ mark low high => decodePath_encodePath mark low high,
    fun _ station low high fits =>
      decodeAlert_encodeAlert station low high (AlertKind.slotFits_of fits).1 (AlertKind.slotFits_of fits).2⟩

/-! ## STATE frames: O50 -/

section
variable (c : StateContent)

/-- The bytes and words of a STATE frame (Table 2.5). -/
theorem byteAt_encodeState_one : byteAt (encodeState c) 1 =
    (c.faultCount + 32 * c.worstClass + 128 * flagBit c.starvingSoon) % 256 := by
  simp [encodeState, byteAt, le16, le32, toByte_toNat]

theorem word16At_encodeState_speed : word16At (encodeState c) 2 =
    (c.axleSpeed + 4096 * flagBit c.speedValid + 8192 * flagBit c.markValid + 16384 * flagBit c.slipActive
      + 32768 * flagBit c.backup) % 65536 := by simp [encodeState, word16At, byteAt, le16, le32, heightWord]

theorem word32At_encodeState_mark : word32At (encodeState c) 4 = (if c.markValid then c.mark else 0) % 4294967296 := by
  simp [-word16_of_bytes, encodeState, word32At, word16At, byteAt, le16, le32, word32_of_bytes]

theorem word16At_encodeState_lag : word16At (encodeState c) 8 =
    (c.lag + 4096 * c.mode.code + 16384 * flagBit c.tractionInhibit + 32768 * flagBit c.speedLimit) % 65536 := by simp [encodeState, word16At, byteAt, le16, le32, heightWord]

theorem word16At_encodeState_commanded : word16At (encodeState c) 10 =
    (c.commanded + 1024 * c.halt.code + 4096 * c.air.code + 16384 * flagBit c.jackReduction
      + 32768 * flagBit c.fillInProgress) % 65536 := by simp [encodeState, word16At, byteAt, le16, le32, heightWord]

theorem word16At_encodeState_measured : word16At (encodeState c) 12 =
    (c.measured + 1024 * c.level.code + 8192 * flagBit c.participant) % 65536 := by simp [encodeState, word16At, byteAt, le16, le32, heightWord]

theorem word16At_encodeState_load : word16At (encodeState c) 14 = c.axleLoad % 65536 := by simp [encodeState, word16At, byteAt, le16, le32, heightWord]
theorem word16At_encodeState_reservoir : word16At (encodeState c) 16 = c.reservoir % 65536 := by simp [encodeState, word16At, byteAt, le16, le32, heightWord]

theorem word16At_encodeState_left : word16At (encodeState c) 18 =
    (c.heightL + 512 * c.door0.state.code + 4096 * flagBit c.door0.edge) % 65536 := by simp [encodeState, word16At, byteAt, le16, le32, heightWord]

theorem word16At_encodeState_right : word16At (encodeState c) 20 =
    (c.heightR + 512 * c.door1.state.code + 4096 * flagBit c.door1.edge) % 65536 := by simp [encodeState, word16At, byteAt, le16, le32, heightWord]

theorem byteAt_encodeState_steer : byteAt (encodeState c) 22 =
    (c.steerMode.code + 8 * flagBit (c.jointPresent && c.jackAlert) + 16 * flagBit c.jointPresent
      + 32 * flagBit (c.jointPresent && c.deviationAvailable)) % 256 := by
  simp [encodeState, byteAt, le16, le32, toByte_toNat]

theorem word16At_encodeState_applied : word16At (encodeState c) 24 = signed16 c.appliedSteer % 65536 := by simp [encodeState, word16At, byteAt, le16, le32, heightWord]
theorem word16At_encodeState_angle : word16At (encodeState c) 26 = signed16 c.measuredSteer % 65536 := by simp [encodeState, word16At, byteAt, le16, le32, heightWord]

theorem word16At_encodeState_articulation : word16At (encodeState c) 28 =
    signed16 (if c.jointPresent then c.articulation else 0) % 65536 := by simp [encodeState, word16At, byteAt, le16, le32, heightWord]

theorem word16At_encodeState_deviation : word16At (encodeState c) 30 =
    signed16 (if c.jointPresent && c.deviationAvailable then c.deviation else 0) % 65536 := by simp [encodeState, word16At, byteAt, le16, le32, heightWord]

end

section
variable {c : StateContent} (h : c.inRange)
include h

/-- Bytes 0 and 1: the token, the station and the fault summary. -/
theorem StateContent.inRange.summary :
    bitField (byteAt (encodeState c) 0) 0 4 = c.token ∧ bitField (byteAt (encodeState c) 0) 4 3 = c.station
    ∧ bitField (byteAt (encodeState c) 1) 0 5 = c.faultCount ∧ bitField (byteAt (encodeState c) 1) 5 2 = c.worstClass
    ∧ bitFlag (byteAt (encodeState c) 1) 7 = c.starvingSoon := by
  have token := h.token
  have station := h.station
  have faults := h.faultCount
  have worst := h.worstClass
  have soon := flagBit_le c.starvingSoon
  rw [byteAt_encodeState_zero, byteAt_encodeState_one]
  unfold bitField
  refine ⟨by omega, by omega, by omega, by omega, bitFlag_of (by omega)⟩

/-- Word 2: the axle speed and four flags. -/
theorem StateContent.inRange.speed :
    min Config.maxSpeed (bitField (word16At (encodeState c) 2) 0 12) = c.axleSpeed
    ∧ bitFlag (word16At (encodeState c) 2) 12 = c.speedValid ∧ bitFlag (word16At (encodeState c) 2) 13 = c.markValid
    ∧ bitFlag (word16At (encodeState c) 2) 14 = c.slipActive ∧ bitFlag (word16At (encodeState c) 2) 15 = c.backup := by
  have speed := h.axleSpeed
  have valid := flagBit_le c.speedValid
  have mark := flagBit_le c.markValid
  have slip := flagBit_le c.slipActive
  have backup := flagBit_le c.backup
  rw [word16At_encodeState_speed]
  unfold bitField
  refine ⟨?_, bitFlag_of (by omega), bitFlag_of (by omega), bitFlag_of (by omega), bitFlag_of (by omega)⟩
  change min 3000 _ = _
  omega

theorem StateContent.inRange.markField :
    (if c.markValid then min Config.maxMark (word32At (encodeState c) 4) else 0) = c.mark := by
  obtain ⟨most, none⟩ := h.mark
  rw [word32At_encodeState_mark]
  cases valid : c.markValid
  · exact (none valid).symm
  · change min 4000000000 (c.mark % 4294967296) = c.mark
    omega

/-- Word 8: the lag, the mode and two lines. -/
theorem StateContent.inRange.lagField :
    min Config.maxLag (bitField (word16At (encodeState c) 8) 0 12) = c.lag
    ∧ Mode.ofCode (bitField (word16At (encodeState c) 8) 12 2) = c.mode
    ∧ bitFlag (word16At (encodeState c) 8) 14 = c.tractionInhibit
    ∧ bitFlag (word16At (encodeState c) 8) 15 = c.speedLimit := by
  have lag := h.lag
  have code := c.mode.code_le
  have inhibit := flagBit_le c.tractionInhibit
  have limit := flagBit_le c.speedLimit
  have mode : bitField (word16At (encodeState c) 8) 12 2 = c.mode.code := by
    rw [word16At_encodeState_lag]
    unfold bitField
    omega
  rw [mode, Mode.ofCode_code h.mode, word16At_encodeState_lag]
  unfold bitField
  refine ⟨?_, rfl, bitFlag_of (by omega), bitFlag_of (by omega)⟩
  change min 4000 _ = _
  omega

/-- Word 10: the commanded pressure, halt, air and two flags. -/
theorem StateContent.inRange.commandedField :
    min Config.maxPressure (bitField (word16At (encodeState c) 10) 0 10) = c.commanded
    ∧ HaltState.ofCode (bitField (word16At (encodeState c) 10) 10 2) = c.halt
    ∧ AirStatus.ofCode? (bitField (word16At (encodeState c) 10) 12 2) = some c.air
    ∧ bitFlag (word16At (encodeState c) 10) 14 = c.jackReduction
    ∧ bitFlag (word16At (encodeState c) 10) 15 = c.fillInProgress := by
  have commanded := h.commanded
  have haltCode := c.halt.code_le
  have airCode := c.air.code_le
  have reduction := flagBit_le c.jackReduction
  have fills := flagBit_le c.fillInProgress
  have halt : bitField (word16At (encodeState c) 10) 10 2 = c.halt.code := by
    rw [word16At_encodeState_commanded]
    unfold bitField
    omega
  have air : bitField (word16At (encodeState c) 10) 12 2 = c.air.code := by
    rw [word16At_encodeState_commanded]
    unfold bitField
    omega
  rw [halt, air, HaltState.ofCode_code, AirStatus.ofCode?_code, word16At_encodeState_commanded]
  unfold bitField
  refine ⟨?_, rfl, rfl, bitFlag_of (by omega), bitFlag_of (by omega)⟩
  change min 1000 _ = _
  omega

/-- Words 12 to 16: the measured pressure, the level, the load and the reservoir. -/
theorem StateContent.inRange.measuredField :
    min Config.maxPressure (bitField (word16At (encodeState c) 12) 0 10) = c.measured
    ∧ LevelState.ofCode (bitField (word16At (encodeState c) 12) 10 3) = c.level
    ∧ bitFlag (word16At (encodeState c) 12) 13 = c.participant
    ∧ word16At (encodeState c) 14 = c.axleLoad
    ∧ min Config.maxPressure (bitField (word16At (encodeState c) 16) 0 10) = c.reservoir := by
  have measured := h.measured
  have code := c.level.code_le
  have takesPart := flagBit_le c.participant
  have load := h.axleLoad
  have reservoir := h.reservoir
  have level : bitField (word16At (encodeState c) 12) 10 3 = c.level.code := by
    rw [word16At_encodeState_measured]
    unfold bitField
    omega
  rw [level, LevelState.ofCode_code, word16At_encodeState_measured, word16At_encodeState_load,
    word16At_encodeState_reservoir]
  unfold bitField
  refine ⟨?_, rfl, bitFlag_of (by omega), by omega, ?_⟩
  · change min 1000 _ = _
    omega
  · change min 1000 _ = _
    omega

end

/-- A height field with its door slot. -/
theorem heightWord_fields {height : Nat} (low : height ≤ 400) (d : DoorReport) {n : Nat}
    (word : n = (height + 512 * d.state.code + 4096 * flagBit d.edge) % 65536) :
    min Config.maxHeight (bitField n 0 9) = height ∧ DoorState.ofCode? (bitField n 9 3) = some d.state
    ∧ bitFlag n 12 = d.edge := by
  have code := d.state.code_le
  have edge := flagBit_le d.edge
  have state : bitField n 9 3 = d.state.code := by
    rw [word]
    unfold bitField
    omega
  rw [state, DoorState.ofCode?_code, word]
  unfold bitField
  refine ⟨?_, rfl, bitFlag_of (by omega)⟩
  change min 400 _ = _
  omega

section
variable {c : StateContent} (h : c.inRange)
include h

/-- Byte 22: the steer mode and the joint's flags. -/
theorem StateContent.inRange.steerField :
    SteerMode.ofCode? (bitField (byteAt (encodeState c) 22) 0 3) = some c.steerMode
    ∧ bitFlag (byteAt (encodeState c) 22) 4 = c.jointPresent
    ∧ (c.jointPresent && bitFlag (byteAt (encodeState c) 22) 3) = c.jackAlert
    ∧ (c.jointPresent && bitFlag (byteAt (encodeState c) 22) 5) = c.deviationAvailable := by
  have code := c.steerMode.code_le
  have alert := flagBit_le (c.jointPresent && c.jackAlert)
  have joint := flagBit_le c.jointPresent
  have deviates := flagBit_le (c.jointPresent && c.deviationAvailable)
  have mode : bitField (byteAt (encodeState c) 22) 0 3 = c.steerMode.code := by
    rw [byteAt_encodeState_steer]
    unfold bitField
    omega
  have present : bitFlag (byteAt (encodeState c) 22) 4 = c.jointPresent :=
    bitFlag_of (by rw [byteAt_encodeState_steer]; omega)
  have alerted : bitFlag (byteAt (encodeState c) 22) 3 = (c.jointPresent && c.jackAlert) :=
    bitFlag_of (by rw [byteAt_encodeState_steer]; omega)
  have available : bitFlag (byteAt (encodeState c) 22) 5 = (c.jointPresent && c.deviationAvailable) :=
    bitFlag_of (by rw [byteAt_encodeState_steer]; omega)
  rw [mode, SteerMode.ofCode?_code, present, alerted, available]
  refine ⟨rfl, rfl, ?_⟩
  cases owned : c.jointPresent
  · obtain ⟨quiet, unknown⟩ := h.alert owned
    exact ⟨quiet.symm, unknown.symm⟩
  · exact ⟨rfl, rfl⟩

/-- Words 24 to 30: the angles. -/
theorem StateContent.inRange.angles :
    clampInt Config.maxAngle (fromSigned16 (word16At (encodeState c) 24)) = c.appliedSteer
    ∧ clampInt Config.maxAngle (fromSigned16 (word16At (encodeState c) 26)) = c.measuredSteer
    ∧ (if c.jointPresent then clampInt Config.maxAngle (fromSigned16 (word16At (encodeState c) 28)) else 0)
      = c.articulation
    ∧ (if c.deviationAvailable then clampInt Config.maxAngle (fromSigned16 (word16At (encodeState c) 30)) else 0)
      = c.deviation := by
  have always {x : Int} (within : angleInRange x) : clampInt Config.maxAngle (fromSigned16 (signed16 x % 65536)) = x :=
    signed_of_flagged (flag := true) (bound := Config.maxAngle) within (by decide) (by simp)
  have available : (c.jointPresent && c.deviationAvailable) = c.deviationAvailable := by
    cases owned : c.jointPresent
    · exact (h.alert owned).2.symm
    · rfl
  rw [word16At_encodeState_applied, word16At_encodeState_angle, word16At_encodeState_articulation,
    word16At_encodeState_deviation, available]
  exact ⟨always h.applied, always h.angle, signed_of_flagged h.articulation.1 (by decide) h.articulation.2,
    signed_of_flagged h.deviation.1 (by decide) h.deviation.2⟩

theorem decodeStateFields_encodeState : decodeStateFields (encodeState c) = some c := by
  obtain ⟨token, station, faults, worst, soon⟩ := h.summary
  obtain ⟨speed, speedValid, markValid, slip, backup⟩ := h.speed
  obtain ⟨lag, mode, inhibit, limit⟩ := h.lagField
  obtain ⟨commanded, halt, air, reduction, fills⟩ := h.commandedField
  obtain ⟨measured, level, takesPart, load, reservoir⟩ := h.measuredField
  obtain ⟨heightL, door0, edge0⟩ := heightWord_fields h.heightL c.door0 (word16At_encodeState_left c)
  obtain ⟨heightR, door1, edge1⟩ := heightWord_fields h.heightR c.door1 (word16At_encodeState_right c)
  obtain ⟨steer, joint, alert, deviates⟩ := h.steerField
  obtain ⟨applied, angle, articulation, deviation⟩ := h.angles
  have tokenRange := h.token
  have faultRange := h.faultCount
  have worstRange := h.worstClass
  unfold decodeStateFields
  dsimp only
  rw [air, door0, door1, steer]
  dsimp only
  rw [token, station, faults, worst, soon, speed, speedValid, markValid, slip, backup, h.markField, lag, mode, inhibit, limit,
    commanded, halt, reduction, fills, measured, level, takesPart, load, reservoir, heightL, edge0, heightR, edge1, joint,
    alert, deviates, applied, angle, articulation, deviation, if_neg (by omega)]

end

/-- Settles O50. -/
theorem stateFrameRoundTrip : Obligations.state_frame_round_trip := by
  intro c h
  have sound : ¬((encodeState c).length ≠ 32 ∨ bitField (byteAt (encodeState c) 0) 4 3 ≠ c.station) := by
    rintro (length | other)
    · exact length rfl
    · exact other h.summary.2.1
  exact (if_neg sound).trans (decodeStateFields_encodeState h)

end Sys2Proof.Machine
end

section
/-! PROOFS. Door slots through an expiry, and what settling leaves of the interlock (R154 to R167). -/

namespace Sys2Proof.Machine

/-! ## One slot (Table 9.2) -/

section
variable (d : DoorSlot)

@[simp] theorem DoorSlot.drop_gatedOff : d.drop.gatedOff = d.gatedOff := by
  unfold DoorSlot.drop
  split <;> rfl

/-- The line after step 1 (R156, R166). -/
theorem DoorSlot.output_of_energised {gate : Bool} (on : (d.grant && !d.gatedOff && gate) = true) : d.output gate =
    { d with release := true, state := if d.state = .locked then .released else d.state } := if_pos on

theorem DoorSlot.output_of_off {gate : Bool} (off : (d.grant && !d.gatedOff && gate) = false) : d.output gate = d.drop :=
  if_neg (ne_true_of_eq_false off)

theorem DoorSlot.output_release (gate : Bool) : (d.output gate).release = (d.grant && !d.gatedOff && gate) := by
  cases on : d.grant && !d.gatedOff && gate
  · rw [d.output_of_off on]
    exact d.drop_release
  · rw [d.output_of_energised on]

/-- Step 1 moves the record by the rows of its line (Table 9.2). -/
theorem DoorSlot.output_state (gate : Bool) :
    (d.output gate).state = d.afterLine (d.grant && !d.gatedOff && gate) := by
  cases on : d.grant && !d.gatedOff && gate
  · rw [d.output_of_off on]
    obtain ⟨state, _, closed, _, release, _⟩ := d
    cases release
    · cases state <;> rfl
    · cases state <;> cases closed <;> rfl
  · rw [d.output_of_energised on]
    obtain ⟨state, _, closed, _, release, _⟩ := d
    cases state <;> cases release <;> cases closed <;> rfl

theorem DoorSlot.output_keeps (gate : Bool) :
    (d.output gate).grant = d.grant ∧ (d.output gate).gatedOff = d.gatedOff ∧ (d.output gate).edge = d.edge
    ∧ (d.output gate).closed = d.closed := by
  cases on : d.grant && !d.gatedOff && gate
  · rw [d.output_of_off on]
    simp
  · rw [d.output_of_energised on]
    exact ⟨rfl, rfl, rfl, rfl⟩

/-- No row of step 1 fits or removes a door. -/
theorem DoorSlot.afterLine_eq_none_iff (energised : Bool) : d.afterLine energised = .none ↔ d.state = .none := by
  unfold DoorSlot.afterLine
  cases d.state <;> cases d.release <;> cases energised <;> cases d.closed <;> decide

theorem closedLocked_eq (x : SwitchIn) : closedLocked x = decide (x = .on) := by cases x <;> rfl
theorem edgeActive_eq (x : SwitchIn) : edgeActive x = decide (x ≠ .off) := by cases x <;> rfl

theorem doorAfter_eq (release closed : Bool) (x : DoorState) : doorAfter release closed x = x.afterInput release closed := by
  cases x <;> cases release <;> cases closed <;> rfl

/-- Step 2 of one slot (R155 to R157). -/
theorem DoorSlot.read_eq (closed edge : SwitchIn) : d.read closed edge = d.afterReading d.state d.release closed edge := by
  unfold DoorSlot.read DoorSlot.afterReading
  rw [doorAfter_eq, closedLocked_eq, edgeActive_eq]

theorem DoorSlot.read_keeps (closed edge : SwitchIn) :
    (d.read closed edge).release = d.release ∧ (d.read closed edge).grant = d.grant
    ∧ (d.read closed edge).gatedOff = d.gatedOff := by
  unfold DoorSlot.read
  split <;> exact ⟨rfl, rfl, rfl⟩

theorem DoorSlot.read_state (closed edge : SwitchIn) :
    (d.read closed edge).state = d.state.afterInput d.release (decide (closed = .on)) := by
  rw [d.read_eq]
  unfold DoorSlot.afterReading
  split
  · next none =>
    rw [none]
    cases d.release <;> cases decide (closed = .on) <;> rfl
  · rfl

theorem DoorSlot.read_inputs {closed edge : SwitchIn} (fitted : d.state ≠ .none) :
    (d.read closed edge).edge = decide (edge ≠ .off) ∧ (d.read closed edge).closed = decide (closed = .on) := by
  rw [d.read_eq]
  unfold DoorSlot.afterReading
  rw [if_neg fitted]
  exact ⟨rfl, rfl⟩

theorem DoorSlot.read_of_none {closed edge : SwitchIn} (none : d.state = .none) : d.read closed edge = d := if_pos none

theorem DoorSlot.decideGrant_keeps (requested may must : Bool) :
    (d.decideGrant requested may must).state = d.state ∧ (d.decideGrant requested may must).release = d.release
    ∧ (d.decideGrant requested may must).edge = d.edge ∧ (d.decideGrant requested may must).closed = d.closed := by
  unfold DoorSlot.decideGrant
  split
  · split <;> exact ⟨rfl, rfl, rfl, rfl⟩
  · split <;> exact ⟨rfl, rfl, rfl, rfl⟩

/-- A held grant is withdrawn where a condition of R165 holds. -/
theorem DoorSlot.decideGrant_of_held {requested may must : Bool} (held : d.grant = true) :
    (d.decideGrant requested may must).grant = false ↔ requested = false ∨ must = true ∨ d.gatedOff = true := by
  unfold DoorSlot.decideGrant
  rw [if_pos held]
  cases requested <;> cases must <;> cases off : d.gatedOff <;> simp [held]

/-- A grant is given where every condition of R164 holds. -/
theorem DoorSlot.decideGrant_of_free {requested may must : Bool} (free : d.grant = false) :
    (d.decideGrant requested may must).grant = true ↔ requested = true ∧ may = true ∧ d.state = .locked := by
  unfold DoorSlot.decideGrant
  rw [if_neg (ne_true_of_eq_false free)]
  cases requested <;> cases may <;> by_cases locked : d.state = .locked <;> simp [free, locked]

end

/-! ## Both slots -/


theorem State.outputDoors_slot (s : State) (k : Fin 2) :
    s.outputDoors.doors.slot k = (s.doors.slot k).output s.releaseGate := by
  match k with
  | 0 => rfl
  | 1 => rfl

theorem State.doorFault_doors (s : State) (raises0 raises1 : Bool) : (s.doorFault raises0 raises1).doors = s.doors :=
  State.same_of_onlyChanges (s.doorFault_onlyChanges raises0 raises1) .doors (by decide)

theorem State.doorAlerts_doors (s : State) (slot : Nat) (before after : DoorSlot) :
    (s.doorAlerts slot before after).doors = s.doors :=
  State.same_of_onlyChanges (s.doorAlerts_onlyChanges slot before after) .doors (by decide)

/-- Both slots after step 2 (R155 to R157). -/
def DoorInterlock.read (d : DoorInterlock) (inputs : DoorInputs) : DoorInterlock :=
  { d with slot0 := d.slot0.read inputs.closed0 inputs.edge0, slot1 := d.slot1.read inputs.closed1 inputs.edge1 }

theorem State.readDoors_doors (s : State) (inputs : DoorInputs) : (s.readDoors inputs).doors = s.doors.read inputs := by
  unfold State.readDoors
  dsimp only
  rw [State.doorFault_doors, State.doorAlerts_doors, State.doorAlerts_doors]
  rfl

theorem State.readDoors_slot (s : State) (inputs : DoorInputs) (k : Fin 2) :
    (s.readDoors inputs).doors.slot k = (s.doors.slot k).read (doorInput inputs k) (edgeInput inputs k) := by
  rw [State.readDoors_doors]
  match k with
  | 0 => rfl
  | 1 => rfl

theorem State.grantWork_slot (s : State) (k : Fin 2) :
    s.grantWork.doors.slot k = (s.doors.slot k).decideGrant (s.slotRequested k) s.mayGrant s.mustWithdraw := by
  match k with
  | 0 => rfl
  | 1 => rfl

/-! ## What settling leaves (R166, R168, R181) -/

/-- What a pending consequence leaves alone of what the interlock looks at. -/
theorem State.closeIfIdle_reads (s : State) :
    s.closeIfIdle.odo.standstill = s.odo.standstill ∧ s.closeIfIdle.air.level = s.air.level
    ∧ s.closeIfIdle.joint.fold = s.joint.fold ∧ s.closeIfIdle.sup.mode = s.sup.mode
    ∧ s.closeIfIdle.sup.overflow = s.sup.overflow ∧ s.closeIfIdle.sup.listFull = s.sup.listFull := by
  rcases s.closeIfIdle_cases with ⟨-, -, e⟩ | ⟨-, e⟩ <;> rw [e]
  · have added (u : Supervisor) (c : FaultCode) : (u.addEffect c).mode = u.mode ∧ (u.addEffect c).overflow = u.overflow
        ∧ (u.addEffect c).listFull = u.listFull := by
      unfold Supervisor.addEffect
      split <;> exact ⟨rfl, rfl, rfl⟩
    refine State.applyAll_keeps (Q := fun t => t.odo.standstill = s.odo.standstill ∧ t.air.level = s.air.level
      ∧ t.joint.fold = s.joint.fold ∧ t.sup.mode = s.sup.mode ∧ t.sup.overflow = s.sup.overflow
      ∧ t.sup.listFull = s.sup.listFull) (fun t d h => ?_) _ ⟨rfl, rfl, rfl, rfl, rfl, rfl⟩
    obtain ⟨standstill, level, fold, mode, overflow, full⟩ := h
    obtain ⟨mode', overflow', full'⟩ := added (t.sup.undefer d) d
    cases d
    case wheelSensorL | wheelSensorR | jointSensor | heightSensorL | heightSensorR | reservoirSensor | odometerSaturated =>
      refine ⟨standstill, ?_, fold, mode'.trans mode, overflow'.trans overflow, full'.trans full⟩
      exact level
    all_goals exact ⟨standstill, level, fold, mode, overflow, full⟩
  · exact ⟨rfl, rfl, rfl, rfl, rfl, rfl⟩

theorem State.releaseGate_iff (s : State) : s.releaseGate = true ↔ s.odo.standstill = true ∧ s.doors.halt = .applied
    ∧ s.cabPresent = true ∧ s.driverUsable = true ∧ s.runOrDegraded = true ∧ s.brake.backup = false := by
  simp [State.releaseGate, and_assoc]

theorem State.runOrDegraded_iff (s : State) : s.runOrDegraded = true ↔ s.sup.mode = .run ∨ s.sup.mode = .degraded := by
  unfold State.runOrDegraded
  cases s.sup.mode <;> decide

/-- The moves among SYNC, RUN and DEGRADED keep the gate open, and touch no door (R166, R173, R174). -/
theorem State.updateMode_releaseGate {s : State} (gate : s.releaseGate = true) : s.updateMode.releaseGate = true := by
  rw [State.releaseGate_iff] at gate ⊢
  obtain ⟨standstill, halt, cab, usable, running, backup⟩ := gate
  rcases s.updateMode_cases with ⟨-, -, e⟩ | ⟨-, -, e⟩ | e
  · rw [e]
    exact ⟨standstill, halt, cab, usable, rfl, backup⟩
  · rw [e]
    exact ⟨standstill, halt, cab, usable, rfl, backup⟩
  · rw [e]
    exact ⟨standstill, halt, cab, usable, running, backup⟩

theorem State.closeIfIdle_releaseGate {s : State} (gate : s.releaseGate = true) : s.closeIfIdle.releaseGate = true := by
  rw [State.releaseGate_iff, State.runOrDegraded_iff] at gate ⊢
  obtain ⟨standstill', -, -, mode, -, -⟩ := s.closeIfIdle_reads
  rw [standstill', State.closeIfIdle_doors, mode]
  obtain ⟨moves, halt, cab, usable, running, backup⟩ := gate
  refine ⟨moves, halt, ?_, ?_, running, ?_⟩
  · simpa [State.cabPresent, State.isCab, State.peerPresent, State.peer, State.station] using cab
  · simpa [State.driverUsable] using usable
  · rw [State.closeIfIdle_brake]
    exact backup

theorem State.updateMode_doors (s : State) :
    s.updateMode.doors = { s.doors with speedLimit := s.updateMode.doors.speedLimit } := by
  rcases s.updateMode_cases with ⟨-, -, e⟩ | ⟨-, -, e⟩ | e <;> rw [e]
  · rfl
  · rfl

/-- The speed limit line, asserted exactly in DEGRADED, stays so (R168, R173, R174). -/
theorem State.updateMode_speedLimit {s : State}
    (limit : s.doors.speedLimit = if s.sup.mode = .degraded then .asserted else .released) :
    s.updateMode.doors.speedLimit = if s.updateMode.sup.mode = .degraded then .asserted else .released := by
  rcases s.updateMode_cases with ⟨mode, -, e⟩ | ⟨-, -, e⟩ | e <;> rw [e]
  · rcases mode with mode | mode
    · have open' : s.doors.speedLimit = .released := limit.trans (if_neg (by rw [mode]; decide))
      exact (if_neg (by rw [mode]; decide)).trans open'
    · exact if_pos mode
  · rfl
  · exact limit

theorem State.gateReleases_of_off {s : State} (off : s.doors.anyRelease = false) : s.gateReleases = s := by
  unfold State.gateReleases
  split
  · rfl
  · obtain ⟨off0, off1⟩ := Bool.or_eq_false_iff.mp off
    have same (d : DoorSlot) (off : d.release = false) : d.gate = d := if_neg (ne_true_of_eq_false off)
    rw [same _ off0, same _ off1]
    rfl

/-- While every energised line passes the gate, settling drops none (R166). -/
theorem State.settle_of_gate {s : State} (gated : s.doors.anyRelease = true → s.releaseGate = true) :
    s.settle = s.closeIfIdle.updateMode := by
  unfold State.settle
  cases on : s.doors.anyRelease
  · refine State.gateReleases_of_off ?_
    rw [State.updateMode_doors, State.closeIfIdle_doors]
    exact on
  · exact if_pos (State.updateMode_releaseGate (State.closeIfIdle_releaseGate (gated on)))

theorem State.settle_doors_of_gate {s : State} (gated : s.doors.anyRelease = true → s.releaseGate = true) :
    s.settle.doors = { s.doors with speedLimit := s.settle.doors.speedLimit } := by
  rw [State.settle_of_gate gated, ← s.closeIfIdle_doors]
  exact s.closeIfIdle.updateMode_doors

theorem State.settle_speedLimit_of_gate {s : State} (gated : s.doors.anyRelease = true → s.releaseGate = true)
    (limit : s.doors.speedLimit = if s.sup.mode = .degraded then .asserted else .released) :
    s.settle.doors.speedLimit = if s.settle.sup.mode = .degraded then .asserted else .released := by
  obtain ⟨-, -, -, mode, -, -⟩ := s.closeIfIdle_reads
  rw [State.settle_of_gate gated]
  refine State.updateMode_speedLimit ?_
  rw [State.closeIfIdle_doors, mode]
  exact limit

/-- What settling leaves of what the interlock looks at. -/
theorem State.settle_reads (s : State) :
    s.settle.air.level = s.air.level ∧ s.settle.joint.fold = s.joint.fold
    ∧ s.settle.sup.overflow = s.sup.overflow ∧ s.settle.sup.listFull = s.sup.listFull := by
  obtain ⟨-, level, fold, -, overflow, full⟩ := s.closeIfIdle_reads
  have moved (t : State) : t.updateMode.sup.overflow = t.sup.overflow ∧ t.updateMode.sup.listFull = t.sup.listFull := by
    rcases t.updateMode_cases with ⟨-, -, e⟩ | ⟨-, -, e⟩ | e <;> rw [e] <;> exact ⟨rfl, rfl⟩
  unfold State.settle
  simp [level, fold, moved, overflow, full]

end Sys2Proof.Machine
end

section
/-! PROOFS. The ALERTs and the fault of a door expiry, and the hold reasons of the halt brake (R15, R157 to R167). -/

namespace Sys2Proof.Machine

/-! ## ALERTs queued in turn (R15) -/

theorem Link.tookAlerts_nil (l : Link) (room : l.alerts.length ≤ 2) : l.tookAlerts l [] := by
  have none : l.alerts.length + ([] : List Frame).length - 2 = 0 := Nat.sub_eq_zero_of_le room
  unfold Link.tookAlerts
  dsimp only
  rw [none, if_pos rfl]
  exact ⟨(List.append_nil _).symm, rfl⟩

/-- The overflow counter, raised in two goes (R15). -/
theorem overflow_twice (n a b : Nat) :
    (if b = 0 then (if a = 0 then n else min 255 (n + a)) else min 255 ((if a = 0 then n else min 255 (n + a)) + b))
      = if a + b = 0 then n else min 255 (n + (a + b)) := by
  split_ifs <;> omega

/-- Alerts queued after others are the others' followers. -/
theorem Link.tookAlerts_append {l m n : Link} {xs ys : List Frame} (room : l.alerts.length ≤ 2)
    (first : l.tookAlerts m xs) (second : m.tookAlerts n ys) : l.tookAlerts n (xs ++ ys) := by
  obtain ⟨frames, link⟩ := first
  obtain ⟨frames', link'⟩ := second
  have held : m.alerts.length = l.alerts.length + xs.length - (l.alerts.length + xs.length - 2) := by
    simpa using congrArg List.length frames
  have sum : l.alerts.length + (xs ++ ys).length - 2 = (l.alerts.length + xs.length - 2) + (m.alerts.length + ys.length - 2) := by
    rw [List.length_append]
    omega
  have inside : l.alerts.length + xs.length - 2 ≤ (l.alerts.map (fun q => q.frame) ++ xs).length := by
    simp
  unfold Link.tookAlerts
  dsimp only
  rw [sum]
  refine ⟨?_, ?_⟩
  · rw [frames', frames, ← List.drop_append_of_le_length inside, List.drop_drop, List.append_assoc]
  · have counted : n.overflow = _ := congrArg Link.overflow link'
    have counted' : m.overflow = _ := congrArg Link.overflow link
    rw [link', link, ← overflow_twice]

theorem State.queueAlert_took (s : State) (room : s.link.alerts.length ≤ 2) (kind : AlertKind) (slot : Nat) (value : Int) :
    s.link.tookAlerts (s.queueAlert kind slot value).link
      [{ identifier := s.station, payload := encodeAlert ⟨kind, s.station, slot, value⟩ }] := by
  obtain ⟨q, frame, below, full⟩ := s.queueAlert_link kind slot value
  by_cases free : s.link.alerts.length < 2
  · have none : s.link.alerts.length + 1 - 2 = 0 := by omega
    rw [below free]
    unfold Link.tookAlerts
    dsimp only [List.length_singleton]
    rw [none, if_pos rfl]
    refine ⟨?_, rfl⟩
    change (s.link.alerts ++ [q]).map _ = _
    rw [List.map_append, ← frame]
    rfl
  · have two : s.link.alerts.length = 2 := by omega
    rw [full (Nat.le_of_not_lt free)]
    unfold Link.tookAlerts
    dsimp only [List.length_singleton]
    rw [two, if_neg (by decide)]
    refine ⟨?_, rfl⟩
    change (s.link.alerts.tail ++ [q]).map _ = _
    rw [List.map_append, ← frame, List.map_tail, List.drop_append_of_le_length (by simp [two])]
    simp

theorem State.queueAlert_room {s : State} (room : s.link.alerts.length ≤ 2) (kind : AlertKind) (slot : Nat) (value : Int) :
    (s.queueAlert kind slot value).link.alerts.length ≤ 2 := by
  obtain ⟨q, -, below, full⟩ := s.queueAlert_link kind slot value
  by_cases free : s.link.alerts.length < 2
  · rw [below free]
    change (s.link.alerts ++ [q]).length ≤ 2
    rw [List.length_append]
    exact free
  · rw [full (Nat.le_of_not_lt free)]
    change (s.link.alerts.tail ++ [q]).length ≤ 2
    rw [List.length_append, List.length_tail, List.length_singleton]
    omega

theorem State.doorAlerts_room {s : State} (room : s.link.alerts.length ≤ 2) (slot : Nat) (before after : DoorSlot) :
    (s.doorAlerts slot before after).link.alerts.length ≤ 2 := by
  have step {t : State} (c : Prop) [Decidable c] (kind : AlertKind) (h : t.link.alerts.length ≤ 2) :
      (if c then t.queueAlert kind slot 0 else t).link.alerts.length ≤ 2 := by
    split
    · exact State.queueAlert_room h ..
    · exact h
  exact step _ _ (step _ _ room)

/-- The ALERTs of one slot (R157). -/
theorem State.doorAlerts_took {s : State} (room : s.link.alerts.length ≤ 2) (slot : Nat) (before after : DoorSlot) :
    s.link.tookAlerts (s.doorAlerts slot before after).link
      (slotAlerts s.station slot before.state after.state before.edge after.edge) := by
  have step {t : State} (c : Prop) [Decidable c] (kind : AlertKind) (h : t.link.alerts.length ≤ 2) :
      t.link.tookAlerts (if c then t.queueAlert kind slot 0 else t).link
        (if c then [{ identifier := t.station, payload := encodeAlert ⟨kind, t.station, slot, 0⟩ }] else [])
      ∧ (if c then t.queueAlert kind slot 0 else t).station = t.station := by
    split
    · exact ⟨State.queueAlert_took _ h .., congrArg Loader.strap (State.queueAlert_loader ..)⟩
    · exact ⟨Link.tookAlerts_nil _ h, rfl⟩
  obtain ⟨opened, station⟩ := step (before.state = .locked ∧ after.state = .unreleasedOpen) .doorUnreleased room
  obtain ⟨edges, -⟩ := step ((!before.edge && after.edge) = true) .edge (ite_keeps
    (c := before.state = .locked ∧ after.state = .unreleasedOpen) (P := fun t : State => t.link.alerts.length ≤ 2) (State.queueAlert_room room .doorUnreleased slot 0) room)
  refine Link.tookAlerts_append room opened ?_
  rw [station] at edges
  have rises : (before.edge = false ∧ after.edge = true) ↔ (!before.edge && after.edge) = true := by simp
  rw [if_congr rises rfl rfl]
  exact edges

theorem State.readDoors_took {s : State} (room : s.link.alerts.length ≤ 2) (inputs : DoorInputs) :
    s.link.tookAlerts (s.readDoors inputs).link
      (slotAlerts s.station 0 s.doors.slot0.state (s.readDoors inputs).doors.slot0.state s.doors.slot0.edge
        (s.readDoors inputs).doors.slot0.edge
      ++ slotAlerts s.station 1 s.doors.slot1.state (s.readDoors inputs).doors.slot1.state s.doors.slot1.edge
        (s.readDoors inputs).doors.slot1.edge) := by
  rw [State.readDoors_doors]
  have first := State.doorAlerts_took (s := s.setDoors (s.doors.read inputs)) room 0 s.doors.slot0
    (s.doors.slot0.read inputs.closed0 inputs.edge0)
  have second := State.doorAlerts_took (State.doorAlerts_room (s := s.setDoors (s.doors.read inputs)) room 0 s.doors.slot0
    (s.doors.slot0.read inputs.closed0 inputs.edge0)) 1 s.doors.slot1 (s.doors.slot1.read inputs.closed1 inputs.edge1)
  have kept (t : State) (b a : DoorSlot) : (t.doorAlerts 0 b a).station = t.station := congrArg Loader.strap
    (State.same_of_onlyChanges (t.doorAlerts_onlyChanges 0 b a) .loader (by decide))
  rw [kept] at second
  have last (t : State) (a b : Bool) : (t.doorFault a b).link = t.link :=
    State.same_of_onlyChanges (t.doorFault_onlyChanges a b) .link (by decide)
  unfold State.readDoors
  dsimp only
  rw [last]
  exact Link.tookAlerts_append room first second

/-! ## DOOR_UNRELEASED (R157, R183) -/

theorem DoorState.afterInput_unreleased {x : DoorState} {energised closed : Bool}
    (opens : x.afterInput energised closed = .unreleasedOpen) : x = .locked ∨ x = .unreleasedOpen := by
  revert opens
  unfold DoorState.afterInput
  cases x <;> cases energised <;> cases closed <;> decide

theorem State.hasCondition_raiseIf (s : State) (c d : FaultCode) (raises : Bool) :
    (s.raiseIf c raises).hasCondition d = (s.hasCondition d || (raises && d == c)) := by
  cases raises
  · simp [State.raiseIf]
  · simp [State.raiseIf]

/-- A slot that reads UNRELEASED_OPEN raises the fault, or its condition was there. -/
theorem raisesUnreleased_of_open (d : DoorSlot) (closed edge : SwitchIn) (absent : Bool)
    (opens : (d.read closed edge).state = .unreleasedOpen) :
    (!absent || raisesUnreleased d (d.read closed edge) absent) = true := by
  unfold raisesUnreleased
  rw [opens]
  rw [DoorSlot.read_state] at opens
  rcases DoorState.afterInput_unreleased opens with x | x <;> rw [x] <;> cases absent <;> rfl

/-- DOOR_UNRELEASED is present exactly while an own record is UNRELEASED_OPEN (R157). -/
theorem State.hasCondition_readDoors (s : State) (inputs : DoorInputs) :
    (s.readDoors inputs).hasCondition .doorUnreleased = (s.readDoors inputs).doors.anyUnreleased := by
  have doors : (s.readDoors inputs).doors = _ := s.readDoors_doors inputs
  rw [doors]
  unfold State.readDoors State.doorFault
  dsimp only
  rw [State.doorAlerts_doors, State.doorAlerts_doors]
  have kept (t : State) (k : Nat) (b a : DoorSlot) : (t.doorAlerts k b a).hasCondition .doorUnreleased
      = t.hasCondition .doorUnreleased := congrArg (fun u : Supervisor => u.conditions.contains FaultCode.doorUnreleased)
    (State.same_of_onlyChanges (t.doorAlerts_onlyChanges k b a) .sup (by decide))
  split
  · next any =>
    refine Eq.trans ?_ any.symm
    rw [State.hasCondition_raiseIf, State.hasCondition_raiseIf, kept, kept]
    change (s.hasCondition .doorUnreleased || _ || _) = true
    rcases Bool.or_eq_true_iff.mp any with opens | opens
    · have raised := raisesUnreleased_of_open s.doors.slot0 inputs.closed0 inputs.edge0 (!s.hasCondition .doorUnreleased)
        (eq_of_beq opens)
      simp only [Bool.not_not, Bool.or_eq_true] at raised
      rcases raised with h | h <;> simp [h]
    · have raised := raisesUnreleased_of_open s.doors.slot1 inputs.closed1 inputs.edge1 (!s.hasCondition .doorUnreleased)
        (eq_of_beq opens)
      simp only [Bool.not_not, Bool.or_eq_true] at raised
      rcases raised with h | h <;> simp [h]
  · next closed =>
    rw [State.hasCondition_endCondition]
    refine Eq.trans ?_ (eq_false_of_ne_true closed).symm
    simp

/-- A list that has no room and no record of a code, so that a raise of it counts an overflow (R183). -/
def Supervisor.shut (u : Supervisor) (c : FaultCode) : Prop :=
  u.faults.length = 16 ∧ ∀ x ∈ u.faults, x.state ≠ .passive ∧ x.code ≠ c

theorem State.raiseFault_shut {s : State} {c : FaultCode} (both : c ≠ .wheelSensorsBoth) (plain : c.deferrable = false)
    (shut : s.sup.shut c) : (s.raiseFault c).sup.shut c ∧ (s.raiseFault c).sup.overflow = min 255 (s.sup.overflow + 1)
      ∧ (s.raiseFault c).sup.listFull = true := by
  have marked : (s.sup.addCondition c).faults = s.sup.faults ∧ (s.sup.addCondition c).overflow = s.sup.overflow := by
    unfold Supervisor.addCondition
    split <;> exact ⟨rfl, rfl⟩
  obtain ⟨faults, overflow⟩ := marked
  obtain ⟨length, others⟩ := shut
  rw [State.raiseFault_recorded s both plain]
  change ((s.sup.addCondition c).record c .active s.stationTime).shut c ∧ _
  have unknown : (s.sup.addCondition c).find c = none := by
    unfold Supervisor.find
    rw [faults, List.find?_eq_none]
    exact fun x held => by simpa using (others x held).2
  rcases Supervisor.record_cases (s.sup.addCondition c) c .active s.stationTime with ⟨⟨r, known⟩, -⟩ | ⟨-, e⟩
  · rw [unknown] at known
    cases known
  · rcases Supervisor.addRecord_cases (s.sup.addCondition c) { code := c, state := .active, count := 1, first := s.stationTime, last := s.stationTime }
      with ⟨room, -⟩ | ⟨-, ⟨x, held, passive⟩, -⟩ | ⟨-, -, e'⟩
    · rw [faults, length] at room
      exact absurd room (by decide)
    · rw [faults] at held
      exact absurd passive (others x held).1
    · refine ⟨?_, ?_, ?_⟩
      · rw [e, e']
        exact ⟨faults ▸ length, faults ▸ others⟩
      · change ((s.sup.addCondition c).record c .active s.stationTime).overflow = _
        rw [e, e']
        exact overflow ▸ rfl
      · change ((s.sup.addCondition c).record c .active s.stationTime).listFull = true
        rw [e, e']

end Sys2Proof.Machine
end

section
/-! PROOFS. The hold reasons of the halt brake, its release conditions, and what inhibits traction (R158 to R161, R167). -/

namespace Sys2Proof.Machine

section
variable (s : State) (p : Params)

theorem State.driverField_any (f : DriverContent → Bool) : s.driverField f false = s.driverContent.any f := by
  unfold State.driverField
  cases s.driverContent <;> rfl

/-- A bit of the door request mask in use (R159, R164). -/
theorem State.doorMask_testBit (n : Nat) :
    (s.driverField DriverContent.doorMask 0).testBit n = s.driverContent.any (fun c => c.doorMask.testBit n) := by
  unfold State.driverField
  cases s.driverContent
  · exact Nat.zero_testBit n
  · rfl

theorem State.passed_iff (since : Option Micros) : s.passed since p.holdMicros = true ↔ s.beyondHold p since := by
  unfold State.passed
  cases since
  · exact ⟨nofun, nofun⟩
  · exact Iff.rfl

theorem State.lostBeyondHold_iff (r : PeerRecord) :
    s.lostBeyondHold p r = true ↔ r.presence = .lost ∧ s.beyondHold p r.lostAt := by
  rw [← s.passed_iff p]
  simp [State.lostBeyondHold]

theorem State.isKnown_iff (r : PeerRecord) : s.isKnown p r = true ↔ s.knows p r := by
  unfold State.isKnown State.knows
  rw [Bool.and_eq_true, ← s.lostBeyondHold_iff p]
  simp

theorem LevelState.settled_eq_false_iff (x : LevelState) : (!x.settled) = true ↔ x ≠ .level ∧ x ≠ .raised := by
  cases x <;> decide

/-- The known stations are the station itself and the known peers that have sent a content (R158). -/
theorem State.mem_knownStations (k : KnownStation) : k ∈ s.knownStations p ↔
    k = { station := s.station, door0 := knownDoor s.doors.slot0.report none none,
          door1 := knownDoor s.doors.slot1.report none none, level := s.air.level }
    ∨ ∃ x ∈ s.peers, s.knows p x.2 ∧ ∃ c ∈ x.2.content, k = knownPeer x.1 c x.2 := by
  have peer (x : Nat × PeerRecord) : (if s.isKnown p x.2 then x.2.content.map (fun c => knownPeer x.1 c x.2) else none) = some k
      ↔ s.knows p x.2 ∧ ∃ c ∈ x.2.content, k = knownPeer x.1 c x.2 := by
    rw [← s.isKnown_iff p]
    cases s.isKnown p x.2
    · simp
    · simp [eq_comm]
  simp only [State.knownStations, List.mem_cons, List.mem_filterMap, peer]

/-! ## Doors as the block sees them -/

theorem knownDoor_notLocked_iff (d : DoorReport) (doorLatch edgeLatch : Option Nat) :
    (knownDoor d doorLatch edgeLatch).notLocked = true ↔ d.unlocked doorLatch := by
  simp [knownDoor, DoorReport.unlocked, Option.isSome_iff_ne_none]

theorem knownDoor_holds_iff (d : DoorReport) (doorLatch edgeLatch : Option Nat) (asked : Prop) :
    (knownDoor d doorLatch edgeLatch).notLocked = true ∨ (knownDoor d doorLatch edgeLatch).edge = true
      ∨ ((knownDoor d doorLatch edgeLatch).fitted = true ∧ asked) ↔ d.holds doorLatch edgeLatch asked := by
  simp only [knownDoor, DoorReport.holds, Option.isSome_iff_ne_none, Bool.and_eq_true, Bool.or_eq_true, bne_iff_ne]
  tauto

/-- A known station holds the brake by a door or its level (R159). -/
def State.stationHolds (k : KnownStation) : Prop :=
  (k.door0.notLocked = true ∨ k.door0.edge = true ∨ (k.door0.fitted = true ∧ s.asksFor p k.station 0))
  ∨ (k.door1.notLocked = true ∨ k.door1.edge = true ∨ (k.door1.fitted = true ∧ s.asksFor p k.station 1))
  ∨ (k.level ≠ .level ∧ k.level ≠ .raised)

theorem KnownStation.requested_iff (k : KnownStation) :
    k.requested (s.driverField DriverContent.doorMask 0) p.axles = true
      ↔ (k.door0.fitted = true ∧ s.asksFor p k.station 0) ∨ (k.door1.fitted = true ∧ s.asksFor p k.station 1) := by
  unfold KnownStation.requested State.asksFor
  rw [s.doorMask_testBit, s.doorMask_testBit]
  simp only [Bool.or_eq_true, Bool.and_eq_true, decide_eq_true_eq, and_assoc]
  exact Iff.rfl

/-- The hold reasons station by station (R159). -/
theorem State.holdReason_iff_stations : s.holdReason p = true ↔
    s.driverContent.any (fun c => c.haltSwitch) = true ∨ s.doors.anyGrant = true
    ∨ ∃ k ∈ s.knownStations p, s.stationHolds p k := by
  unfold State.holdReason State.stationHolds
  rw [s.driverField_any]
  simp only [Bool.or_eq_true, List.any_eq_true, KnownStation.requested_iff, LevelState.settled_eq_false_iff]
  constructor
  · rintro (((((h | ⟨k, m, h⟩) | ⟨k, m, h⟩) | h) | ⟨k, m, h⟩) | ⟨k, m, h⟩)
    · exact .inl h
    · exact .inr (.inr ⟨k, m, by tauto⟩)
    · exact .inr (.inr ⟨k, m, by tauto⟩)
    · exact .inr (.inl h)
    · exact .inr (.inr ⟨k, m, by tauto⟩)
    · exact .inr (.inr ⟨k, m, by tauto⟩)
  · rintro (h | h | ⟨k, m, (h | h | h) | (h | h | h) | h⟩)
    · exact .inl (.inl (.inl (.inl (.inl h))))
    · exact .inl (.inl (.inr h))
    · exact .inl (.inl (.inl (.inl (.inr ⟨k, m, .inl h⟩))))
    · exact .inl (.inl (.inl (.inr ⟨k, m, .inl h⟩)))
    · exact .inl (.inr ⟨k, m, .inl h⟩)
    · exact .inl (.inl (.inl (.inl (.inr ⟨k, m, .inr h⟩))))
    · exact .inl (.inl (.inl (.inr ⟨k, m, .inr h⟩)))
    · exact .inl (.inr ⟨k, m, .inr h⟩)
    · exact .inr ⟨k, m, h⟩

/-- Some hold reason is present (R159). -/
theorem State.holdReason_iff : s.holdReason p = true ↔ s.heldStill p := by
  rw [State.holdReason_iff_stations]
  unfold State.heldStill State.stationHolds State.peerHolds
  simp only [← knownDoor_holds_iff, State.mem_knownStations]
  constructor
  · rintro (h | h | ⟨k, rfl | ⟨x, m, known, c, held, rfl⟩, h⟩)
    · exact .inl h
    · exact .inr (.inr (.inr (.inl h)))
    · rcases h with h | h | h
      · exact .inr (.inl h)
      · exact .inr (.inr (.inl h))
      · exact .inr (.inr (.inr (.inr (.inl h))))
    · exact .inr (.inr (.inr (.inr (.inr ⟨x, m, known, c, held, h⟩))))
  · rintro (h | h | h | h | h | ⟨x, m, known, c, held, h⟩)
    · exact .inl h
    · exact .inr (.inr ⟨_, .inl rfl, .inl h⟩)
    · exact .inr (.inr ⟨_, .inl rfl, .inr (.inl h)⟩)
    · exact .inr (.inl h)
    · exact .inr (.inr ⟨_, .inl rfl, .inr (.inr h)⟩)
    · exact .inr (.inr ⟨_, .inr ⟨x, m, known, c, held, rfl⟩, h⟩)

/-- The halt brake may be let go (R161). -/
theorem State.mayRelease_iff : s.mayRelease p = true ↔ s.freeToGo p := by
  unfold State.mayRelease State.permitsRelease State.freeToGo
  rw [← s.holdReason_iff p, s.driverField_any]
  simp only [Bool.and_eq_true, Bool.or_eq_true, Bool.not_eq_true', Bool.not_eq_true, List.all_eq_true, beq_iff_eq,
    s.lostBeyondHold_iff p, s.passed_iff p, and_assoc, or_assoc]

/-- Traction is inhibited (R167). -/
theorem State.inhibitsTraction_iff : s.inhibitsTraction p = true ↔ s.tractionHeld p := by
  unfold State.inhibitsTraction State.tractionHeld
  simp only [Bool.or_eq_true, Bool.and_eq_true, List.any_eq_true, bne_iff_ne, LevelState.settled_eq_false_iff,
    State.mem_knownStations]
  constructor
  · rintro (((h | ⟨k, rfl | ⟨x, m, known, c, held, rfl⟩, h⟩) | h) | h)
    · exact .inl h
    · simp only [knownDoor_notLocked_iff] at h
      rcases h with h | h
      · exact .inr (.inl h)
      · exact .inr (.inr (.inl h))
    · simp only [knownPeer, knownDoor_notLocked_iff] at h
      exact .inr (.inr (.inr (.inl ⟨x, m, known, c, held, h⟩)))
    · exact .inr (.inr (.inr (.inr (.inl h))))
    · exact .inr (.inr (.inr (.inr (.inr h))))
  · have own (d : DoorReport) : d.unlocked none ↔ (knownDoor d none none).notLocked = true :=
      (knownDoor_notLocked_iff ..).symm
    rintro (h | h | h | ⟨x, m, known, c, held, h⟩ | h | h)
    · exact .inl (.inl (.inl h))
    · exact .inl (.inl (.inr ⟨_, .inl rfl, .inl ((own _).mp h)⟩))
    · exact .inl (.inl (.inr ⟨_, .inl rfl, .inr ((own _).mp h)⟩))
    · refine .inl (.inl (.inr ⟨_, .inr ⟨x, m, known, c, held, rfl⟩, ?_⟩))
      simp only [knownPeer, knownDoor_notLocked_iff]
      exact h
    · exact .inl (.inr h)
    · exact .inr h

end

end Sys2Proof.Machine
end

section
/-! PROOFS. The door interlock's expiry: O45. -/

namespace Sys2Proof.Machine

/-! ## The steps of an expiry outside LIMP (R154) -/

/-- A state that differs in its doors, its link and its supervisor, and not in the mode. -/
def State.readsAs (s t : State) : Prop :=
  t = { s with doors := t.doors, link := t.link, sup := t.sup } ∧ t.sup.mode = s.sup.mode

/-- Steps 1 and 2: the lines, then the inputs. -/
def State.doorsRead (s : State) (inputs : DoorInputs) : State := s.outputDoors.readDoors inputs

/-- Steps 1 to 5: the halt brake and the grants too. -/
def State.doorsGranted (s : State) (inputs : DoorInputs) (p : Params) : State :=
  ((s.doorsRead inputs).haltWork p).grantWork

section
variable {s t : State} (same : s.readsAs t)
include same

theorem State.readsAs.working : t.working = s.working := by
  obtain ⟨e, mode⟩ := same
  unfold State.working
  rw [mode]

theorem State.readsAs.runOrDegraded : t.runOrDegraded = s.runOrDegraded := by
  obtain ⟨e, mode⟩ := same
  unfold State.runOrDegraded
  rw [mode]

/-- What R164 asks of everything but the slot and the halt brake. -/
theorem State.readsAs.mayGrant : t.mayGrant = true ↔ s.odo.standstill = true ∧ t.doors.halt = .applied
    ∧ (∀ x ∈ s.presentContents, x.2.held = true) ∧ s.cabPresent = true ∧ s.driverUsable = true ∧ s.runOrDegraded = true := by
  unfold State.mayGrant
  rw [same.runOrDegraded, same.1]
  simp only [Bool.and_eq_true, beq_iff_eq, List.all_eq_true, and_assoc]
  exact Iff.rfl

/-- What of R165 withdraws every grant. -/
theorem State.readsAs.mustWithdraw : t.mustWithdraw = true ↔ s.odo.standstill = false ∨ s.cabPresent = false
    ∨ s.driverUsable = false ∨ t.doors.halt ≠ .applied ∨ s.runOrDegraded = false := by
  unfold State.mustWithdraw
  rw [same.runOrDegraded, same.1]
  simp only [Bool.or_eq_true, Bool.not_eq_true', bne_iff_ne, or_assoc]
  exact Iff.rfl

theorem State.readsAs.slotRequested (k : Nat) :
    t.slotRequested k = s.driverContent.any (fun c => c.doorMask.testBit (2 * (s.station - 1) + k)) := by
  unfold State.slotRequested
  rw [same.1]
  exact s.doorMask_testBit _

theorem State.readsAs.releaseGate (halt : t.doors.halt = s.doors.halt) : t.releaseGate = s.releaseGate := by
  unfold State.releaseGate
  rw [same.runOrDegraded, halt, same.1]
  rfl

end

section
variable (s : State) (inputs : DoorInputs) (p : Params)

theorem State.readsAs_of_onlyChanges {s t : State} (same : s.onlyChanges [.doors, .link, .sup] t)
    (stands : t.sup.stand = s.sup.stand) : s.readsAs t := by
  obtain ⟨pending, now, blocks⟩ := same
  have kept (b : Block) (apart : b ∉ [Block.doors, .link, .sup]) : s.same t b := (blocks b).resolve_left apart
  refine ⟨?_, Supervisor.mode_of_stand stands⟩
  have loader : t.loader = s.loader := kept .loader (by decide)
  have peers : t.peers = s.peers := kept .peers (by decide)
  have driver : t.driver = s.driver := kept .driver (by decide)
  have odo : t.odo = s.odo := kept .odo (by decide)
  have path : t.path = s.path := kept .path (by decide)
  have track : t.track = s.track := kept .track (by decide)
  have steer : t.steer = s.steer := kept .steer (by decide)
  have joint : t.joint = s.joint := kept .joint (by decide)
  have brake : t.brake = s.brake := kept .brake (by decide)
  have air : t.air = s.air := kept .air (by decide)
  cases t
  simp_all

theorem State.doorsRead_onlyChanges : s.onlyChanges [.doors, .link, .sup] (s.doorsRead inputs) :=
  (State.onlyChanges_mono s.outputDoors_onlyChanges (by decide)).step (State.readDoors_onlyChanges _ inputs) (by decide)

theorem State.doorsRead_readsAs : s.readsAs (s.doorsRead inputs) :=
  State.readsAs_of_onlyChanges (s.doorsRead_onlyChanges inputs) (State.readDoors_stand ..)

theorem State.halted_readsAs : s.readsAs ((s.doorsRead inputs).haltWork p) := by
  obtain ⟨e, mode⟩ := s.doorsRead_readsAs inputs
  refine ⟨?_, mode⟩
  unfold State.haltWork State.setDoors
  rw [e]

theorem State.doorsGranted_readsAs : s.readsAs (s.doorsGranted inputs p) := by
  obtain ⟨e, mode⟩ := s.halted_readsAs inputs p
  refine ⟨?_, mode⟩
  unfold State.doorsGranted State.grantWork State.setDoors
  rw [e]

theorem State.doorsGranted_halt : (s.doorsGranted inputs p).doors.halt = (s.doorsRead inputs).nextHalt p := rfl

theorem State.doorsRead_halt : (s.doorsRead inputs).doors.halt = s.doors.halt :=
  (congrArg DoorInterlock.halt (s.outputDoors.readDoors_doors inputs)).trans rfl

theorem State.doorsRead_slot (k : Fin 2) : (s.doorsRead inputs).doors.slot k =
    ((s.doors.slot k).output s.releaseGate).read (doorInput inputs k) (edgeInput inputs k) := by
  unfold State.doorsRead
  rw [State.readDoors_slot, State.outputDoors_slot]

theorem State.doorsGranted_slot (k : Fin 2) : (s.doorsGranted inputs p).doors.slot k =
    ((s.doorsRead inputs).doors.slot k).decideGrant
      (s.driverContent.any (fun c => c.doorMask.testBit (2 * (s.station - 1) + k)))
      ((s.doorsRead inputs).haltWork p).mayGrant ((s.doorsRead inputs).haltWork p).mustWithdraw := by
  unfold State.doorsGranted
  rw [State.grantWork_slot, (s.halted_readsAs inputs p).slotRequested]
  rfl

/-! ## One slot's line, record and grant after the expiry (Table 9.2, R164 to R166) -/

theorem State.energises_iff (k : Fin 2) :
    ((s.doors.slot k).grant && !(s.doors.slot k).gatedOff && s.releaseGate) = true ↔ s.energises k := by
  simp [State.energises, and_assoc]

theorem State.doorsRead_keeps (k : Fin 2) :
    ((s.doorsRead inputs).doors.slot k).grant = (s.doors.slot k).grant
    ∧ ((s.doorsRead inputs).doors.slot k).gatedOff = (s.doors.slot k).gatedOff
    ∧ ((s.doorsRead inputs).doors.slot k).release
      = ((s.doors.slot k).grant && !(s.doors.slot k).gatedOff && s.releaseGate) := by
  obtain ⟨release, grant, gated⟩ := ((s.doors.slot k).output s.releaseGate).read_keeps (doorInput inputs k) (edgeInput inputs k)
  obtain ⟨grant', gated', -, -⟩ := (s.doors.slot k).output_keeps s.releaseGate
  rw [s.doorsRead_slot]
  exact ⟨grant.trans grant', gated.trans gated', release.trans ((s.doors.slot k).output_release _)⟩

theorem State.doorsRead_state (k : Fin 2) {energised : Bool} (line : energised = true ↔ s.energises k) :
    ((s.doorsRead inputs).doors.slot k).state
      = ((s.doors.slot k).afterLine energised).afterInput energised (decide (doorInput inputs k = .on)) := by
  have on : ((s.doors.slot k).grant && !(s.doors.slot k).gatedOff && s.releaseGate) = energised := by
    rw [Bool.eq_iff_iff, s.energises_iff]
    exact line.symm
  rw [s.doorsRead_slot, DoorSlot.read_state, DoorSlot.output_state, DoorSlot.output_release, on]

theorem State.doorsRead_inputs (k : Fin 2) (fitted : (s.doors.slot k).state ≠ .none) :
    ((s.doorsRead inputs).doors.slot k).edge = decide (edgeInput inputs k ≠ .off)
    ∧ ((s.doorsRead inputs).doors.slot k).closed = decide (doorInput inputs k = .on) := by
  rw [s.doorsRead_slot]
  refine DoorSlot.read_inputs _ (fun missing => fitted ?_)
  rw [DoorSlot.output_state, DoorSlot.afterLine_eq_none_iff] at missing
  exact missing

theorem State.doorsRead_edge_of_none (k : Fin 2) (none : (s.doors.slot k).state = .none) :
    ((s.doorsRead inputs).doors.slot k).edge = (s.doors.slot k).edge := by
  have missing : ((s.doors.slot k).output s.releaseGate).state = .none := by
    rw [DoorSlot.output_state, DoorSlot.afterLine_eq_none_iff]
    exact none
  rw [s.doorsRead_slot, DoorSlot.read_of_none _ missing]
  exact ((s.doors.slot k).output_keeps s.releaseGate).2.2.1

/-! ## The gate at the end of the expiry (R160, R161, R166) -/

theorem State.doorsGranted_keeps (k : Fin 2) :
    ((s.doorsGranted inputs p).doors.slot k).state = ((s.doorsRead inputs).doors.slot k).state
    ∧ ((s.doorsGranted inputs p).doors.slot k).release = ((s.doorsRead inputs).doors.slot k).release
    ∧ ((s.doorsGranted inputs p).doors.slot k).edge = ((s.doorsRead inputs).doors.slot k).edge
    ∧ ((s.doorsGranted inputs p).doors.slot k).closed = ((s.doorsRead inputs).doors.slot k).closed := by
  rw [s.doorsGranted_slot]
  exact DoorSlot.decideGrant_keeps ..

theorem DoorInterlock.anyGrant_iff (d : DoorInterlock) : d.anyGrant = true ↔ ∃ k : Fin 2, (d.slot k).grant = true := by
  simp [DoorInterlock.anyGrant]

theorem DoorInterlock.anyRelease_iff (d : DoorInterlock) : d.anyRelease = true ↔ ∃ k : Fin 2, (d.slot k).release = true := by
  simp [DoorInterlock.anyRelease]

/-- A held grant holds the brake, so an APPLIED halt brake stays (R159 to R161). -/
theorem State.halt_of_grant {k : Fin 2} (grant : (s.doors.slot k).grant = true) (applied : s.doors.halt = .applied) :
    (s.doorsRead inputs).nextHalt p = .applied := by
  have held : (s.doorsRead inputs).holdReason p = true := by
    rw [State.holdReason_iff_stations]
    refine .inr (.inl (DoorInterlock.anyGrant_iff _ |>.mpr ⟨k, ?_⟩))
    rw [(s.doorsRead_keeps inputs k).1]
    exact grant
  have stays : (s.doorsRead inputs).mayRelease p = false := by
    unfold State.mayRelease
    rw [held]
    rfl
  unfold State.nextHalt
  rw [s.doorsRead_halt, applied]
  exact if_neg (ne_true_of_eq_false stays)

/-- A line that the expiry leaves energised passes the gate when it ends (R166). -/
theorem State.doorsGranted_gated (on : (s.doorsGranted inputs p).doors.anyRelease = true) :
    (s.doorsGranted inputs p).releaseGate = true := by
  obtain ⟨k, on⟩ := (DoorInterlock.anyRelease_iff _).mp on
  rw [(s.doorsGranted_keeps inputs p k).2.1, (s.doorsRead_keeps inputs k).2.2, s.energises_iff] at on
  obtain ⟨grant, -, gate⟩ := on
  have applied : s.doors.halt = .applied := (s.releaseGate_iff.mp gate).2.1
  rw [(s.doorsGranted_readsAs inputs p).releaseGate ?_]
  · exact gate
  · exact (s.halt_of_grant inputs p grant applied).trans applied.symm

/-- Steps 3 to 6 touch the interlock alone. -/
theorem State.lined_sup : ((s.doorsGranted inputs p).lineWork p).sup = (s.doorsRead inputs).sup := by
  have lined (t : State) : (t.lineWork p).sup = t.sup := rfl
  have granted (t : State) : t.grantWork.sup = t.sup := rfl
  have halted (t : State) : (t.haltWork p).sup = t.sup := rfl
  unfold State.doorsGranted
  rw [lined, granted, halted]

theorem State.lined_link : ((s.doorsGranted inputs p).lineWork p).link = (s.doorsRead inputs).link := by
  have lined (t : State) : (t.lineWork p).link = t.link := rfl
  have granted (t : State) : t.grantWork.link = t.link := rfl
  have halted (t : State) : (t.haltWork p).link = t.link := rfl
  unfold State.doorsGranted
  rw [lined, granted, halted]

/-! ## The expiry outside LIMP -/

section
variable {s : State} {p : Params} (inputs : DoorInputs) (working : s.working = true) (copy : s.loader.copy = some p)
include working copy

theorem State.doorExpiry_of_working :
    s.doorExpiry inputs = ((s.doorsGranted inputs p).lineWork p).settle := by
  have notLimp : s.inLimp = false := by
    unfold State.working at working
    unfold State.inLimp
    cases mode : s.sup.mode <;> rw [mode] at working
    case limp => exact absurd working (by decide)
    all_goals rfl
  unfold State.doorExpiry
  rw [if_pos (State.timersRun_of_working working), State.withCopy_some copy]
  exact congrArg State.settle (if_neg (ne_true_of_eq_false notLimp))

/-- The interlock after the expiry: slots and halt by steps 1 to 5, lines by R167 and R168. -/
theorem State.doorExpiry_doors : (s.doorExpiry inputs).doors =
    { (s.doorsGranted inputs p).doors with
      tractionInhibit := if (s.doorsGranted inputs p).inhibitsTraction p then .asserted else .released
      speedLimit := if (s.doorExpiry inputs).sup.mode = .degraded then .asserted else .released } := by
  have gated : ((s.doorsGranted inputs p).lineWork p).doors.anyRelease = true →
      ((s.doorsGranted inputs p).lineWork p).releaseGate = true := s.doorsGranted_gated inputs p
  rw [State.doorExpiry_of_working inputs working copy]
  have limit : ((s.doorsGranted inputs p).lineWork p).doors.speedLimit =
      if ((s.doorsGranted inputs p).lineWork p).sup.mode = .degraded then .asserted else .released := rfl
  rw [← State.settle_speedLimit_of_gate gated limit]
  exact State.settle_doors_of_gate gated

theorem State.doorExpiry_slot (k : Fin 2) :
    (s.doorExpiry inputs).doors.slot k = (s.doorsGranted inputs p).doors.slot k := by
  rw [State.doorExpiry_doors inputs working copy]
  match k with
  | 0 => rfl
  | 1 => rfl

theorem State.doorExpiry_halt : (s.doorExpiry inputs).doors.halt = (s.doorsRead inputs).nextHalt p :=
  congrArg DoorInterlock.halt (State.doorExpiry_doors inputs working copy)

theorem State.doorExpiry_unreleased : (s.doorExpiry inputs).hasCondition .doorUnreleased = (s.doorExpiry inputs).doors.anyUnreleased := by
  have slot (k : Fin 2) : ((s.doorExpiry inputs).doors.slot k).state = ((s.doorsRead inputs).doors.slot k).state := by
    rw [State.doorExpiry_slot inputs working copy]
    exact (s.doorsGranted_keeps inputs p k).1
  have any : (s.doorExpiry inputs).doors.anyUnreleased = (s.doorsRead inputs).doors.anyUnreleased := by
    have slot0 := slot 0
    have slot1 := slot 1
    rw [DoorInterlock.slot_zero, DoorInterlock.slot_zero] at slot0
    rw [DoorInterlock.slot_one, DoorInterlock.slot_one] at slot1
    unfold DoorInterlock.anyUnreleased
    rw [slot0, slot1]
  rw [any, State.doorExpiry_of_working inputs working copy, State.hasCondition_settle]
  have read : (s.doorsRead inputs).hasCondition .doorUnreleased = _ := s.outputDoors.hasCondition_readDoors inputs
  unfold State.hasCondition at read ⊢
  rw [State.lined_sup]
  exact read

/-- The traction inhibit line (R167). -/
theorem State.doorExpiry_tractionInhibit : (s.doorExpiry inputs).doors.tractionInhibit =
    if (s.doorExpiry inputs).tractionHeld p then .asserted else .released := by
  have slot (k : Fin 2) := State.doorExpiry_slot inputs working copy k
  have slot0 : (s.doorExpiry inputs).doors.slot0 = (s.doorsGranted inputs p).doors.slot0 := slot 0
  have slot1 : (s.doorExpiry inputs).doors.slot1 = (s.doorsGranted inputs p).doors.slot1 := slot 1
  have halt : (s.doorExpiry inputs).doors.halt = (s.doorsGranted inputs p).doors.halt :=
    State.doorExpiry_halt inputs working copy
  have expiry := State.doorExpiry_of_working inputs working copy
  obtain ⟨level, fold, -, -⟩ := ((s.doorsGranted inputs p).lineWork p).settle_reads
  rw [← expiry] at level fold
  have peers : (s.doorExpiry inputs).peers = (s.doorsGranted inputs p).peers := by
    rw [expiry, State.settle_peers]
    rfl
  have now : (s.doorExpiry inputs).now = (s.doorsGranted inputs p).now := by
    rw [expiry, State.settle_now]
    rfl
  have loader : (s.doorExpiry inputs).loader = (s.doorsGranted inputs p).loader := by
    rw [expiry, State.settle_loader]
    rfl
  have line : (s.doorExpiry inputs).doors.tractionInhibit = if (s.doorsGranted inputs p).inhibitsTraction p then .asserted else .released :=
    congrArg DoorInterlock.tractionInhibit (State.doorExpiry_doors inputs working copy)
  rw [line]
  refine if_congr ?_ rfl rfl
  rw [State.inhibitsTraction_iff]
  unfold State.tractionHeld State.knows State.beyondHold State.ownsJoint State.ofFrontColumns State.station
  rw [halt, slot0, slot1, peers, level, fold, now, loader]
  exact Iff.rfl

theorem State.doorExpiry_took (room : s.link.alerts.length ≤ 2) :
    s.link.tookAlerts (s.doorExpiry inputs).link
      (slotAlerts s.station 0 (s.doors.slot0.afterLine (decide (s.energises 0))) (s.doorExpiry inputs).doors.slot0.state
        s.doors.slot0.edge (s.doorExpiry inputs).doors.slot0.edge
      ++ slotAlerts s.station 1 (s.doors.slot1.afterLine (decide (s.energises 1))) (s.doorExpiry inputs).doors.slot1.state
        s.doors.slot1.edge (s.doorExpiry inputs).doors.slot1.edge) := by
  have took := State.readDoors_took (s := s.outputDoors) room inputs
  have line (k : Fin 2) : (s.outputDoors.doors.slot k).state = (s.doors.slot k).afterLine (decide (s.energises k)) := by
    rw [State.outputDoors_slot, DoorSlot.output_state]
    refine congrArg _ ?_
    rw [Bool.eq_iff_iff, s.energises_iff, decide_eq_true_iff]
  have edge (k : Fin 2) : (s.outputDoors.doors.slot k).edge = (s.doors.slot k).edge := by
    rw [State.outputDoors_slot]
    exact ((s.doors.slot k).output_keeps s.releaseGate).2.2.1
  have after (k : Fin 2) : ((s.doorExpiry inputs).doors.slot k).state = ((s.doorsRead inputs).doors.slot k).state
      ∧ ((s.doorExpiry inputs).doors.slot k).edge = ((s.doorsRead inputs).doors.slot k).edge := by
    rw [State.doorExpiry_slot inputs working copy]
    obtain ⟨state, -, edge, -⟩ := s.doorsGranted_keeps inputs p k
    exact ⟨state, edge⟩
  have link : (s.doorExpiry inputs).link = (s.outputDoors.readDoors inputs).link := by
    rw [State.doorExpiry_of_working inputs working copy, State.settle_link, State.lined_link]
    rfl
  have line0 := line 0
  have line1 := line 1
  have edge0 := edge 0
  have edge1 := edge 1
  have after0 := after 0
  have after1 := after 1
  simp only [DoorInterlock.slot_zero, DoorInterlock.slot_one] at line0 line1 edge0 edge1 after0 after1
  rw [link, after0.1, after0.2, after1.1, after1.2, ← line0, ← line1, ← edge0, ← edge1]
  exact took

end

end

end Sys2Proof.Machine
end

section
/-! PROOFS. The door interlock's expiry in LIMP, its overflow of the fault list, and its moves: O45. -/

namespace Sys2Proof.Machine

/-! ## In LIMP step 2 alone (R169) -/

/-- In LIMP no mode moves, so settling leaves an interlock without an energised line alone. -/
theorem State.settle_doors_of_limp {s : State} (limp : s.sup.mode = .limp) (off : s.doors.anyRelease = false) :
    s.settle.doors = s.doors := by
  have mode : s.closeIfIdle.sup.mode = .limp := s.closeIfIdle_reads.2.2.2.1.trans limp
  have stays : s.closeIfIdle.updateMode = s.closeIfIdle := by
    unfold State.updateMode
    rw [mode]
  rw [State.settle_of_gate (fun on => absurd on (ne_true_of_eq_false off)), stays, State.closeIfIdle_doors]

section
variable {s : State} {p : Params} (inputs : DoorInputs) (limp : s.sup.mode = .limp) (copy : s.loader.copy = some p)
include limp copy

theorem State.doorExpiry_of_limp : s.doorExpiry inputs = (s.readDoors inputs).settle := by
  have inLimp : s.inLimp = true := by
    unfold State.inLimp
    rw [limp]
    rfl
  have timers : s.timersRun = true := by
    unfold State.timersRun
    rw [inLimp, Bool.or_true]
  unfold State.doorExpiry
  rw [if_pos timers, State.withCopy_some copy]
  exact congrArg State.settle (if_pos inLimp)

theorem State.doorExpiry_doors_of_limp (off : ∀ j : Fin 2, (s.doors.slot j).release = false) :
    (s.doorExpiry inputs).doors = s.doors.read inputs := by
  have stays : (s.readDoors inputs).sup.mode = .limp := (Supervisor.mode_of_stand (s.readDoors_stand inputs)).trans limp
  have lines : (s.readDoors inputs).doors.anyRelease = false := by
    rw [← Bool.not_eq_true, DoorInterlock.anyRelease_iff]
    rintro ⟨k, on⟩
    rw [State.readDoors_slot, ((s.doors.slot k).read_keeps ..).1, off k] at on
    cases on
  rw [State.doorExpiry_of_limp inputs limp copy, State.settle_doors_of_limp stays lines, State.readDoors_doors]

/-- The whole expiry in LIMP: the readings, their ALERTs and their fault. -/
theorem State.doorExpiry_limp (off : ∀ j : Fin 2, (s.doors.slot j).release = false) (room : s.link.alerts.length ≤ 2) :
    let t := s.doorExpiry inputs
    (∀ j : Fin 2, t.doors.slot j =
      (s.doors.slot j).afterReading (s.doors.slot j).state false (doorInput inputs j) (edgeInput inputs j))
    ∧ t.doors = { s.doors with slot0 := t.doors.slot0, slot1 := t.doors.slot1 }
    ∧ s.link.tookAlerts t.link
      (slotAlerts s.station 0 s.doors.slot0.state t.doors.slot0.state s.doors.slot0.edge t.doors.slot0.edge
      ++ slotAlerts s.station 1 s.doors.slot1.state t.doors.slot1.state s.doors.slot1.edge t.doors.slot1.edge)
    ∧ t.hasCondition .doorUnreleased = t.doors.anyUnreleased
    ∧ s.onlyChanges [.doors, .link, .sup, .odo, .joint, .air] t := by
  intro t
  have doors : t.doors = s.doors.read inputs := State.doorExpiry_doors_of_limp inputs limp copy off
  have expiry : t = (s.readDoors inputs).settle := State.doorExpiry_of_limp inputs limp copy
  have read : t.doors = (s.readDoors inputs).doors := doors.trans (s.readDoors_doors inputs).symm
  have link : t.link = (s.readDoors inputs).link := by
    rw [expiry, State.settle_link]
  refine ⟨fun j => ?_, ?_, ?_, ?_, s.doorExpiry_onlyChanges inputs⟩
  · rw [read, State.readDoors_slot, DoorSlot.read_eq, off j]
  · rw [doors]
    rfl
  · rw [link, read]
    exact State.readDoors_took room inputs
  · rw [read, ← State.hasCondition_readDoors, expiry, State.hasCondition_settle]

end

/-! ## Two doors on a full list (R157, R183) -/

theorem State.readDoors_overflows {s : State} {inputs : DoorInputs}
    (opens : ∀ j : Fin 2, (s.doors.slot j).state = .locked ∧ (s.doors.slot j).release = false ∧ doorInput inputs j ≠ .on)
    (shut : s.sup.shut .doorUnreleased) :
    (s.readDoors inputs).sup.overflow = min 255 (s.sup.overflow + 2) ∧ (s.readDoors inputs).sup.listFull = true := by
  have after (j : Fin 2) : (s.doors.slot j).state = .locked
      ∧ ((s.doors.slot j).read (doorInput inputs j) (edgeInput inputs j)).state = .unreleasedOpen := by
    obtain ⟨locked, release, input⟩ := opens j
    refine ⟨locked, ?_⟩
    rw [DoorSlot.read_state, locked, release, decide_eq_false input]
    rfl
  have after0 : s.doors.slot0.state = .locked ∧ (s.doors.slot0.read inputs.closed0 inputs.edge0).state = .unreleasedOpen := after 0
  have after1 : s.doors.slot1.state = .locked ∧ (s.doors.slot1.read inputs.closed1 inputs.edge1).state = .unreleasedOpen := after 1
  have raises (d e : DoorSlot) (first : Bool) (x : d.state = .locked ∧ e.state = .unreleasedOpen) : raisesUnreleased d e first = true := by
    unfold raisesUnreleased
    rw [x.1, x.2]
    rfl
  have kept (t : State) (k : Nat) (b a : DoorSlot) : (t.doorAlerts k b a).sup = t.sup :=
    State.same_of_onlyChanges (t.doorAlerts_onlyChanges k b a) .sup (by decide)
  unfold State.readDoors State.doorFault
  dsimp only
  rw [State.doorAlerts_doors, State.doorAlerts_doors]
  have any : (s.setDoors (s.doors.read inputs)).doors.anyUnreleased = true :=
    Bool.or_eq_true_iff.mpr (.inl (beq_iff_eq.mpr after0.2))
  refine (if_pos any).symm ▸ ?_
  rw [raises _ _ _ after0, raises _ _ _ after1]
  unfold State.raiseIf
  rw [if_pos rfl, if_pos rfl]
  have twice (a : State) (same : a.sup = s.sup) :
      ((a.raiseFault .doorUnreleased).raiseFault .doorUnreleased).sup.overflow = min 255 (s.sup.overflow + 2)
      ∧ ((a.raiseFault .doorUnreleased).raiseFault .doorUnreleased).sup.listFull = true := by
    obtain ⟨shut', counted, -⟩ := State.raiseFault_shut (s := a) (c := .doorUnreleased) (by decide) rfl (same ▸ shut)
    obtain ⟨-, counted', full⟩ := State.raiseFault_shut (c := .doorUnreleased) (by decide) rfl shut'
    refine ⟨?_, full⟩
    rw [counted', counted, same]
    omega
  refine twice _ ?_
  rw [kept, kept]
  rfl

/-! ## The rows of an expiry outside LIMP -/

section
variable {s : State} {p : Params} {inputs : DoorInputs} (working : s.working = true) (copy : s.loader.copy = some p) (k : Fin 2)
include working copy

/-- One slot's line and record (Table 9.2). -/
theorem State.doorExpiry_row {energised : Bool} (line : energised = true ↔ s.energises k) :
    ((s.doorExpiry inputs).doors.slot k).release = energised
    ∧ ((s.doorExpiry inputs).doors.slot k).state
      = ((s.doors.slot k).afterLine energised).afterInput energised (decide (doorInput inputs k = .on)) := by
  obtain ⟨state, release, -, -⟩ := s.doorsGranted_keeps inputs p k
  rw [State.doorExpiry_slot inputs working copy, state, release, s.doorsRead_state inputs k line]
  refine ⟨?_, rfl⟩
  rw [(s.doorsRead_keeps inputs k).2.2, Bool.eq_iff_iff, s.energises_iff]
  exact line.symm

/-- A held grant is withdrawn where R165 says. -/
theorem State.doorExpiry_withdraws (held : (s.doors.slot k).grant = true) :
    ((s.doorExpiry inputs).doors.slot k).grant = false ↔
      s.driverContent.any (fun c => c.doorMask.testBit (2 * (s.station - 1) + k)) = false
      ∨ s.odo.standstill = false ∨ s.cabPresent = false ∨ s.driverUsable = false
      ∨ (s.doorExpiry inputs).doors.halt ≠ .applied ∨ s.runOrDegraded = false ∨ (s.doors.slot k).gatedOff = true := by
  obtain ⟨grant, gated, -⟩ := s.doorsRead_keeps inputs k
  rw [State.doorExpiry_slot inputs working copy, State.doorsGranted_slot,
    DoorSlot.decideGrant_of_held _ (grant.trans held), (s.halted_readsAs inputs p).mustWithdraw, gated,
    State.doorExpiry_halt inputs working copy]
  simp only [or_assoc]
  exact Iff.rfl

/-- A grant is given where R164 says. -/
theorem State.doorExpiry_grants (free : (s.doors.slot k).grant = false) :
    ((s.doorExpiry inputs).doors.slot k).grant = true ↔
      s.driverContent.any (fun c => c.doorMask.testBit (2 * (s.station - 1) + k)) = true
      ∧ ((s.doorExpiry inputs).doors.slot k).state = .locked
      ∧ s.odo.standstill = true ∧ (s.doorExpiry inputs).doors.halt = .applied
      ∧ (∀ x ∈ s.presentContents, x.2.held = true) ∧ s.cabPresent = true ∧ s.driverUsable = true ∧ s.runOrDegraded = true := by
  obtain ⟨grant, -, -⟩ := s.doorsRead_keeps inputs k
  rw [State.doorExpiry_slot inputs working copy, (s.doorsGranted_keeps inputs p k).1, State.doorsGranted_slot,
    DoorSlot.decideGrant_of_free _ (grant.trans free), (s.halted_readsAs inputs p).mayGrant,
    State.doorExpiry_halt inputs working copy]
  constructor
  · rintro ⟨requested, may, locked⟩
    exact ⟨requested, locked, may⟩
  · rintro ⟨requested, locked, may⟩
    exact ⟨requested, may, locked⟩

theorem State.doorExpiry_inputs (fitted : (s.doors.slot k).state ≠ .none) :
    ((s.doorExpiry inputs).doors.slot k).edge = decide (edgeInput inputs k ≠ .off)
    ∧ ((s.doorExpiry inputs).doors.slot k).closed = decide (doorInput inputs k = .on) := by
  obtain ⟨-, -, edge, closed⟩ := s.doorsGranted_keeps inputs p k
  rw [State.doorExpiry_slot inputs working copy, edge, closed]
  exact s.doorsRead_inputs inputs k fitted

theorem State.doorExpiry_edge_of_none (none : (s.doors.slot k).state = .none) :
    ((s.doorExpiry inputs).doors.slot k).edge = (s.doors.slot k).edge := by
  rw [State.doorExpiry_slot inputs working copy, (s.doorsGranted_keeps inputs p k).2.2.1]
  exact s.doorsRead_edge_of_none inputs k none

/-! ## Openings, grants, releases (R156, R157, R164, R166) -/

/-- A line without a grant, or with the gate shut, is off (R166). -/
theorem State.doorExpiry_off (off : (s.doors.slot k).grant = false ∨ s.releaseGate = false) :
    ((s.doorExpiry inputs).doors.slot k).release = false := by
  refine (State.doorExpiry_row working copy k (energised := false) ⟨nofun, fun on => ?_⟩).1
  obtain ⟨grant, -, gate⟩ := on
  rcases off with off | off
  · exact absurd grant (ne_true_of_eq_false off)
  · exact absurd gate (ne_true_of_eq_false off)

/-- A door that opens without a release (R157). -/
theorem State.doorExpiry_opens (locked : (s.doors.slot k).state = .locked) (free : (s.doors.slot k).grant = false)
    (open' : doorInput inputs k ≠ .on) :
    let t := s.doorExpiry inputs
    (t.doors.slot k).state = .unreleasedOpen ∧ (t.doors.slot k).release = false ∧ (t.doors.slot k).grant = false
    ∧ t.hasCondition .doorUnreleased = true := by
  intro t
  obtain ⟨release, state⟩ := State.doorExpiry_row (inputs := inputs) working copy k (energised := false)
    ⟨nofun, fun on => absurd on.1 (ne_true_of_eq_false free)⟩
  have after : ((s.doors.slot k).afterLine false).afterInput false (decide (doorInput inputs k = .on)) = .unreleasedOpen := by
    unfold DoorSlot.afterLine
    rw [locked, decide_eq_false open']
    rfl
  have opens : (t.doors.slot k).state = .unreleasedOpen := state.trans after
  refine ⟨opens, release, ?_, ?_⟩
  · rw [← Bool.not_eq_true, State.doorExpiry_grants working copy k free]
    rintro ⟨-, again, -⟩
    exact absurd (opens.symm.trans again) (by decide)
  · rw [State.doorExpiry_unreleased inputs working copy]
    unfold DoorInterlock.anyUnreleased
    match k with
    | 0 => exact Bool.or_eq_true_iff.mpr (.inl (beq_iff_eq.mpr opens))
    | 1 => exact Bool.or_eq_true_iff.mpr (.inr (beq_iff_eq.mpr opens))

/-- A held grant is put out (R156, R166). -/
theorem State.doorExpiry_releases (gate : s.releaseGate = true) (grant : (s.doors.slot k).grant = true)
    (gated : (s.doors.slot k).gatedOff = false) (locked : (s.doors.slot k).state = .locked) (closed : doorInput inputs k = .on) :
    let t := s.doorExpiry inputs
    (t.doors.slot k).release = true ∧ (t.doors.slot k).state = .released ∧ t.doors.halt = .applied := by
  obtain ⟨release, state⟩ := State.doorExpiry_row (inputs := inputs) working copy k (energised := true)
    ⟨fun _ => ⟨grant, gated, gate⟩, fun _ => rfl⟩
  refine ⟨release, state.trans ?_, ?_⟩
  · unfold DoorSlot.afterLine
    rw [locked, decide_eq_true closed]
    rfl
  · rw [State.doorExpiry_halt inputs working copy]
    exact s.halt_of_grant inputs p grant (s.releaseGate_iff.mp gate).2.1

end

end Sys2Proof.Machine
end

section
/-! PROOFS. Grants at an APPLIED halt brake, and the moves of the halt state: O45. -/

namespace Sys2Proof.Machine

section
variable {s : State} {p : Params} {inputs : DoorInputs} (working : s.working = true) (copy : s.loader.copy = some p)
include working copy

/-- A grant is given to a closed door that is asked for (R159, R164, R167). -/
theorem State.doorExpiry_gives (k : Fin 2) (running : s.runOrDegraded = true) (standstill : s.odo.standstill = true)
    (applied : s.doors.halt = .applied) (cab : s.cabPresent = true) (usable : s.driverUsable = true)
    (peers : ∀ x ∈ s.presentContents, x.2.held = true) (first : 1 ≤ s.station) (last : s.station ≤ p.axles)
    (asked : (s.driverField DriverContent.doorMask 0).testBit (2 * (s.station - 1) + k) = true)
    (locked : (s.doors.slot k).state = .locked) (free : (s.doors.slot k).grant = false) (closed : doorInput inputs k = .on) :
    let t := s.doorExpiry inputs
    (t.doors.slot k).grant = true ∧ (t.doors.slot k).state = .locked ∧ (t.doors.slot k).release = false
    ∧ t.doors.halt = .applied ∧ t.doors.tractionInhibit = .asserted := by
  intro t
  have notOn : (false : Bool) = true ↔ s.energises k := ⟨nofun, fun on => absurd on.1 (ne_true_of_eq_false free)⟩
  rw [s.doorMask_testBit] at asked
  have record : ((s.doors.slot k).afterLine false).afterInput false (decide (doorInput inputs k = .on)) = .locked := by
    unfold DoorSlot.afterLine
    rw [locked, decide_eq_true closed]
    rfl
  obtain ⟨release, state⟩ := State.doorExpiry_row (inputs := inputs) working copy k notOn
  have read := s.doorsRead_state inputs k notOn
  rw [record] at state read
  have held : (s.doorsRead inputs).holdReason p = true := by
    rw [State.holdReason_iff]
    have asks : (s.doorsRead inputs).asksFor p (s.doorsRead inputs).station k := by
      rw [(s.doorsRead_readsAs inputs).1]
      exact ⟨asked, by change 2 * (s.station - 1) + k.val < 2 * p.axles; omega⟩
    have reports (d : DoorSlot) (h : d.state = .locked) (q : Prop) (hq : q) : d.report.holds none none q := by
      refine ⟨?_, .inr (.inr (.inr (.inr hq)))⟩
      change d.state ≠ .none
      rw [h]
      decide
    match k with
    | 0 => exact .inr (.inl (reports _ read _ asks))
    | 1 => exact .inr (.inr (.inl (reports _ read _ asks)))
  have halt : t.doors.halt = .applied := by
    have stays : (s.doorsRead inputs).mayRelease p = false := by
      unfold State.mayRelease
      rw [held]
      rfl
    rw [State.doorExpiry_halt inputs working copy]
    unfold State.nextHalt
    rw [s.doorsRead_halt, applied]
    exact if_neg (ne_true_of_eq_false stays)
  refine ⟨?_, state, release, halt, ?_⟩
  · rw [State.doorExpiry_grants working copy k free]
    exact ⟨asked, state, standstill, halt, peers, cab, usable, running⟩
  · rw [State.doorExpiry_tractionInhibit inputs working copy, if_pos]
    left
    rw [halt]
    decide

/-- The moves of the halt state, on the hold reasons that steps 1 and 2 leave (R160 to R162). -/
theorem State.doorExpiry_halts :
    let u := s.doorsRead inputs
    let t := s.doorExpiry inputs
    (s.doors.halt = .off →
      (s.odo.standstill = true ∧ s.brake.backup = false ∧ u.heldStill p → t.doors.halt = .applying)
      ∧ (s.odo.standstill = false ∨ s.brake.backup = true ∨ ¬u.heldStill p → t.doors.halt = .off))
    ∧ (s.doors.halt = .applying ∨ s.doors.halt = .applied →
      (u.freeToGo p → t.doors.halt = .releasing)
      ∧ (¬u.freeToGo p →
          t.doors.halt =
            if s.doors.halt = .applied ∨ p.haltPressure ≤ s.brake.measured + 30 then HaltState.applied else .applying))
    ∧ (s.doors.halt = .releasing →
      (u.heldStill p → t.doors.halt = .applying)
      ∧ (¬u.heldStill p → t.doors.halt = if s.brake.halt = 0 then HaltState.off else .releasing)) := by
  intro u t
  have halt : t.doors.halt = u.nextHalt p := State.doorExpiry_halt inputs working copy
  have before : u.doors.halt = s.doors.halt := s.doorsRead_halt inputs
  have same := s.doorsRead_readsAs inputs
  have odo : u.odo = s.odo := (congrArg State.odo same.1).trans rfl
  have brake : u.brake = s.brake := (congrArg State.brake same.1).trans rfl
  have works : u.working = true := same.working.trans working
  rw [halt]
  unfold State.nextHalt
  rw [before, odo, brake, works]
  simp only [← State.holdReason_iff, ← State.mayRelease_iff]
  refine ⟨fun off => ?_, fun held => ?_, fun releasing => ?_⟩
  · rw [off]
    dsimp only
    refine ⟨fun ⟨standstill, out, hold⟩ => ?_, fun stays => if_neg fun all => ?_⟩
    · rw [standstill, out, hold]
      rfl
    · simp only [Bool.and_eq_true, Bool.not_eq_true', and_true] at all
      obtain ⟨⟨standstill, hold⟩, out⟩ := all
      rcases stays with x | x | x
      · exact absurd standstill (ne_true_of_eq_false x)
      · exact absurd x (ne_true_of_eq_false out)
      · exact x hold
  · rcases held with applying | applied
    · rw [applying]
      refine ⟨fun free => if_pos free, fun stays => (if_neg stays).trans (if_congr ?_ rfl rfl)⟩
      simp
    · rw [applied]
      refine ⟨fun free => if_pos free, fun stays => (if_neg stays).trans (if_pos (.inl rfl)).symm⟩
  · rw [releasing]
    exact ⟨fun hold => if_pos hold, fun none => if_neg none⟩

/-- Two doors that open on a full list with nothing PASSIVE (R183). -/
theorem State.doorExpiry_overflows
    (opens : ∀ j : Fin 2, (s.doors.slot j).state = .locked ∧ (s.doors.slot j).release = false
      ∧ (s.doors.slot j).grant = false ∧ doorInput inputs j ≠ .on) (shut : s.sup.shut .doorUnreleased) :
    (s.doorExpiry inputs).sup.overflow = min 255 (s.sup.overflow + 2) ∧ (s.doorExpiry inputs).sup.listFull = true := by
  have closed (j : Fin 2) : (s.outputDoors.doors.slot j).state = .locked ∧ (s.outputDoors.doors.slot j).release = false
      ∧ doorInput inputs j ≠ .on := by
    obtain ⟨locked, -, grant, input⟩ := opens j
    rw [State.outputDoors_slot, DoorSlot.output_state, DoorSlot.output_release, grant]
    refine ⟨?_, rfl, input⟩
    unfold DoorSlot.afterLine
    rw [locked]
    rfl
  obtain ⟨counted, full⟩ := State.readDoors_overflows (s := s.outputDoors) closed shut
  obtain ⟨-, -, overflow, listFull⟩ := ((s.doorsGranted inputs p).lineWork p).settle_reads
  rw [State.doorExpiry_of_working inputs working copy, overflow, listFull, State.lined_sup]
  exact ⟨counted, full⟩

end

/-- Settles O45. -/
theorem doorsOpenByGrantAndHaltBrakeMoves : Obligations.doors_open_by_grant_and_halt_brake_moves := by
  intro dt s p inputs k copy
  have changes := (s.advance dt).doorExpiry_onlyChanges inputs
  refine ⟨fun limp off room => ?_, fun working => ⟨fun locked _ free input => ?_,
    fun running standstill applied cab usable peers first last asked locked _ free closed => ?_,
    fun gate grant gated locked closed => ?_, fun off => ?_, fun opens length others => ?_,
    fun energised line record row => ?_, ?_⟩⟩
  · exact completes_of rfl (State.doorExpiry_limp (s := s.advance dt) inputs limp copy off room)
  · obtain ⟨state, release, grant, condition⟩ :=
      State.doorExpiry_opens (s := s.advance dt) (inputs := inputs) working copy k locked free input
    exact completes_of rfl ⟨state, release, grant, condition, changes⟩
  · obtain ⟨grant, state, release, halt, line⟩ := State.doorExpiry_gives (s := s.advance dt) (inputs := inputs) working copy k
      running standstill applied cab usable peers first last asked locked free closed
    exact completes_of rfl ⟨grant, state, release, halt, line, changes⟩
  · obtain ⟨release, state, halt⟩ :=
      State.doorExpiry_releases (s := s.advance dt) (inputs := inputs) working copy k gate grant gated locked closed
    exact completes_of rfl ⟨release, state, halt, changes⟩
  · exact completes_of rfl ⟨State.doorExpiry_off (s := s.advance dt) working copy k off, changes⟩
  · obtain ⟨overflow, full⟩ := State.doorExpiry_overflows (s := s.advance dt) working copy opens ⟨length, others⟩
    exact completes_of rfl ⟨overflow, full, changes⟩
  · obtain ⟨release, state⟩ := State.doorExpiry_row (s := s.advance dt) (inputs := inputs) working copy k line
    refine completes_of rfl ⟨release, state.trans row.symm, State.doorExpiry_withdraws (s := s.advance dt) working copy k, fun free => ?_,
      State.doorExpiry_tractionInhibit (s := s.advance dt) inputs working copy,
      congrArg DoorInterlock.speedLimit (State.doorExpiry_doors (s := s.advance dt) inputs working copy),
      State.doorExpiry_inputs (s := s.advance dt) working copy k,
      State.doorExpiry_edge_of_none (s := s.advance dt) working copy k,
      State.doorExpiry_took (s := s.advance dt) inputs working copy,
      State.doorExpiry_unreleased (s := s.advance dt) inputs working copy, changes⟩
    have grants := State.doorExpiry_grants (s := s.advance dt) (inputs := inputs) working copy k free
    rw [state.trans row.symm] at grants
    exact grants
  · rintro u rfl
    obtain ⟨off, held, releasing⟩ := State.doorExpiry_halts (s := s.advance dt) (inputs := inputs) working copy
    exact completes_of rfl ⟨off, held, releasing, changes⟩

end Sys2Proof.Machine
end

section
/-! PROOFS. What faults and their consequences do to the levelling block (R133, R137, R149, R180, R181). -/

namespace Sys2Proof.Machine

/-! ## Consequences on the levelling block (Table 10.6) -/

/-- A channel without a run, its valve closed. -/
def Channel.shut (c : Channel) : Prop := c.state = .idle ∧ c.valveOpen = false

theorem Channel.stop_shut (c : Channel) : c.stop.shut := ⟨rfl, rfl⟩

theorem Channel.suspend_of_shut {c : Channel} (h : c.shut) : c.suspend = c := if_neg (by rw [h.1]; decide)

theorem Channel.resume_of_shut {c : Channel} (h : c.shut) : c.resume = c := if_neg (by rw [h.1]; decide)

/-- A levelling block after some consequences of height and reservoir faults. -/
inductive Levelling.bears (a : Levelling) : Levelling → Prop
  | refl : a.bears a
  | exclude {b : Levelling} (side : Side) : a.bears b → a.bears (b.exclude side)
  | latch {b : Levelling} : a.bears b → a.bears b.latchReservoir

theorem Levelling.bears.keeps {Q : Levelling → Prop} {a b : Levelling} (h : a.bears b)
    (exclude : ∀ a side, Q a → Q (a.exclude side)) (latch : ∀ a, Q a → Q a.latchReservoir) (start : Q a) : Q b := by
  induction h with
  | refl => exact start
  | exclude side _ ih => exact exclude _ side ih
  | latch _ ih => exact latch _ ih

theorem Levelling.bears.trans {a b c : Levelling} (h : a.bears b) (k : b.bears c) : a.bears c :=
  k.keeps (fun _ side => .exclude side) (fun _ => .latch) h

section
variable {a b : Levelling} (h : a.bears b)
include h

/-- A consequence leaves a corner's readings and target. -/
theorem Levelling.bears.corner (side : Side) : ∃ e, b.corner side = { a.corner side with excluded := e } :=
  h.keeps (Q := fun x => ∃ e, x.corner side = { a.corner side with excluded := e })
    (fun x hit ⟨e, same⟩ => by
      cases side <;> cases hit
      · exact ⟨true, congrArg (fun c : Corner => { c with excluded := true }) same⟩
      · exact ⟨e, same⟩
      · exact ⟨e, same⟩
      · exact ⟨true, congrArg (fun c : Corner => { c with excluded := true }) same⟩)
    (fun x ⟨e, same⟩ => ⟨e, by cases side <;> exact same⟩) ⟨_, rfl⟩

/-- What no consequence touches. -/
theorem Levelling.bears.rest : b.level = a.level ∧ b.reservoir = a.reservoir ∧ b.axleLoad = a.axleLoad
    ∧ b.kneelTimer = a.kneelTimer ∧ b.returnTime = a.returnTime ∧ b.gate = a.gate ∧ b.gateBelow = a.gateBelow
    ∧ b.gateAbove = a.gateAbove :=
  h.keeps (Q := fun x => x.level = a.level ∧ x.reservoir = a.reservoir ∧ x.axleLoad = a.axleLoad
      ∧ x.kneelTimer = a.kneelTimer ∧ x.returnTime = a.returnTime ∧ x.gate = a.gate ∧ x.gateBelow = a.gateBelow
      ∧ x.gateAbove = a.gateAbove)
    (fun x side same => by cases side <;> exact same) (fun x same => same) ⟨rfl, rfl, rfl, rfl, rfl, rfl, rfl, rfl⟩

theorem Levelling.bears.shut {side : Side} (closed : (a.channel side).shut) : (b.channel side).shut :=
  h.keeps (Q := fun x => (x.channel side).shut)
    (fun x hit closed => by
      cases side <;> cases hit
      · exact Channel.stop_shut _
      · exact closed
      · exact closed
      · exact Channel.stop_shut _)
    (fun x closed => by
      have suspended : x.latchReservoir.channel side = (x.channel side).suspend := by cases side <;> rfl
      rw [suspended, Channel.suspend_of_shut closed]
      exact closed) closed

theorem Levelling.bears.latched (on : a.reservoirLatch = true ∧ a.air = .protect) :
    b.reservoirLatch = true ∧ b.air = .protect :=
  h.keeps (Q := fun x => x.reservoirLatch = true ∧ x.air = .protect) (fun x side on => by cases side <;> exact on)
    (fun x _ => ⟨rfl, rfl⟩) on

theorem Levelling.bears.disabled (on : a.kneelDisabled = true) : b.kneelDisabled = true :=
  h.keeps (Q := fun x => x.kneelDisabled = true) (fun x side _ => by cases side <;> rfl) (fun x on => on) on

theorem Levelling.bears.excluded {side : Side} (on : (a.corner side).excluded = true ∧ a.kneelDisabled = true) :
    (b.corner side).excluded = true ∧ b.kneelDisabled = true :=
  h.keeps (Q := fun x => (x.corner side).excluded = true ∧ x.kneelDisabled = true)
    (fun x hit on => by
      cases side <;> cases hit
      · exact ⟨rfl, rfl⟩
      · exact ⟨on.1, rfl⟩
      · exact ⟨on.1, rfl⟩
      · exact ⟨rfl, rfl⟩)
    (fun x on => by cases side <;> exact on) on

end

/-! ## Raises and ends -/

section
variable (s : State)

theorem State.applyConsequence_air (c : FaultCode) : s.air.bears (s.applyConsequence c).air := by
  cases c
  case heightSensorL => exact .exclude .left .refl
  case heightSensorR => exact .exclude .right .refl
  case reservoirSensor => exact .latch .refl
  all_goals exact .refl

/-- A raise has its consequence on the block at once, or none. -/
theorem State.raiseFault_air (c : FaultCode) :
    (s.raiseFault c).air = s.air ∨ (s.raiseFault c).air = (s.applyConsequence c).air := by
  cases deferrable : c.deferrable with
  | true =>
    rcases s.raiseFault_deferrable_cases deferrable with ⟨-, e⟩ | ⟨-, -, e⟩ | ⟨-, -, -, e⟩ <;> rw [e]
    · exact .inl rfl
    · exact .inl rfl
    · cases c <;> exact .inr rfl
  | false =>
    by_cases both : c = .wheelSensorsBoth
    · rw [both, State.raiseBoth_eq]
      exact .inl rfl
    · rw [State.raiseFault_recorded s both deferrable]
      exact .inl rfl

theorem State.follow_air (c : FaultCode) (present : Bool) :
    (s.follow c present).air = s.air ∨ (s.follow c present).air = (s.applyConsequence c).air := by
  rcases s.follow_cases c present with ⟨-, -, e⟩ | ⟨-, -, e⟩ | ⟨-, e⟩ <;> rw [e]
  · exact .inl rfl
  · exact s.raiseFault_air c
  · exact .inl rfl

theorem State.follow_air_bears (c : FaultCode) (present : Bool) : s.air.bears (s.follow c present).air := by
  rcases s.follow_air c present with e | e <;> rw [e]
  · exact .refl
  · exact s.applyConsequence_air c

/-- A fault that is not of a height or of the reservoir leaves the block. -/
theorem State.applyConsequence_air_of_plain {c : FaultCode} (plain : c.deferrable = false) : (s.applyConsequence c).air = s.air := by
  cases c
  case heightSensorL | heightSensorR | reservoirSensor => exact absurd plain (by decide)
  all_goals rfl

theorem State.follow_air_of_plain {c : FaultCode} (plain : c.deferrable = false) (present : Bool) :
    (s.follow c present).air = s.air :=
  (s.follow_air c present).elim id fun e => e.trans (s.applyConsequence_air_of_plain plain)

theorem State.raiseFault_air_of_plain {c : FaultCode} (plain : c.deferrable = false) : (s.raiseFault c).air = s.air :=
  (s.raiseFault_air c).elim id fun e => e.trans (s.applyConsequence_air_of_plain plain)

/-- What settling does to the block is consequences. -/
theorem State.settle_air_bears : s.air.bears s.settle.air := by
  rw [State.settle_air]
  rcases s.closeIfIdle_cases with ⟨-, -, e⟩ | ⟨-, e⟩ <;> rw [e]
  · exact State.applyAll_keeps (Q := fun t => s.air.bears t.air)
      (fun t d h => h.trans (State.applyConsequence_air (t.setSup (t.sup.undefer d)) d)) _ .refl
  · exact .refl

/-! ## One code's standing while another is tested -/

theorem State.applyConsequence_deferred (c : FaultCode) : (s.applyConsequence c).sup.deferred = s.sup.deferred := by
  cases c
  case wheelSensorL | wheelSensorR | jointSensor | heightSensorL | heightSensorR | reservoirSensor | odometerSaturated =>
    exact Supervisor.addEffect_deferred ..
  all_goals rfl

theorem State.raiseFault_aside {c d : FaultCode} (other : c ≠ d) (single : d ≠ .wheelSensorsBoth) :
    (s.raiseFault d).inEffect c = s.inEffect c ∧ (c ∈ (s.raiseFault d).sup.deferred ↔ c ∈ s.sup.deferred) := by
  have marked (x : RecordState) : (s.setSup (s.recorded d x)).inEffect c = s.inEffect c :=
    congrArg (fun l : List FaultCode => l.contains c) (s.recorded_effects d x)
  have pending (x : RecordState) : (s.recorded d x).deferred = s.sup.deferred := s.recorded_deferred d x
  cases deferrable : d.deferrable with
  | true =>
    rcases s.raiseFault_deferrable_cases deferrable with ⟨-, e⟩ | ⟨-, -, e⟩ | ⟨-, -, -, e⟩ <;> rw [e]
    · exact ⟨marked .active, by rw [State.setSup_sup, pending]⟩
    · refine ⟨marked .deferred, ?_⟩
      rw [State.setSup_sup, Supervisor.defer, pending]
      dsimp only
      split
      · exact Iff.rfl
      · rw [List.mem_append, List.mem_singleton, or_iff_left other]
    · rw [State.inEffect_applyConsequence _ deferrable, State.applyConsequence_deferred, marked, State.setSup_sup, pending,
        beq_eq_false_iff_ne.mpr other, Bool.or_false]
      exact ⟨rfl, Iff.rfl⟩
  | false =>
    rw [State.raiseFault_recorded s single deferrable]
    exact ⟨marked .active, by rw [State.setSup_sup, ← State.recorded, pending]⟩

theorem State.endCondition_aside (c d : FaultCode) :
    (s.endCondition d).inEffect c = s.inEffect c ∧ (c ∈ (s.endCondition d).sup.deferred ↔ c ∈ s.sup.deferred) := ⟨rfl, Iff.rfl⟩

theorem State.follow_aside {c d : FaultCode} (other : c ≠ d) (single : d ≠ .wheelSensorsBoth) (present : Bool) :
    (s.follow d present).inEffect c = s.inEffect c ∧ (c ∈ (s.follow d present).sup.deferred ↔ c ∈ s.sup.deferred)
    ∧ (s.follow d present).hasCondition c = s.hasCondition c := by
  rw [State.hasCondition_follow, if_neg other]
  rcases s.follow_cases d present with ⟨-, -, e⟩ | ⟨-, -, e⟩ | ⟨-, e⟩ <;> rw [e]
  · exact ⟨rfl, Iff.rfl, rfl⟩
  · obtain ⟨effect, pending⟩ := s.raiseFault_aside other single
    exact ⟨effect, pending, rfl⟩
  · exact ⟨rfl, Iff.rfl, rfl⟩

/-- A fault already there, or whose consequence is in effect, has none (R180). -/
theorem State.follow_spent {c : FaultCode} (deferrable : c.deferrable = true) {present : Bool}
    (spent : present = false ∨ s.hasCondition c = true ∨ s.inEffect c = true) :
    (s.follow c present).air = s.air ∧ (s.follow c present).sup.deferred = s.sup.deferred
    ∧ (s.follow c present).inEffect c = s.inEffect c := by
  rcases s.follow_cases c present with ⟨-, -, e⟩ | ⟨on, absent, e⟩ | ⟨-, e⟩ <;> rw [e]
  · exact ⟨rfl, rfl, rfl⟩
  · have effect : s.inEffect c = true := by
      rcases spent with off | there | effect
      · rw [on] at off
        cases off
      · rw [absent] at there
        cases there
      · exact effect
    have single : c ≠ .wheelSensorsBoth := by rintro rfl; exact absurd deferrable (by decide)
    rw [State.raiseFault_again s single effect]
    exact ⟨rfl, s.recorded_deferred c .active, congrArg (fun l : List FaultCode => l.contains c) (s.recorded_effects c .active)⟩
  · exact ⟨rfl, rfl, rfl⟩

/-- A fault that begins outside a protected manoeuvre, with no window open, has its consequence at once (R180). -/
theorem State.follow_begins {c : FaultCode} (deferrable : c.deferrable = true) (absent : s.hasCondition c = false)
    (fresh : s.inEffect c = false) (quiet : s.protectedManoeuvre = false) (closed : s.sup.windowFrom = none) :
    (s.follow c true).air = (s.applyConsequence c).air ∧ (s.follow c true).inEffect c = true := by
  have raised : s.follow c true = s.raiseFault c := by
    rcases s.follow_cases c true with ⟨-, there, -⟩ | ⟨-, -, e⟩ | ⟨on, -⟩
    · rw [absent] at there
      cases there
    · exact e
    · cases on
  rw [raised, State.raiseFault_immediate s deferrable fresh quiet closed]
  refine ⟨by cases c <;> rfl, ?_⟩
  rw [State.inEffect_applyConsequence _ deferrable, beq_self_eq_true, Bool.or_true]

/-- One that begins during a protected manoeuvre is pending (R180). -/
theorem State.follow_defers {c : FaultCode} (deferrable : c.deferrable = true) (absent : s.hasCondition c = false)
    (fresh : s.inEffect c = false) (manoeuvre : s.protectedManoeuvre = true) :
    (s.follow c true).air = s.air ∧ c ∈ (s.follow c true).sup.deferred := by
  have raised : s.follow c true = s.raiseFault c := by
    rcases s.follow_cases c true with ⟨-, there, -⟩ | ⟨-, -, e⟩ | ⟨on, -⟩
    · rw [absent] at there
      cases there
    · exact e
    · cases on
  obtain ⟨u, e, pending, -⟩ := State.raiseFault_deferred s deferrable fresh (.inl manoeuvre)
  rw [raised, e]
  exact ⟨rfl, pending⟩

theorem State.follow_protectedManoeuvre (c : FaultCode) (present : Bool) :
    (s.follow c present).protectedManoeuvre = s.protectedManoeuvre := by
  unfold State.protectedManoeuvre
  rw [(s.follow_air_bears c present).rest.1, State.same_of_onlyChanges (s.follow_onlyChanges c present) .steer (by decide)]

/-- Outside a protected manoeuvre no window opens (R181). -/
theorem State.follow_closed {c : FaultCode} {present : Bool} (quiet : s.protectedManoeuvre = false)
    (closed : s.sup.windowFrom = none) : (s.follow c present).sup.windowFrom = none :=
  (State.follow_windowRests (.inl closed) c present).resolve_right (by
    rw [State.follow_protectedManoeuvre, quiet]
    exact Bool.false_ne_true)

end

/-! ## Consequences that are not pending -/

theorem State.applyAll_keeps_of_mem {Q : State → Prop} {cs : List FaultCode}
    (keeps : ∀ (s : State), ∀ d ∈ cs, Q s → Q (s.applyPending d)) {s : State} (hs : Q s) : Q (s.applyAll cs) := by
  induction cs generalizing s with
  | nil => exact hs
  | cons d rest ih => exact ih (fun t c mem => keeps t c (List.mem_cons_of_mem d mem)) (keeps s d List.mem_cons_self hs)

/-- Without RESERVOIR_SENSOR among the pending ones settling leaves the air status and the latch. -/
theorem State.settle_air_status {s : State} (absent : FaultCode.reservoirSensor ∉ s.sup.deferred) :
    s.settle.air.air = s.air.air ∧ s.settle.air.reservoirLatch = s.air.reservoirLatch := by
  rw [State.settle_air]
  rcases s.closeIfIdle_cases with ⟨-, -, e⟩ | ⟨-, e⟩ <;> rw [e]
  · refine State.applyAll_keeps_of_mem (cs := s.sup.deferred)
      (Q := fun t => t.air.air = s.air.air ∧ t.air.reservoirLatch = s.air.reservoirLatch) (fun t d mem same => ?_) ⟨rfl, rfl⟩
    cases d
    case reservoirSensor => exact absurd mem absent
    all_goals exact same
  · exact ⟨rfl, rfl⟩

/-- Without a corner's fault among them settling leaves its exclusion. -/
theorem State.settle_excluded {s : State} {side : Side} (absent : heightFault side ∉ s.sup.deferred) :
    (s.settle.air.corner side).excluded = (s.air.corner side).excluded := by
  rw [State.settle_air]
  rcases s.closeIfIdle_cases with ⟨-, -, e⟩ | ⟨-, e⟩ <;> rw [e]
  · refine State.applyAll_keeps_of_mem (cs := s.sup.deferred)
      (Q := fun t => (t.air.corner side).excluded = (s.air.corner side).excluded) (fun t d mem same => ?_) rfl
    cases side
    · cases d
      case heightSensorL => exact absurd mem absent
      all_goals exact same
    · cases d
      case heightSensorR => exact absurd mem absent
      all_goals exact same

end Sys2Proof.Machine
end

section
/-! PROOFS. Step 1 of a levelling expiry: the reservoir, height and bellows readings (R133, R137, R149). -/

namespace Sys2Proof.Machine

/-! ## One height input (R137) -/

theorem heightFault_deferrable (side : Side) : (heightFault side).deferrable = true := by cases side <;> rfl
theorem heightFault_ne_both (side : Side) : heightFault side ≠ .wheelSensorsBoth := by cases side <;> decide
theorem heightFault_ne_other (side : Side) : heightFault side ≠ heightFault (otherSide side) := by cases side <;> decide
theorem heightFault_ne_bellows (side : Side) : heightFault side ≠ .bellowsSensor := by cases side <;> decide
theorem heightFault_ne_reservoir (side : Side) : heightFault side ≠ .reservoirSensor := by cases side <;> decide

section
variable (c : Corner) (ran : Bool)

/-- A height reading leaves the corner's bellows, its target and its exclusion. -/
theorem Corner.readHeight_keeps (input : AnalogIn) :
    (c.readHeight ran input).excluded = c.excluded ∧ (c.readHeight ran input).target = c.target
    ∧ (c.readHeight ran input).bellows = c.bellows ∧ (c.readHeight ran input).bellowsCondition = c.bellowsCondition := by
  unfold Corner.readHeight
  split
  · exact ⟨rfl, rfl, rfl, rfl⟩
  · split
    · exact ⟨rfl, rfl, rfl, rfl⟩
    · split_ifs <;> exact ⟨rfl, rfl, rfl, rfl⟩

theorem Corner.readHeight_of_faulty {input : AnalogIn} (faulty : faultyReading 0 400 input) :
    (c.readHeight ran input).condition = some (if input = .openShort then HeightCondition.openShort else .range)
    ∧ (c.readHeight ran input).height = c.height := by
  cases input with
  | openShort => exact ⟨rfl, rfl⟩
  | reading x =>
    have outside : soundNat Config.maxHeight (.reading x) = none := soundNat_faulty (hi := 400) faulty
    unfold Corner.readHeight
    dsimp only
    rw [outside]
    exact ⟨rfl, rfl⟩

/-- A sound height is taken, short of the thirtieth period without movement. -/
theorem Corner.readHeight_of_sound {h : Nat} (range : h ≤ 400) (free : c.condition ≠ some .stuck) (few : c.stuckCount < 29) :
    (c.readHeight ran (.reading h)).condition = none ∧ (c.readHeight ran (.reading h)).height = h := by
  have sound : soundNat Config.maxHeight (.reading h) = some h := soundNat_reading range
  unfold Corner.readHeight
  dsimp only
  rw [sound]
  dsimp only
  split_ifs with moved runs thirty
  · exact ⟨rfl, rfl⟩
  · exact absurd (show 30 ≤ c.stuckCount + 1 from thirty) (by omega)
  · exact ⟨rfl, rfl⟩
  · exact ⟨rfl, rfl⟩

/-- The thirtieth period of a run without movement. -/
theorem Corner.readHeight_of_stuck {h : Nat} (range : h ≤ 400) (count : c.stuckCount = 29) (above : h < c.stuckReference + 3)
    (below : c.stuckReference < h + 3) :
    (c.readHeight true (.reading h)).condition = some .stuck ∧ (c.readHeight true (.reading h)).height = c.height := by
  have sound : soundNat Config.maxHeight (.reading h) = some h := soundNat_reading range
  have still : ¬stuckMovement ≤ distance h c.stuckReference := by
    unfold stuckMovement distance
    omega
  have thirty : stuckLimit ≤ c.stuckCount + 1 := by
    rw [count]
    decide
  unfold Corner.readHeight
  dsimp only
  rw [sound]
  dsimp only
  rw [if_neg still, if_pos rfl, if_pos thirty]
  exact ⟨rfl, rfl⟩

/-- A bellows reading leaves everything but the bellows. -/
theorem Corner.readBellows_keeps (input : AnalogIn) :
    c.readBellows input =
      { c with bellows := (c.readBellows input).bellows, bellowsCondition := (c.readBellows input).bellowsCondition } := by
  unfold Corner.readBellows
  split <;> rfl

theorem Corner.readBellows_of_sound {v : Nat} (range : v ≤ 1000) :
    c.readBellows (.reading v) = { c with bellows := v, bellowsCondition := false } := by
  have sound : soundNat Config.maxPressure (.reading v) = some v := soundNat_reading range
  unfold Corner.readBellows
  rw [sound]

theorem Corner.readBellows_of_faulty {input : AnalogIn} (faulty : faultyReading 0 1000 input) :
    c.readBellows input = { c with bellowsCondition := true } := by
  have outside : soundNat Config.maxPressure input = none := soundNat_faulty (hi := 1000) faulty
  unfold Corner.readBellows
  rw [outside]

end

/-! ## What the reading of one side leaves of the other -/

/-- A levelling block that differs on the other side alone, and in whether it may kneel. -/
def Levelling.apart (side : Side) (a b : Levelling) : Prop :=
  ∃ c ch k, b = { (a.setCorner (otherSide side) c).setChannel (otherSide side) ch with kneelDisabled := k }

theorem Levelling.apart_refl (side : Side) (a : Levelling) : a.apart side a :=
  ⟨a.corner (otherSide side), a.channel (otherSide side), a.kneelDisabled, by cases side <;> rfl⟩

theorem Levelling.apart.keeps {side : Side} {a b : Levelling} (h : a.apart side b) :
    b.corner side = a.corner side ∧ b.channel side = a.channel side ∧ b.air = a.air ∧ b.reservoirLatch = a.reservoirLatch := by
  obtain ⟨c, ch, k, rfl⟩ := h
  cases side <;> exact ⟨rfl, rfl, rfl, rfl⟩

theorem Levelling.apart.rest {side : Side} {a b : Levelling} (h : a.apart side b) :
    b.level = a.level ∧ b.reservoir = a.reservoir ∧ b.axleLoad = a.axleLoad ∧ b.kneelTimer = a.kneelTimer
    ∧ b.returnTime = a.returnTime ∧ b.gate = a.gate ∧ b.gateBelow = a.gateBelow ∧ b.gateAbove = a.gateAbove := by
  obtain ⟨c, ch, k, rfl⟩ := h
  cases side <;> exact ⟨rfl, rfl, rfl, rfl, rfl, rfl, rfl, rfl⟩

theorem Levelling.apart.setCorner {side : Side} {a b : Levelling} (h : a.apart side b) (c : Corner) :
    a.apart side (b.setCorner (otherSide side) c) := by
  obtain ⟨_, ch, k, rfl⟩ := h
  exact ⟨c, ch, k, by cases side <;> rfl⟩

theorem Levelling.apart.setChannel {side : Side} {a b : Levelling} (h : a.apart side b) (ch : Channel) :
    a.apart side (b.setChannel (otherSide side) ch) := by
  obtain ⟨c, _, k, rfl⟩ := h
  exact ⟨c, ch, k, by cases side <;> rfl⟩

theorem Levelling.apart.exclude {side : Side} {a b : Levelling} (h : a.apart side b) :
    a.apart side (b.exclude (otherSide side)) := by
  obtain ⟨c, ch, k, e⟩ := (h.setCorner { b.corner (otherSide side) with excluded := true }).setChannel
    (b.channel (otherSide side)).stop
  exact ⟨c, ch, true, congrArg (fun x : Levelling => { x with kneelDisabled := true }) e⟩

/-- What the supervisor holds of a fault, the same in both states. -/
def State.standsAs (s : State) (c : FaultCode) (t : State) : Prop :=
  t.inEffect c = s.inEffect c ∧ (c ∈ t.sup.deferred ↔ c ∈ s.sup.deferred) ∧ t.hasCondition c = s.hasCondition c

theorem State.standsAs.trans {s t u : State} {c : FaultCode} (h : s.standsAs c t) (k : t.standsAs c u) : s.standsAs c u :=
  ⟨k.1.trans h.1, k.2.1.trans h.2.1, k.2.2.trans h.2.2⟩

/-- The state after tests that concern the other side alone. -/
structure State.beside (side : Side) (s t : State) : Prop where
  air : s.air.apart side t.air
  own : s.standsAs (heightFault side) t
  reservoir : s.standsAs .reservoirSensor t
  manoeuvre : t.protectedManoeuvre = s.protectedManoeuvre
  closed : s.protectedManoeuvre = false → s.sup.windowFrom = none → t.sup.windowFrom = none
  disabled : s.air.kneelDisabled = true → t.air.kneelDisabled = true

theorem State.beside_refl (side : Side) (s : State) : s.beside side s :=
  ⟨Levelling.apart_refl side s.air, ⟨rfl, Iff.rfl, rfl⟩, ⟨rfl, Iff.rfl, rfl⟩, rfl, fun _ closed => closed, id⟩

/-! ## A height reading in the block -/

section
variable (s : State) (side : Side) (ran : Bool) (input : AnalogIn)

/-- The block after a height reading, before its fault is followed. -/
def Levelling.takeHeight (a : Levelling) (side : Side) (ran : Bool) (input : AnalogIn) : Levelling :=
  let c := (a.corner side).readHeight ran input
  if c.condition.isSome then (a.setCorner side c).setChannel side ((a.setCorner side c).channel side).stop
  else a.setCorner side c

theorem State.readHeight_eq : s.readHeight side ran input =
    (s.setAir (s.air.takeHeight side ran input)).follow (heightFault side)
      ((s.air.corner side).readHeight ran input).condition.isSome := rfl

theorem Levelling.takeHeight_corner (a : Levelling) :
    (a.takeHeight side ran input).corner side = (a.corner side).readHeight ran input := by
  unfold Levelling.takeHeight
  dsimp only
  split <;> simp

theorem Levelling.takeHeight_rest (a : Levelling) :
    (a.takeHeight side ran input).level = a.level ∧ (a.takeHeight side ran input).air = a.air
    ∧ (a.takeHeight side ran input).reservoirLatch = a.reservoirLatch ∧ (a.takeHeight side ran input).reservoir = a.reservoir := by
  unfold Levelling.takeHeight
  dsimp only
  cases side <;> split <;> exact ⟨rfl, rfl, rfl, rfl⟩

theorem Levelling.takeHeight_of_sound {a : Levelling} (sound : ((a.corner side).readHeight ran input).condition = none) :
    a.takeHeight side ran input = a.setCorner side ((a.corner side).readHeight ran input) := by
  unfold Levelling.takeHeight
  dsimp only
  rw [sound]
  rfl

theorem Levelling.takeHeight_of_faulty {a : Levelling}
    (faulty : ((a.corner side).readHeight ran input).condition.isSome = true) :
    ((a.takeHeight side ran input).channel side).shut := by
  unfold Levelling.takeHeight
  dsimp only
  rw [if_pos faulty, Levelling.channel_setChannel]
  exact Channel.stop_shut _

theorem State.readHeight_hasCondition : (s.readHeight side ran input).hasCondition (heightFault side) =
    ((s.air.corner side).readHeight ran input).condition.isSome := by
  rw [State.readHeight_eq, State.hasCondition_follow, if_pos rfl]

theorem State.readHeight_corner :
    ∃ e, (s.readHeight side ran input).air.corner side = { (s.air.corner side).readHeight ran input with excluded := e } := by
  obtain ⟨e, corner⟩ := (State.follow_air_bears (s.setAir (s.air.takeHeight side ran input)) (heightFault side)
    ((s.air.corner side).readHeight ran input).condition.isSome).corner side
  refine ⟨e, corner.trans ?_⟩
  rw [State.setAir_air, Levelling.takeHeight_corner]

theorem State.takeHeight_manoeuvre :
    (s.setAir (s.air.takeHeight side ran input)).protectedManoeuvre = s.protectedManoeuvre := by
  unfold State.protectedManoeuvre
  rw [State.setAir_air, (Levelling.takeHeight_rest side ran input s.air).1]
  rfl

theorem State.readHeight_manoeuvre : (s.readHeight side ran input).protectedManoeuvre = s.protectedManoeuvre := by
  rw [State.readHeight_eq, State.follow_protectedManoeuvre, State.takeHeight_manoeuvre]

theorem State.readHeight_closed (quiet : s.protectedManoeuvre = false) (closed : s.sup.windowFrom = none) :
    (s.readHeight side ran input).sup.windowFrom = none := by
  rw [State.readHeight_eq]
  exact State.follow_closed _ ((s.takeHeight_manoeuvre side ran input).trans quiet) closed

theorem State.readHeight_standsAs {c : FaultCode} (other : c ≠ heightFault side) :
    s.standsAs c (s.readHeight side ran input) :=
  State.follow_aside (s.setAir (s.air.takeHeight side ran input)) other (heightFault_ne_both side) _

/-- The other side's reading leaves this side alone. -/
theorem State.readHeight_beside : s.beside side (s.readHeight (otherSide side) ran input) := by
  refine ⟨?_, State.readHeight_standsAs _ _ _ _ (heightFault_ne_other side),
    State.readHeight_standsAs _ _ _ _ (Ne.symm (heightFault_ne_reservoir (otherSide side))), s.readHeight_manoeuvre _ _ _,
    s.readHeight_closed _ _ _, fun on => ?_⟩
  rotate_left
  · refine (State.follow_air_bears (s.setAir (s.air.takeHeight (otherSide side) ran input)) _ _).disabled ?_
    exact ite_keeps (P := fun a : Levelling => a.kneelDisabled = true) (by cases side <;> exact on) (by cases side <;> exact on)
  have taken : s.air.apart side (s.air.takeHeight (otherSide side) ran input) :=
    ite_keeps (P := fun a : Levelling => s.air.apart side a)
      (((Levelling.apart_refl side s.air).setCorner _).setChannel _) ((Levelling.apart_refl side s.air).setCorner _)
  rw [State.readHeight_eq]
  rcases State.follow_air (s.setAir (s.air.takeHeight (otherSide side) ran input)) (heightFault (otherSide side))
    ((s.air.corner (otherSide side)).readHeight ran input).condition.isSome with e | e <;> rw [e]
  · exact taken
  · have excluded : ((s.setAir (s.air.takeHeight (otherSide side) ran input)).applyConsequence (heightFault (otherSide side))).air
        = (s.air.takeHeight (otherSide side) ran input).exclude (otherSide side) := by
      cases side <;> rfl
    rw [excluded]
    exact taken.exclude

/-- Without a height condition the reading leaves channels, air and the supervisor but for the condition's end. -/
theorem State.readHeight_air_of_sound (sound : ((s.air.corner side).readHeight ran input).condition = none) :
    (s.readHeight side ran input).air = s.air.setCorner side ((s.air.corner side).readHeight ran input)
    ∧ (s.readHeight side ran input).sup.deferred = s.sup.deferred
    ∧ (s.readHeight side ran input).sup.windowFrom = s.sup.windowFrom := by
  rw [State.readHeight_eq, sound, Levelling.takeHeight_of_sound _ _ _ sound]
  exact ⟨rfl, rfl, rfl⟩

theorem State.readHeight_shut (faulty : ((s.air.corner side).readHeight ran input).condition.isSome = true) :
    ((s.readHeight side ran input).air.channel side).shut :=
  (State.follow_air_bears _ _ _).shut (Levelling.takeHeight_of_faulty _ _ _ faulty)

end

end Sys2Proof.Machine
end

section
/-! PROOFS. Steps 1 to 3 of a levelling expiry together: readings, air status and load (R132 to R135, R149, R150). -/

namespace Sys2Proof.Machine

/-! ## What step 1 does not touch -/

/-- The level state, the times, the load and the gate neighbours. -/
def Levelling.scheme (a : Levelling) : LevelState × Nat × Nat × Nat × Option Nat × Option Nat :=
  (a.level, a.kneelTimer, a.returnTime, a.axleLoad, a.gateBelow, a.gateAbove)

theorem Levelling.scheme_eq_iff {a b : Levelling} : b.scheme = a.scheme ↔ b.level = a.level ∧ b.kneelTimer = a.kneelTimer
    ∧ b.returnTime = a.returnTime ∧ b.axleLoad = a.axleLoad ∧ b.gateBelow = a.gateBelow ∧ b.gateAbove = a.gateAbove := by
  simp [Levelling.scheme]

theorem Levelling.bears.scheme {a b : Levelling} (h : a.bears b) : b.scheme = a.scheme := by
  obtain ⟨level, -, load, kneel, time, -, below, above⟩ := h.rest
  exact Levelling.scheme_eq_iff.mpr ⟨level, kneel, time, load, below, above⟩

theorem Levelling.apart.scheme {side : Side} {a b : Levelling} (h : a.apart side b) : b.scheme = a.scheme := by
  obtain ⟨level, -, load, kneel, time, -, below, above⟩ := h.rest
  exact Levelling.scheme_eq_iff.mpr ⟨level, kneel, time, load, below, above⟩

/-! ## The reservoir (R133) -/

section
variable (s : State) (input : AnalogIn)

/-- A sound reservoir ends its fault and changes nothing else. -/
theorem State.readReservoir_of_sound {v : Nat} (range : v ≤ 1000) :
    s.readReservoir (.reading v) = (s.endCondition .reservoirSensor).setAir { s.air with reservoir := v } := by
  have sound : soundNat Config.maxPressure (.reading v) = some v := soundNat_reading range
  unfold State.readReservoir
  rw [sound]
  rfl

theorem State.readReservoir_of_faulty (faulty : faultyReading 0 1000 input) :
    s.readReservoir input =
      (s.follow .reservoirSensor true).setAir { (s.follow .reservoirSensor true).air with reservoir := 0 } := by
  have outside : soundNat Config.maxPressure input = none := soundNat_faulty (hi := 1000) faulty
  unfold State.readReservoir
  rw [outside]

/-- Whatever the reservoir reads, its fault is followed and the pressure set. -/
theorem State.readReservoir_eq : ∃ present v,
    s.readReservoir input = (s.follow .reservoirSensor present).setAir { (s.follow .reservoirSensor present).air with reservoir := v } := by
  unfold State.readReservoir
  split
  · exact ⟨false, _, rfl⟩
  · exact ⟨true, 0, rfl⟩

theorem State.readReservoir_air (side : Side) :
    (s.readReservoir input).air.corner side = s.air.corner side
    ∧ ((s.air.channel side).shut → ((s.readReservoir input).air.channel side).shut)
    ∧ (s.readReservoir input).air.scheme = s.air.scheme ∧ (s.readReservoir input).air.kneelDisabled = s.air.kneelDisabled := by
  obtain ⟨present, v, e⟩ := s.readReservoir_eq input
  have hit := s.follow_air_bears .reservoirSensor present
  have corner : (s.follow .reservoirSensor present).air.corner side = s.air.corner side
      ∧ (s.follow .reservoirSensor present).air.kneelDisabled = s.air.kneelDisabled := by
    rcases s.follow_air .reservoirSensor present with e | e <;> rw [e]
    · exact ⟨rfl, rfl⟩
    · cases side <;> exact ⟨rfl, rfl⟩
  have same (a : Levelling) : ({ a with reservoir := v } : Levelling).corner side = a.corner side
      ∧ ({ a with reservoir := v } : Levelling).channel side = a.channel side := by cases side <;> exact ⟨rfl, rfl⟩
  obtain ⟨corner', channel'⟩ := same (s.follow .reservoirSensor present).air
  rw [e, State.setAir_air, corner', channel']
  exact ⟨corner.1, hit.shut, hit.scheme, corner.2⟩

theorem State.readReservoir_standsAs {c : FaultCode} (other : c ≠ .reservoirSensor) : s.standsAs c (s.readReservoir input) := by
  obtain ⟨present, v, e⟩ := s.readReservoir_eq input
  rw [e]
  exact s.follow_aside other (by decide) present

theorem State.readReservoir_manoeuvre : (s.readReservoir input).protectedManoeuvre = s.protectedManoeuvre := by
  obtain ⟨present, v, e⟩ := s.readReservoir_eq input
  rw [e]
  exact s.follow_protectedManoeuvre .reservoirSensor present

theorem State.readReservoir_closed (quiet : s.protectedManoeuvre = false) (closed : s.sup.windowFrom = none) :
    (s.readReservoir input).sup.windowFrom = none := by
  obtain ⟨present, v, e⟩ := s.readReservoir_eq input
  rw [e]
  exact s.follow_closed (c := .reservoirSensor) (present := present) quiet closed

end

/-! ## Both heights, then both bellows -/

section
variable (s : State) (inputs : LevelInputs)

/-- Step 1 up to the heights. -/
def State.heightsRead : State :=
  ((s.readReservoir inputs.reservoir).readHeight .left s.air.channelL.flows inputs.heightL).readHeight .right
    s.air.channelR.flows inputs.heightR

/-- A side's height is read among tests that concern the other side alone. -/
theorem State.heightsRead_around (side : Side) : ∃ t, (s.readReservoir inputs.reservoir).beside side t
    ∧ (t.readHeight side (s.air.channel side).flows (heightInput inputs side)).beside side (s.heightsRead inputs) := by
  cases side
  · exact ⟨_, State.beside_refl .left _, State.readHeight_beside _ .left s.air.channelR.flows inputs.heightR⟩
  · exact ⟨_, State.readHeight_beside _ .right s.air.channelL.flows inputs.heightL, State.beside_refl .right _⟩

/-- The block after both bellows readings. -/
def Levelling.readBellows (a : Levelling) (inputs : LevelInputs) : Levelling :=
  { a with cornerL := a.cornerL.readBellows inputs.bellowsL, cornerR := a.cornerR.readBellows inputs.bellowsR }

theorem State.readLevel_eq : s.readLevel inputs =
    ((s.heightsRead inputs).setAir ((s.heightsRead inputs).air.readBellows inputs)).follow .bellowsSensor
      (((s.heightsRead inputs).air.cornerL.readBellows inputs.bellowsL).bellowsCondition
        || ((s.heightsRead inputs).air.cornerR.readBellows inputs.bellowsR).bellowsCondition) := rfl

theorem State.readLevel_air : (s.readLevel inputs).air = (s.heightsRead inputs).air.readBellows inputs := by
  rw [State.readLevel_eq, State.follow_air_of_plain _ rfl]
  rfl

theorem State.readLevel_standsAs {c : FaultCode} (other : c ≠ .bellowsSensor) :
    (s.heightsRead inputs).standsAs c (s.readLevel inputs) :=
  State.follow_aside ((s.heightsRead inputs).setAir ((s.heightsRead inputs).air.readBellows inputs)) other (by decide) _

theorem Levelling.readBellows_corner (a : Levelling) (side : Side) :
    (a.readBellows inputs).corner side = (a.corner side).readBellows (bellowsInput inputs side)
    ∧ (a.readBellows inputs).channel side = a.channel side := by
  cases side <;> exact ⟨rfl, rfl⟩

theorem State.readLevel_manoeuvre : (s.readLevel inputs).protectedManoeuvre = s.protectedManoeuvre := by
  obtain ⟨t, before, after⟩ := s.heightsRead_around inputs .left
  have heights : (s.heightsRead inputs).protectedManoeuvre = s.protectedManoeuvre := by
    rw [after.manoeuvre, State.readHeight_manoeuvre, before.manoeuvre, State.readReservoir_manoeuvre]
  exact (State.follow_protectedManoeuvre _ _ _).trans heights

theorem State.readLevel_closed (quiet : s.protectedManoeuvre = false) (closed : s.sup.windowFrom = none) :
    (s.readLevel inputs).sup.windowFrom = none := by
  have reservoir := s.readReservoir_closed inputs.reservoir quiet closed
  have quiet' := (s.readReservoir_manoeuvre inputs.reservoir).trans quiet
  have left := State.readHeight_closed _ .left s.air.channelL.flows inputs.heightL quiet' reservoir
  have quietL := (State.readHeight_manoeuvre (s.readReservoir inputs.reservoir) .left s.air.channelL.flows inputs.heightL).trans quiet'
  have right := State.readHeight_closed _ .right s.air.channelR.flows inputs.heightR quietL left
  have quietR := (State.readHeight_manoeuvre _ .right s.air.channelR.flows inputs.heightR).trans quietL
  exact State.follow_closed ((s.heightsRead inputs).setAir _) quietR right

theorem State.readLevel_windowRests (h : s.windowRests) : (s.readLevel inputs).windowRests := by
  cases manoeuvre : s.protectedManoeuvre
  · exact .inl (s.readLevel_closed inputs manoeuvre (h.resolve_right (ne_true_of_eq_false manoeuvre)))
  · exact .inr ((s.readLevel_manoeuvre inputs).trans manoeuvre)

/-! ## What step 1 leaves -/

theorem State.heightsRead_scheme : (s.heightsRead inputs).air.scheme = s.air.scheme
    ∧ (s.heightsRead inputs).air.reservoir = (s.readReservoir inputs.reservoir).air.reservoir := by
  obtain ⟨-, -, first, -⟩ := s.readReservoir_air inputs.reservoir .left
  have left := ((s.readReservoir inputs.reservoir).readHeight_beside .right s.air.channelL.flows inputs.heightL).air
  have right := (State.readHeight_beside ((s.readReservoir inputs.reservoir).readHeight .left s.air.channelL.flows inputs.heightL)
    .left s.air.channelR.flows inputs.heightR).air
  exact ⟨(right.scheme.trans left.scheme).trans first, right.rest.2.1.trans left.rest.2.1⟩

theorem State.readLevel_scheme : (s.readLevel inputs).air.scheme = s.air.scheme
    ∧ (s.readLevel inputs).air.reservoir = (s.readReservoir inputs.reservoir).air.reservoir := by
  rw [State.readLevel_air]
  exact s.heightsRead_scheme inputs

/-- A corner after step 1, whatever its consequences. -/
theorem State.readLevel_corner (side : Side) : ∃ e, (s.readLevel inputs).air.corner side =
    ({ (s.air.corner side).readHeight (s.air.channel side).flows (heightInput inputs side) with excluded := e } : Corner).readBellows
      (bellowsInput inputs side) := by
  obtain ⟨t, before, after⟩ := s.heightsRead_around inputs side
  obtain ⟨e, corner⟩ := t.readHeight_corner side (s.air.channel side).flows (heightInput inputs side)
  refine ⟨e, ?_⟩
  rw [State.readLevel_air, (Levelling.readBellows_corner inputs _ side).1, after.air.keeps.1, corner, before.air.keeps.1,
    (s.readReservoir_air inputs.reservoir side).1]

/-- The air status and the latch are those that the reservoir leaves. -/
theorem State.readLevel_status : (s.readLevel inputs).air.air = (s.readReservoir inputs.reservoir).air.air
    ∧ (s.readLevel inputs).air.reservoirLatch = (s.readReservoir inputs.reservoir).air.reservoirLatch := by
  rw [State.readLevel_air]
  have left := ((s.readReservoir inputs.reservoir).readHeight_beside .right s.air.channelL.flows inputs.heightL).air.keeps
  have right := (State.readHeight_beside ((s.readReservoir inputs.reservoir).readHeight .left s.air.channelL.flows inputs.heightL)
    .left s.air.channelR.flows inputs.heightR).air.keeps
  exact ⟨right.2.2.1.trans left.2.2.1, right.2.2.2.trans left.2.2.2⟩

theorem State.readLevel_reservoir_standsAs : (s.readReservoir inputs.reservoir).standsAs .reservoirSensor (s.readLevel inputs) :=
  ((((s.readReservoir inputs.reservoir).readHeight_standsAs .left s.air.channelL.flows inputs.heightL (by decide)).trans
    (State.readHeight_standsAs _ .right s.air.channelR.flows inputs.heightR (by decide)))).trans
    (s.readLevel_standsAs inputs (by decide))

theorem State.readLevel_height_hasCondition (side : Side) : (s.readLevel inputs).hasCondition (heightFault side) =
    ((s.air.corner side).readHeight (s.air.channel side).flows (heightInput inputs side)).condition.isSome := by
  obtain ⟨t, before, after⟩ := s.heightsRead_around inputs side
  rw [(s.readLevel_standsAs inputs (heightFault_ne_bellows side)).2.2, after.own.2.2, State.readHeight_hasCondition,
    before.air.keeps.1, (s.readReservoir_air inputs.reservoir side).1]

theorem State.readLevel_bellows_hasCondition : (s.readLevel inputs).hasCondition .bellowsSensor =
    ((s.readLevel inputs).air.cornerL.bellowsCondition || (s.readLevel inputs).air.cornerR.bellowsCondition) := by
  rw [State.readLevel_air, State.readLevel_eq, State.hasCondition_follow, if_pos rfl]
  rfl

/-- A side without a height condition keeps its channel and its exclusion, as the reservoir leaves them. -/
theorem State.readLevel_of_sound {side : Side}
    (sound : ((s.air.corner side).readHeight (s.air.channel side).flows (heightInput inputs side)).condition = none) :
    (s.readLevel inputs).air.corner side =
      ((s.air.corner side).readHeight (s.air.channel side).flows (heightInput inputs side)).readBellows (bellowsInput inputs side)
    ∧ (s.readLevel inputs).air.channel side = (s.readReservoir inputs.reservoir).air.channel side
    ∧ (heightFault side ∈ (s.readLevel inputs).sup.deferred ↔ heightFault side ∈ s.sup.deferred) := by
  obtain ⟨t, before, after⟩ := s.heightsRead_around inputs side
  obtain ⟨corner, channel, -, -⟩ := before.air.keeps
  obtain ⟨corner', channel', -, -⟩ := after.air.keeps
  have same : t.air.corner side = s.air.corner side := corner.trans (s.readReservoir_air inputs.reservoir side).1
  rw [← same] at sound
  obtain ⟨air, deferred, -⟩ := t.readHeight_air_of_sound side _ _ sound
  obtain ⟨bellows, stays⟩ := Levelling.readBellows_corner inputs (s.heightsRead inputs).air side
  rw [State.readLevel_air, bellows, stays, corner', channel', air, Levelling.corner_setCorner, Levelling.channel_setCorner,
    channel, same, (s.readLevel_standsAs inputs (heightFault_ne_bellows side)).2.1, after.own.2.1, deferred, before.own.2.1,
    (s.readReservoir_standsAs inputs.reservoir (heightFault_ne_reservoir side)).2.1]
  exact ⟨rfl, rfl, Iff.rfl⟩

/-- A height condition ends the run. -/
theorem State.readLevel_shut {side : Side}
    (faulty : ((s.air.corner side).readHeight (s.air.channel side).flows (heightInput inputs side)).condition.isSome = true) :
    ((s.readLevel inputs).air.channel side).shut := by
  obtain ⟨t, before, after⟩ := s.heightsRead_around inputs side
  rw [← (s.readReservoir_air inputs.reservoir side).1, ← before.air.keeps.1] at faulty
  rw [State.readLevel_air, (Levelling.readBellows_corner inputs _ side).2, after.air.keeps.2.1]
  exact t.readHeight_shut side _ _ faulty

end

end Sys2Proof.Machine
end

section
/-! PROOFS. Consequences of a levelling expiry's readings, its later steps, and what settling leaves (R132 to R151). -/

namespace Sys2Proof.Machine

/-! ## The consequence of a height condition (R137, R180) -/

section
variable (s : State) (inputs : LevelInputs) {side : Side}
  (faulty : ((s.air.corner side).readHeight (s.air.channel side).flows (heightInput inputs side)).condition.isSome = true)
  (absent : s.hasCondition (heightFault side) = false) (fresh : s.inEffect (heightFault side) = false)
include faulty absent fresh

/-- At once, outside a protected manoeuvre with no window open. -/
theorem State.readLevel_excludes (quiet : s.protectedManoeuvre = false) (closed : s.sup.windowFrom = none) :
    ((s.readLevel inputs).air.corner side).excluded = true ∧ (s.readLevel inputs).air.kneelDisabled = true
    ∧ (s.readLevel inputs).inEffect (heightFault side) = true := by
  obtain ⟨t, before, after⟩ := s.heightsRead_around inputs side
  obtain ⟨effect, -, condition⟩ := (s.readReservoir_standsAs inputs.reservoir (heightFault_ne_reservoir side)).trans before.own
  have quiet' : (s.readReservoir inputs.reservoir).protectedManoeuvre = false :=
    (s.readReservoir_manoeuvre inputs.reservoir).trans quiet
  have same : t.air.corner side = s.air.corner side :=
    before.air.keeps.1.trans (s.readReservoir_air inputs.reservoir side).1
  obtain ⟨air, taken⟩ := State.follow_begins
    (t.setAir (t.air.takeHeight side (s.air.channel side).flows (heightInput inputs side))) (heightFault_deferrable side)
    (condition.trans absent) (effect.trans fresh)
    ((t.takeHeight_manoeuvre side _ _).trans (before.manoeuvre.trans quiet'))
    (before.closed quiet' (s.readReservoir_closed inputs.reservoir quiet closed))
  rw [← same] at faulty
  have read : t.readHeight side (s.air.channel side).flows (heightInput inputs side) =
      (t.setAir (t.air.takeHeight side (s.air.channel side).flows (heightInput inputs side))).follow (heightFault side) true := by
    rw [State.readHeight_eq, faulty]
  rw [← read] at air taken
  obtain ⟨bellows, -⟩ := Levelling.readBellows_corner inputs (s.heightsRead inputs).air side
  have excludes (a : Levelling) : ((a.exclude side).corner side).excluded = true ∧ (a.exclude side).kneelDisabled = true := by
    cases side <;> exact ⟨rfl, rfl⟩
  have hit : (t.readHeight side (s.air.channel side).flows (heightInput inputs side)).air =
      (t.air.takeHeight side (s.air.channel side).flows (heightInput inputs side)).exclude side := by
    rw [air]
    cases side <;> rfl
  obtain ⟨out, disabled⟩ := excludes (t.air.takeHeight side (s.air.channel side).flows (heightInput inputs side))
  rw [← hit] at out disabled
  refine ⟨?_, ?_, ?_⟩
  · rw [State.readLevel_air, bellows, Corner.readBellows_keeps, after.air.keeps.1]
    exact out
  · rw [State.readLevel_air]
    exact after.disabled disabled
  · rw [(s.readLevel_standsAs inputs (heightFault_ne_bellows side)).1, after.own.1]
    exact taken

/-- During one it is pending. -/
theorem State.readLevel_defers (manoeuvre : s.protectedManoeuvre = true) :
    ((s.readLevel inputs).air.corner side).excluded = (s.air.corner side).excluded
    ∧ heightFault side ∈ (s.readLevel inputs).sup.deferred := by
  obtain ⟨t, before, after⟩ := s.heightsRead_around inputs side
  obtain ⟨effect, -, condition⟩ := (s.readReservoir_standsAs inputs.reservoir (heightFault_ne_reservoir side)).trans before.own
  have same : t.air.corner side = s.air.corner side :=
    before.air.keeps.1.trans (s.readReservoir_air inputs.reservoir side).1
  obtain ⟨air, pending⟩ := State.follow_defers
    (t.setAir (t.air.takeHeight side (s.air.channel side).flows (heightInput inputs side))) (heightFault_deferrable side)
    (condition.trans absent) (effect.trans fresh)
    ((t.takeHeight_manoeuvre side _ _).trans
      (before.manoeuvre.trans ((s.readReservoir_manoeuvre inputs.reservoir).trans manoeuvre)))
  rw [← same] at faulty
  have read : t.readHeight side (s.air.channel side).flows (heightInput inputs side) =
      (t.setAir (t.air.takeHeight side (s.air.channel side).flows (heightInput inputs side))).follow (heightFault side) true := by
    rw [State.readHeight_eq, faulty]
  rw [← read] at air pending
  refine ⟨?_, ?_⟩
  · rw [State.readLevel_air, (Levelling.readBellows_corner inputs _ side).1, Corner.readBellows_keeps, after.air.keeps.1, air,
      State.setAir_air, Levelling.takeHeight_corner, same]
    exact ((s.air.corner side).readHeight_keeps _ _).1
  · rw [(s.readLevel_standsAs inputs (heightFault_ne_bellows side)).2.1, after.own.2.1]
    exact pending

end

/-! ## Steps 2 and 3 (R134, R135, R149, R150) -/

/-- Steps 1 to 3 together. -/
def State.weighed (s : State) (inputs : LevelInputs) (p : Params) : State := ((s.readLevel inputs).airWork p).loadWork p

/-- Fills are suspended under PROTECT, and resumed on leaving it (R135). -/
theorem Levelling.setAirStatus_channel (a : Levelling) (x : AirStatus) (side : Side) : (a.setAirStatus x).channel side =
    if x = .protect then (a.channel side).suspend
    else if a.air = .protect then (a.channel side).resume else a.channel side := by
  unfold Levelling.setAirStatus
  cases x
  case protect => cases side <;> rfl
  all_goals
    dsimp only
    by_cases was : a.air = .protect
    · rw [if_pos was]
      cases side <;> simp [was, Levelling.channel]
    · rw [if_neg was]
      cases side <;> simp [was, Levelling.channel]

theorem Levelling.setAirStatus_keeps (a : Levelling) (x : AirStatus) (side : Side) :
    (a.setAirStatus x).air = x ∧ (a.setAirStatus x).corner side = a.corner side ∧ (a.setAirStatus x).reservoir = a.reservoir
    ∧ (a.setAirStatus x).reservoirLatch = a.reservoirLatch ∧ (a.setAirStatus x).kneelDisabled = a.kneelDisabled
    ∧ (a.setAirStatus x).scheme = a.scheme := by
  unfold Levelling.setAirStatus
  cases x
  case protect => cases side <;> exact ⟨rfl, rfl, rfl, rfl, rfl, rfl⟩
  all_goals
    dsimp only
    cases side <;> split <;> exact ⟨rfl, rfl, rfl, rfl, rfl, rfl⟩

theorem State.airWork_cases (s : State) (p : Params) :
    ((s.air.reservoirLatch = true ∨ s.hasCondition .reservoirSensor = true) ∧ s.airWork p = s)
    ∨ (s.air.reservoirLatch = false ∧ s.hasCondition .reservoirSensor = false
        ∧ s.airWork p = s.setAir (s.air.setAirStatus (airAfter p s.air.air s.air.reservoir))) := by
  unfold State.airWork
  cases s.air.reservoirLatch <;> cases s.hasCondition .reservoirSensor <;> simp

/-- The load of a levelling expiry (R150). -/
theorem State.loadWork_air (s : State) (p : Params) : ∃ load, s.loadWork p = s.setAir { s.air with axleLoad := load } := by
  unfold State.loadWork
  split
  · exact ⟨_, rfl⟩
  · exact ⟨s.air.axleLoad, rfl⟩

/-! ## What the steps after the readings leave -/

/-- A block some steps after its readings: corners with their readings, and no run under a height condition. -/
structure Levelling.later (a b : Levelling) : Prop where
  corner : ∀ side, ∃ g, b.corner side = { a.corner side with target := g }
  rest : b.reservoir = a.reservoir ∧ b.reservoirLatch = a.reservoirLatch ∧ b.kneelDisabled = a.kneelDisabled
  shut : ∀ side, (a.corner side).condition.isSome = true → (a.channel side).shut → (b.channel side).shut

theorem Levelling.later_refl (a : Levelling) : a.later a := ⟨fun _ => ⟨_, rfl⟩, ⟨rfl, rfl, rfl⟩, fun _ _ h => h⟩

theorem Levelling.later.trans {a b c : Levelling} (h : a.later b) (k : b.later c) : a.later c := by
  refine ⟨fun side => ?_, ?_, fun side faulty closed => ?_⟩
  · obtain ⟨g, e⟩ := h.corner side
    obtain ⟨g', e'⟩ := k.corner side
    exact ⟨g', by rw [e', e]⟩
  · obtain ⟨x, y, z⟩ := h.rest
    obtain ⟨x', y', z'⟩ := k.rest
    exact ⟨x'.trans x, y'.trans y, z'.trans z⟩
  · obtain ⟨g, e⟩ := h.corner side
    exact k.shut side (by rw [e]; exact faulty) (h.shut side faulty closed)

theorem State.airWork_later (s : State) (p : Params) : s.air.later (s.airWork p).air := by
  rcases s.airWork_cases p with ⟨-, e⟩ | ⟨-, -, e⟩ <;> rw [e]
  · exact Levelling.later_refl _
  · have keeps := s.air.setAirStatus_keeps (airAfter p s.air.air s.air.reservoir)
    refine ⟨fun side => ⟨(s.air.corner side).target, (keeps side).2.1⟩,
      ⟨(keeps .left).2.2.1, (keeps .left).2.2.2.1, (keeps .left).2.2.2.2.1⟩, fun side _ closed => ?_⟩
    rw [State.setAir_air, Levelling.setAirStatus_channel, Channel.suspend_of_shut closed, Channel.resume_of_shut closed]
    split_ifs <;> exact closed

theorem State.loadWork_later (s : State) (p : Params) : s.air.later (s.loadWork p).air := by
  obtain ⟨load, e⟩ := s.loadWork_air p
  rw [e]
  refine ⟨fun side => ⟨(s.air.corner side).target, ?_⟩, ⟨rfl, rfl, rfl⟩, fun side _ closed => ?_⟩
  · cases side <;> rfl
  · cases side <;> exact closed

/-! ## Step 4 (R143 to R147) -/

theorem State.countLevel_air (s : State) : s.countLevel.air = s.air.countTimes := by
  unfold State.countLevel
  dsimp only
  split
  · exact State.raiseFault_air_of_plain _ rfl
  · rfl

theorem State.raiseEvent_air_of_plain (s : State) {c : FaultCode} (plain : c.deferrable = false) :
    (s.raiseEvent c).air = s.air := s.raiseFault_air_of_plain plain

/-- The block after step 4: its times counted, and where the level state moves, its runs ended and its targets set. -/
theorem State.levelWork_air (s : State) (p : Params) : (s.levelWork p).air =
    if s.countLevel.nextLevel p = s.air.level then s.air.countTimes
    else s.air.countTimes.toLevel p (s.countLevel.nextLevel p) := by
  have level : s.countLevel.air.level = s.air.level := (congrArg Levelling.level s.countLevel_air).trans rfl
  unfold State.levelWork
  dsimp only
  rw [level, s.countLevel_air]
  by_cases stays : s.countLevel.nextLevel p = s.air.level
  · rw [if_pos stays, if_pos stays, s.countLevel_air]
  · rw [if_neg stays, if_neg stays]
    refine (ite_keeps (P := fun t : State => t.air = s.air.countTimes.toLevel p (s.countLevel.nextLevel p)) ?_ ?_)
    · rw [State.raiseEvent_air_of_plain _ rfl, State.leaveReturning_air, State.setAir_air]
    · rw [State.leaveReturning_air, State.setAir_air]

theorem Levelling.countTimes_later (a : Levelling) : a.later a.countTimes :=
  ⟨fun side => ⟨(a.corner side).target, by cases side <;> rfl⟩, ⟨rfl, rfl, rfl⟩,
    fun side _ closed => by cases side <;> exact closed⟩

theorem Levelling.toLevel_corner (a : Levelling) (p : Params) (x : LevelState) (side : Side) :
    (a.toLevel p x).corner side = { a.corner side with target := cornerTarget p x side } := by
  cases side <;> rfl

theorem Levelling.toLevel_channel (a : Levelling) (p : Params) (x : LevelState) (side : Side) :
    (a.toLevel p x).channel side = (a.channel side).stop := by
  cases side <;> rfl

theorem Levelling.toLevel_later (a : Levelling) (p : Params) (x : LevelState) : a.later (a.toLevel p x) :=
  ⟨fun side => ⟨_, a.toLevel_corner p x side⟩, ⟨rfl, rfl, rfl⟩, fun _ _ _ => by
    rw [Levelling.toLevel_channel]
    exact Channel.stop_shut _⟩

theorem State.levelWork_later (s : State) (p : Params) : s.air.later (s.levelWork p).air := by
  rw [State.levelWork_air]
  exact ite_keeps (P := fun b : Levelling => s.air.later b) s.air.countTimes_later
    (s.air.countTimes_later.trans (Levelling.toLevel_later _ p _))

theorem State.levelInLimp_air (s : State) (p : Params) :
    ∃ x, (s.levelInLimp p).air = Levelling.setTargets { s.air with level := x } p := by
  unfold State.levelInLimp
  dsimp only
  exact ⟨_, State.leaveReturning_air ..⟩

theorem State.levelInLimp_later (s : State) (p : Params) : s.air.later (s.levelInLimp p).air := by
  obtain ⟨x, e⟩ := s.levelInLimp_air p
  rw [e]
  exact ⟨fun side => ⟨cornerTarget p x side, by cases side <;> rfl⟩, ⟨rfl, rfl, rfl⟩,
    fun side _ closed => by cases side <;> exact closed⟩

/-! ## Steps 5 and 6 (R136 to R142, R148) -/

theorem State.gateWork_air (s : State) (p : Params) : ∃ g b u, s.gateWork p =
    s.setAir { s.air with gate := g, gateBelow := b, gateAbove := u } := by
  unfold State.gateWork
  split <;> exact ⟨_, _, _, rfl⟩

theorem State.gateWork_later (s : State) (p : Params) : s.air.later (s.gateWork p).air := by
  obtain ⟨g, b, u, e⟩ := s.gateWork_air p
  rw [e]
  exact ⟨fun side => ⟨(s.air.corner side).target, by cases side <;> rfl⟩, ⟨rfl, rfl, rfl⟩,
    fun side _ closed => by cases side <;> exact closed⟩

theorem State.channelWork_air (s : State) (p : Params) : ∃ l r, s.channelWork p =
    s.setAir { s.air with channelL := l, channelR := r } := by
  unfold State.channelWork
  dsimp only
  split
  case h_7 | h_8 => exact ⟨s.air.channelL, s.air.channelR, rfl⟩
  all_goals exact ⟨_, _, rfl⟩

/-- One side at step 6, by the level state (R138, R139). -/
theorem State.channelWork_channel (s : State) (p : Params) (side : Side) : (s.channelWork p).air.channel side =
    match s.air.level with
    | .level | .raised => s.pulsedChannel p (s.air.corner side) (s.air.channel side)
    | .raising | .descending | .kneeling | .returning =>
      s.air.continuousChannel (kerbOf p == side) (s.air.corner side) (s.air.channel side)
    | .kneeled | .kneelHeld => s.air.channel side := by
  unfold State.channelWork
  dsimp only
  cases s.air.level <;> cases side <;> rfl

theorem State.pulsedChannel_shut (s : State) (p : Params) {c : Corner} {ch : Channel} (faulty : c.condition.isSome = true)
    (closed : ch.shut) : (s.pulsedChannel p c ch).shut := by
  unfold State.pulsedChannel
  split
  · exact ite_keeps ch.stop_shut closed
  · rw [faulty, Bool.or_true, if_pos rfl]
    exact closed

theorem Levelling.continuousChannel_of_out (a : Levelling) (kerb : Bool) {c : Corner} (ch : Channel)
    (out : (c.excluded || c.condition.isSome) = true) : a.continuousChannel kerb c ch = ch := if_pos out

theorem State.channelWork_later (s : State) (p : Params) : s.air.later (s.channelWork p).air := by
  refine ⟨fun side => ?_, ?_, fun side faulty closed => ?_⟩
  · obtain ⟨l, r, e⟩ := s.channelWork_air p
    rw [e]
    exact ⟨(s.air.corner side).target, by cases side <;> rfl⟩
  · obtain ⟨l, r, e⟩ := s.channelWork_air p
    rw [e]
    exact ⟨rfl, rfl, rfl⟩
  · rw [State.channelWork_channel]
    have out : ((s.air.corner side).excluded || (s.air.corner side).condition.isSome) = true := by
      rw [faulty, Bool.or_true]
    cases s.air.level
    case level | raised => exact State.pulsedChannel_shut s p faulty closed
    case kneeled | kneelHeld => exact closed
    all_goals
      rw [Levelling.continuousChannel_of_out _ _ _ out]
      exact closed

end Sys2Proof.Machine
end

section
/-! PROOFS. A levelling expiry from its readings to its end; readings, air status and load: O46, and the stuck height: O47. -/

namespace Sys2Proof.Machine

/-! ## The supervisor through steps 2 to 6 -/

section
variable (s : State) (p : Params) {c : FaultCode}

theorem State.standsAs_refl : s.standsAs c s := ⟨rfl, Iff.rfl, rfl⟩

theorem State.standsAs_of_sup {s t : State} (same : t.sup = s.sup) : s.standsAs c t := by
  unfold State.standsAs State.inEffect State.hasCondition
  rw [same]
  exact ⟨rfl, Iff.rfl, rfl⟩

theorem State.standsAs_raiseFault {d : FaultCode} (other : c ≠ d) (single : d ≠ .wheelSensorsBoth) : s.standsAs c (s.raiseFault d) := by
  obtain ⟨effect, pending⟩ := s.raiseFault_aside other single
  refine ⟨effect, pending, ?_⟩
  rw [State.hasCondition_raiseFault, beq_eq_false_iff_ne.mpr other, Bool.or_false]

theorem State.standsAs_endCondition {d : FaultCode} (other : c ≠ d) : s.standsAs c (s.endCondition d) := by
  refine ⟨rfl, Iff.rfl, ?_⟩
  rw [State.hasCondition_endCondition, bne_iff_ne.mpr other, Bool.and_true]

theorem State.levelWork_standsAs (raise : c ≠ .raiseTimeout) (kneel : c ≠ .kneelTimeout) : s.standsAs c (s.levelWork p) := by
  have counted : s.standsAs c s.countLevel := by
    unfold State.countLevel
    dsimp only
    exact ite_keeps (P := fun t : State => s.standsAs c t) ((s.setAir s.air.countTimes).standsAs_raiseFault raise (by decide))
      (State.standsAs_of_sup rfl)
  have moved (x : Levelling) : s.standsAs c ((s.countLevel.setAir x).leaveReturning s.countLevel.air.level) :=
    ite_keeps (P := fun t : State => s.standsAs c t)
      (counted.trans ((s.countLevel.setAir x).standsAs_endCondition raise)) counted
  unfold State.levelWork
  dsimp only
  refine ite_keeps (P := fun t : State => s.standsAs c t) counted (ite_keeps (P := fun t : State => s.standsAs c t) ?_ (moved _))
  exact (moved _).trans ((State.standsAs_raiseFault _ kneel (by decide)).trans (State.standsAs_endCondition _ kneel))

theorem State.levelInLimp_standsAs (raise : c ≠ .raiseTimeout) : s.standsAs c (s.levelInLimp p) := by
  unfold State.levelInLimp
  dsimp only
  exact ite_keeps (P := fun t : State => s.standsAs c t) (State.standsAs_endCondition (s.setAir _) raise) s.standsAs_refl

end

/-! ## The expiry -/

section
variable (s : State) (inputs : LevelInputs) (p : Params)

theorem State.weighed_sup : (s.weighed inputs p).sup = (s.readLevel inputs).sup := by
  have air (t : State) : (t.airWork p).sup = t.sup := State.same_of_onlyChanges (t.airWork_onlyChanges p) .sup (by decide)
  have load (t : State) : (t.loadWork p).sup = t.sup := State.same_of_onlyChanges (t.loadWork_onlyChanges p) .sup (by decide)
  unfold State.weighed
  rw [load, air]

/-- Step 4 on, by the mode (R151). -/
theorem State.levellingWork_eq : s.levellingWork inputs p =
    if s.inLimp then (s.weighed inputs p).levelInLimp p
    else (((s.weighed inputs p).levelWork p).gateWork p).channelWork p := rfl

theorem State.levellingWork_standsAs {c : FaultCode} (raise : c ≠ .raiseTimeout) (kneel : c ≠ .kneelTimeout) :
    (s.readLevel inputs).standsAs c (s.levellingWork inputs p) := by
  have weighed : (s.readLevel inputs).standsAs c (s.weighed inputs p) := State.standsAs_of_sup (s.weighed_sup inputs p)
  have gated (t : State) : t.standsAs c (t.gateWork p) :=
    State.standsAs_of_sup (State.same_of_onlyChanges (t.gateWork_onlyChanges p) .sup (by decide))
  have run (t : State) : t.standsAs c (t.channelWork p) :=
    State.standsAs_of_sup (State.same_of_onlyChanges (t.channelWork_onlyChanges p) .sup (by decide))
  rw [State.levellingWork_eq]
  exact ite_keeps (P := fun t : State => (s.readLevel inputs).standsAs c t)
    (weighed.trans (State.levelInLimp_standsAs _ p raise))
    (((weighed.trans (State.levelWork_standsAs _ p raise kneel)).trans (gated _)).trans (run _))

theorem State.weighed_later : (s.readLevel inputs).air.later (s.weighed inputs p).air :=
  ((s.readLevel inputs).airWork_later p).trans (State.loadWork_later _ p)

theorem State.levellingWork_later : (s.readLevel inputs).air.later (s.levellingWork inputs p).air := by
  have weighed := s.weighed_later inputs p
  rw [State.levellingWork_eq]
  exact ite_keeps (P := fun t : State => (s.readLevel inputs).air.later t.air)
    (weighed.trans (State.levelInLimp_later _ p))
    (((weighed.trans (State.levelWork_later _ p)).trans (State.gateWork_later _ p)).trans (State.channelWork_later _ p))

/-- Steps 4 to 6 leave the air status and the load. -/
theorem State.levellingWork_status : (s.levellingWork inputs p).air.air = ((s.readLevel inputs).airWork p).air.air
    ∧ (s.levellingWork inputs p).air.axleLoad = (s.weighed inputs p).air.axleLoad := by
  have load : (s.weighed inputs p).air.air = ((s.readLevel inputs).airWork p).air.air := by
    obtain ⟨load, e⟩ := State.loadWork_air ((s.readLevel inputs).airWork p) p
    unfold State.weighed
    rw [e]
    rfl
  have levelled (t : State) : (t.levelWork p).air.air = t.air.air ∧ (t.levelWork p).air.axleLoad = t.air.axleLoad := by
    rw [State.levelWork_air]
    exact ite_keeps (P := fun b : Levelling => b.air = t.air.air ∧ b.axleLoad = t.air.axleLoad) ⟨rfl, rfl⟩ ⟨rfl, rfl⟩
  have shown (t : State) : (t.levelInLimp p).air.air = t.air.air ∧ (t.levelInLimp p).air.axleLoad = t.air.axleLoad := by
    obtain ⟨x, e⟩ := t.levelInLimp_air p
    rw [e]
    exact ⟨rfl, rfl⟩
  have gated (t : State) : (t.gateWork p).air.air = t.air.air ∧ (t.gateWork p).air.axleLoad = t.air.axleLoad := by
    obtain ⟨g, b, u, e⟩ := t.gateWork_air p
    rw [e]
    exact ⟨rfl, rfl⟩
  have run (t : State) : (t.channelWork p).air.air = t.air.air ∧ (t.channelWork p).air.axleLoad = t.air.axleLoad := by
    obtain ⟨l, r, e⟩ := t.channelWork_air p
    rw [e]
    exact ⟨rfl, rfl⟩
  rw [State.levellingWork_eq, ← load]
  refine ite_keeps (P := fun t : State => t.air.air = (s.weighed inputs p).air.air
    ∧ t.air.axleLoad = (s.weighed inputs p).air.axleLoad) (shown _) ?_
  rw [(run _).1, (run _).2, (gated _).1, (gated _).2]
  exact levelled _

end

section
variable {s : State} {p : Params} {inputs : LevelInputs} (timers : s.timersRun = true) (copy : s.loader.copy = some p)
include timers copy

theorem State.levelExpiry_eq : s.levelExpiry inputs = (s.levellingWork inputs p).settle := by
  unfold State.levelExpiry
  rw [if_pos timers, State.withCopy_some copy]

/-- A fault that steps 4 to 6 do not test stands after the expiry as after step 1. -/
theorem State.levelExpiry_hasCondition {c : FaultCode} (raise : c ≠ .raiseTimeout) (kneel : c ≠ .kneelTimeout) :
    (s.levelExpiry inputs).hasCondition c = (s.readLevel inputs).hasCondition c := by
  rw [State.levelExpiry_eq timers copy, State.hasCondition_settle, (s.levellingWork_standsAs inputs p raise kneel).2.2]

/-- A corner's readings at the end of the expiry. -/
theorem State.levelExpiry_corner (side : Side) : ∃ e g, (s.levelExpiry inputs).air.corner side =
    { ((s.air.corner side).readHeight (s.air.channel side).flows (heightInput inputs side)).readBellows (bellowsInput inputs side)
      with excluded := e, target := g } := by
  have commutes (c : Corner) (e : Bool) (input : AnalogIn) :
      ({ c with excluded := e } : Corner).readBellows input = { c.readBellows input with excluded := e } := by
    unfold Corner.readBellows
    split <;> rfl
  obtain ⟨e, read⟩ := s.readLevel_corner inputs side
  obtain ⟨g, worked⟩ := (s.levellingWork_later inputs p).corner side
  obtain ⟨e', settled⟩ := (State.settle_air_bears (s.levellingWork inputs p)).corner side
  refine ⟨e', g, ?_⟩
  rw [State.levelExpiry_eq timers copy, settled, worked, read, commutes]

theorem State.levelExpiry_rest : (s.levelExpiry inputs).air.reservoir = (s.readReservoir inputs.reservoir).air.reservoir
    ∧ (s.levelExpiry inputs).air.axleLoad = (s.weighed inputs p).air.axleLoad := by
  obtain ⟨-, reservoir, load, -⟩ := (State.settle_air_bears (s.levellingWork inputs p)).rest
  rw [State.levelExpiry_eq timers copy, reservoir, load, (s.levellingWork_later inputs p).rest.1,
    (s.levellingWork_status inputs p).2, (s.readLevel_scheme inputs).2]
  exact ⟨rfl, rfl⟩

/-- A height condition leaves its channel without a run. -/
theorem State.levelExpiry_shut {side : Side}
    (faulty : ((s.air.corner side).readHeight (s.air.channel side).flows (heightInput inputs side)).condition.isSome = true) :
    ((s.levelExpiry inputs).air.channel side).shut := by
  have condition : ((s.readLevel inputs).air.corner side).condition.isSome = true := by
    obtain ⟨e, read⟩ := s.readLevel_corner inputs side
    rw [read, Corner.readBellows_keeps]
    exact faulty
  rw [State.levelExpiry_eq timers copy]
  exact (State.settle_air_bears _).shut ((s.levellingWork_later inputs p).shut side condition (s.readLevel_shut inputs faulty))

end

/-! ## The stuck height: O47 -/

/-- Settles O47. -/
theorem heightStuckEndsTheRun : Obligations.height_stuck_ends_the_run := by
  intro dt side s p inputs h timers copy range input running continuous valve clear count above below
  have reads : heightInput inputs side = .reading h := by
    cases side <;> exact input
  have flows : (s.air.channel side).flows = true := by
    unfold Channel.flows Channel.running
    rw [continuous, valve]
    rcases running with state | state <;> rw [state] <;> rfl
  obtain ⟨stuck, height⟩ := (s.air.corner side).readHeight_of_stuck range count above below
  rw [← flows, ← reads] at stuck height
  have faulty : ((s.air.corner side).readHeight (s.air.channel side).flows (heightInput inputs side)).condition.isSome = true := by
    rw [stuck]
    rfl
  obtain ⟨e, g, corner⟩ := State.levelExpiry_corner (s := s.advance dt) (inputs := inputs) timers copy side
  have condition : (((s.advance dt).levelExpiry inputs).air.corner side).condition = some .stuck := by
    rw [corner, Corner.readBellows_keeps]
    exact stuck
  have happens : (s.advance dt).stuckExpiry side inputs = (s.advance dt).levelExpiry inputs := by
    refine State.expiryIf_of ?_
    rw [condition, show ((s.advance dt).air.corner side).condition = none from clear]
    rfl
  obtain ⟨idle, closed⟩ := State.levelExpiry_shut (s := s.advance dt) timers copy faulty
  refine completes_of happens ⟨condition, ?_, idle, closed, ?_, (s.advance dt).levelExpiry_onlyChanges inputs⟩
  · rw [corner, Corner.readBellows_keeps]
    exact height
  · rw [State.levelExpiry_hasCondition (s := s.advance dt) timers copy (by cases side <;> decide) (by cases side <;> decide),
      State.readLevel_height_hasCondition]
    exact faulty

end Sys2Proof.Machine
end

section
/-! PROOFS. The readings of a levelling expiry, its air status and its load: O46. -/

namespace Sys2Proof.Machine

/-! ## Whether an input is faulty -/

theorem exists_of_not_faulty {hi : Nat} {x : AnalogIn} (sound : ¬faultyReading 0 hi x) : ∃ v : Nat, v ≤ hi ∧ x = .reading v := by
  cases x with
  | openShort => exact absurd trivial sound
  | reading v =>
    have within : ¬(v < 0 ∨ (hi : Int) < v) := sound
    exact ⟨v.toNat, by omega, congrArg AnalogIn.reading (by omega)⟩

/-- Settling leaves the level state and the steer mode. -/
theorem State.settle_manoeuvre (s : State) : s.settle.protectedManoeuvre = s.protectedManoeuvre := by
  unfold State.protectedManoeuvre
  rw [s.settle_air_bears.rest.1, State.settle_steer]

theorem Corner.readBellows_condition_iff (c : Corner) (input : AnalogIn) :
    (c.readBellows input).bellowsCondition = true ↔ faultyReading 0 1000 input := by
  by_cases faulty : faultyReading 0 1000 input
  · rw [c.readBellows_of_faulty faulty]
    exact ⟨fun _ => faulty, fun _ => rfl⟩
  · obtain ⟨v, range, rfl⟩ := exists_of_not_faulty faulty
    rw [c.readBellows_of_sound range]
    exact ⟨nofun, fun h => absurd h faulty⟩

/-! ## The load (R149, R150) -/

/-- The load that a block's bellows weigh, the laden default without either. -/
def Levelling.load (a : Levelling) (p : Params) : Nat :=
  (a.loadPressures.map fun x => axleLoadOf p x.1 x.2).getD p.ladenDefault

theorem State.loadWork_axleLoad (s : State) (p : Params) :
    (s.loadWork p).air.axleLoad = if s.brake.demand = 0 then s.air.load p else s.air.axleLoad := by
  unfold State.loadWork Levelling.load
  split
  · cases s.air.loadPressures <;> rfl
  · rfl

theorem Levelling.load_congr {a b : Levelling} (corner : ∀ side, b.corner side = a.corner side) (p : Params) :
    b.load p = a.load p := by
  have left : b.cornerL = a.cornerL := corner .left
  have right : b.cornerR = a.cornerR := corner .right
  unfold Levelling.load Levelling.loadPressures
  rw [left, right]

theorem State.airWork_corner (s : State) (p : Params) (side : Side) :
    (s.airWork p).air.corner side = s.air.corner side ∧ (s.airWork p).air.scheme = s.air.scheme := by
  rcases s.airWork_cases p with ⟨-, e⟩ | ⟨-, -, e⟩ <;> rw [e]
  · exact ⟨rfl, rfl⟩
  · obtain ⟨-, corner, -, -, -, scheme⟩ := s.air.setAirStatus_keeps (airAfter p s.air.air s.air.reservoir) side
    exact ⟨corner, scheme⟩

theorem State.weighed_axleLoad (s : State) (inputs : LevelInputs) (p : Params) : (s.weighed inputs p).air.axleLoad =
    if s.brake.demand = 0 then (s.readLevel inputs).air.load p else s.air.axleLoad := by
  have brake : ((s.readLevel inputs).airWork p).brake = s.brake :=
    (State.same_of_onlyChanges (State.airWork_onlyChanges _ p) .brake (by decide)).trans
      (State.same_of_onlyChanges (s.readLevel_onlyChanges inputs) .brake (by decide))
  obtain ⟨-, -, -, load, -, -⟩ := Levelling.scheme_eq_iff.mp
    (((s.readLevel inputs).airWork_corner p .left).2.trans (s.readLevel_scheme inputs).1)
  unfold State.weighed
  rw [State.loadWork_axleLoad, brake, load, Levelling.load_congr (fun side => ((s.readLevel inputs).airWork_corner p side).1)]

section
variable (s : State) (inputs : LevelInputs) (p : Params)

/-- What is pending at the expiry's end of the reservoir is what its reading leaves. -/
theorem State.levellingWork_reservoir : (s.readReservoir inputs.reservoir).standsAs .reservoirSensor (s.levellingWork inputs p) :=
  (s.readLevel_reservoir_standsAs inputs).trans (s.levellingWork_standsAs inputs p (by decide) (by decide))

/-- While the fault or the latch holds the status, the readings leave it and the rest of the work keeps it. -/
theorem State.levellingWork_held (held : (s.readReservoir inputs.reservoir).air.reservoirLatch = true
      ∨ (s.readReservoir inputs.reservoir).hasCondition .reservoirSensor = true) :
    (s.levellingWork inputs p).air.air = (s.readReservoir inputs.reservoir).air.air
    ∧ (s.levellingWork inputs p).air.reservoirLatch = (s.readReservoir inputs.reservoir).air.reservoirLatch := by
  obtain ⟨air, latch⟩ := s.readLevel_status inputs
  rw [← latch, ← (s.readLevel_reservoir_standsAs inputs).2.2] at held
  rw [(s.levellingWork_status inputs p).1, (s.levellingWork_later inputs p).rest.2.1, ← air, ← latch]
  rcases (s.readLevel inputs).airWork_cases p with ⟨-, e⟩ | ⟨off, absent, -⟩
  · rw [e]
    exact ⟨rfl, rfl⟩
  · rcases held with on | there
    · exact absurd on (ne_true_of_eq_false off)
    · exact absurd there (ne_true_of_eq_false absent)

end

section
variable {s : State} {p : Params} {inputs : LevelInputs} (timers : s.timersRun = true) (copy : s.loader.copy = some p)

theorem State.readLevel_bellows (s : State) (inputs : LevelInputs) (side : Side) :
    (∀ v : Nat, v ≤ 1000 → bellowsInput inputs side = .reading v →
      ((s.readLevel inputs).air.corner side).bellowsCondition = false ∧ ((s.readLevel inputs).air.corner side).bellows = v)
    ∧ (((s.readLevel inputs).air.corner side).bellowsCondition = true ↔ faultyReading 0 1000 (bellowsInput inputs side)) := by
  obtain ⟨e, corner⟩ := s.readLevel_corner inputs side
  rw [corner]
  refine ⟨fun v range sound => ?_, Corner.readBellows_condition_iff _ _⟩
  rw [sound, Corner.readBellows_of_sound _ range]
  exact ⟨rfl, rfl⟩

include timers copy

theorem State.levelExpiry_axleLoad : (s.levelExpiry inputs).air.axleLoad =
    if s.brake.demand = 0 then (s.readLevel inputs).air.load p else s.air.axleLoad := by
  rw [(State.levelExpiry_rest timers copy).2, State.weighed_axleLoad]

theorem State.levelExpiry_bellows (side : Side) :
    (faultyReading 0 1000 (bellowsInput inputs side) →
      ((s.levelExpiry inputs).air.corner side).bellowsCondition = true
      ∧ ((s.levelExpiry inputs).air.corner side).bellows = (s.air.corner side).bellows)
    ∧ (∀ v : Nat, v ≤ 1000 → bellowsInput inputs side = .reading v →
      ((s.levelExpiry inputs).air.corner side).bellowsCondition = false
      ∧ ((s.levelExpiry inputs).air.corner side).bellows = v) := by
  obtain ⟨e, g, corner⟩ := State.levelExpiry_corner (inputs := inputs) timers copy side
  rw [corner]
  refine ⟨fun faulty => ?_, fun v range sound => ?_⟩
  · rw [Corner.readBellows_of_faulty _ faulty]
    exact ⟨rfl, ((s.air.corner side).readHeight_keeps _ _).2.2.1⟩
  · rw [sound, Corner.readBellows_of_sound _ range]
    exact ⟨rfl, rfl⟩

theorem State.levelExpiry_bellows_hasCondition : (s.levelExpiry inputs).hasCondition .bellowsSensor = true ↔
    faultyReading 0 1000 inputs.bellowsL ∨ faultyReading 0 1000 inputs.bellowsR := by
  rw [State.levelExpiry_hasCondition timers copy (by decide) (by decide), State.readLevel_bellows_hasCondition, Bool.or_eq_true]
  exact or_congr (s.readLevel_bellows inputs .left).2 (s.readLevel_bellows inputs .right).2

/-! ## The reservoir and the air status (R133, R134) -/

theorem State.levelExpiry_reservoir_hasCondition :
    (s.levelExpiry inputs).hasCondition .reservoirSensor = (s.readReservoir inputs.reservoir).hasCondition .reservoirSensor := by
  rw [State.levelExpiry_eq timers copy, State.hasCondition_settle, (s.levellingWork_reservoir inputs p).2.2]

/-- The air status and the latch after an expiry whose reservoir reading leaves no pending consequence, or that a protected
manoeuvre outlasts. -/
theorem State.levelExpiry_status (stays : (FaultCode.reservoirSensor ∉ (s.readReservoir inputs.reservoir).sup.deferred)
      ∨ (s.levelExpiry inputs).protectedManoeuvre = true) :
    (s.levelExpiry inputs).air.air = (s.levellingWork inputs p).air.air
    ∧ (s.levelExpiry inputs).air.reservoirLatch = (s.levellingWork inputs p).air.reservoirLatch := by
  rw [State.levelExpiry_eq timers copy] at stays ⊢
  rcases stays with absent | manoeuvre
  · rw [← (s.levellingWork_reservoir inputs p).2.1] at absent
    exact State.settle_air_status absent
  · rw [State.settle_air, State.closeIfIdle_of_protected (State.settle_manoeuvre _ ▸ manoeuvre)]
    exact ⟨rfl, rfl⟩

/-- The air status of a sound reservoir (R134). -/
theorem State.levelExpiry_air_of_sound {res : Nat} (range : res ≤ 1000) (sound : inputs.reservoir = .reading res)
    (none : s.sup.deferred = []) :
    (s.air.reservoirLatch = false → (s.levelExpiry inputs).air.air = airAfter p s.air.air res)
    ∧ (s.air.reservoirLatch = true → (s.levelExpiry inputs).air.air = s.air.air) := by
  have read := s.readReservoir_of_sound range
  rw [← sound] at read
  have absent : (s.readReservoir inputs.reservoir).hasCondition .reservoirSensor = false := by
    rw [read]
    exact (State.hasCondition_endCondition s .reservoirSensor .reservoirSensor).trans (by simp)
  have empty : FaultCode.reservoirSensor ∉ (s.readReservoir inputs.reservoir).sup.deferred := by
    rw [read]
    change FaultCode.reservoirSensor ∉ s.sup.deferred
    rw [none]
    exact List.not_mem_nil
  obtain ⟨status, -⟩ := State.levelExpiry_status (p := p) timers copy (.inl empty)
  obtain ⟨air, latch⟩ := s.readLevel_status inputs
  have reservoir := (s.readLevel_scheme inputs).2
  rw [read] at air latch reservoir
  rw [status]
  refine ⟨fun off => ?_, fun on => ?_⟩
  · rw [(s.levellingWork_status inputs p).1]
    rcases (s.readLevel inputs).airWork_cases p with ⟨held, -⟩ | ⟨-, -, e⟩
    · rw [latch, (s.readLevel_reservoir_standsAs inputs).2.2, absent] at held
      exact absurd (held.resolve_right Bool.false_ne_true) (ne_true_of_eq_false off)
    · rw [e, State.setAir_air, (Levelling.setAirStatus_keeps _ _ .left).1, air, reservoir]
      rfl
  · obtain ⟨held, -⟩ := s.levellingWork_held inputs p (.inl (by rw [read]; exact on))
    rw [held, read]
    rfl

end

theorem airAfter_eq (p : Params) (x : AirStatus) (res : Nat) : airAfter p x res =
    if x = .protect ∧ res < p.releaseAt then AirStatus.protect
    else if x ≠ .protect ∧ res < p.protectAt then AirStatus.protect
    else if res < p.prewarnAt then AirStatus.prewarn
    else AirStatus.normal := by
  cases x <;> simp [airAfter]

/-! ## A faulty reservoir (R133, R180) -/

section
variable {s : State} {p : Params} {inputs : LevelInputs} (timers : s.timersRun = true) (copy : s.loader.copy = some p)
  (faulty : faultyReading 0 1000 inputs.reservoir)
include timers copy faulty

theorem State.levelExpiry_of_faulty_reservoir :
    (s.levelExpiry inputs).air.reservoir = 0 ∧ (s.levelExpiry inputs).hasCondition .reservoirSensor = true := by
  rw [(State.levelExpiry_rest timers copy).1, State.levelExpiry_reservoir_hasCondition timers copy, s.readReservoir_of_faulty _ faulty]
  refine ⟨rfl, ?_⟩
  exact (State.hasCondition_follow s .reservoirSensor .reservoirSensor true).trans (if_pos rfl)

omit timers copy in
/-- The fault holds the status as its reading leaves it. -/
theorem State.levellingWork_of_faulty_reservoir :
    (s.levellingWork inputs p).air.air = (s.follow .reservoirSensor true).air.air
    ∧ (s.levellingWork inputs p).air.reservoirLatch = (s.follow .reservoirSensor true).air.reservoirLatch := by
  have read := s.readReservoir_of_faulty _ faulty
  have there : (s.readReservoir inputs.reservoir).hasCondition .reservoirSensor = true := by
    rw [read]
    exact (State.hasCondition_follow s .reservoirSensor .reservoirSensor true).trans (if_pos rfl)
  obtain ⟨air, latch⟩ := s.levellingWork_held inputs p (.inr there)
  rw [air, latch, read]
  exact ⟨rfl, rfl⟩

/-- At once, outside a protected manoeuvre with no window open. -/
theorem State.levelExpiry_latches (absent : s.hasCondition .reservoirSensor = false) (fresh : s.inEffect .reservoirSensor = false)
    (quiet : s.protectedManoeuvre = false) (closed : s.sup.windowFrom = none) :
    (s.levelExpiry inputs).air.reservoirLatch = true ∧ (s.levelExpiry inputs).air.air = .protect
    ∧ (s.levelExpiry inputs).inEffect .reservoirSensor = true := by
  obtain ⟨latched, effect⟩ := s.follow_begins rfl absent fresh quiet closed
  obtain ⟨air, latch⟩ := State.levellingWork_of_faulty_reservoir (p := p) faulty
  rw [latched] at air latch
  obtain ⟨on, protect⟩ := (State.settle_air_bears (s.levellingWork inputs p)).latched ⟨latch, air⟩
  rw [State.levelExpiry_eq timers copy]
  refine ⟨on, protect, State.settle_inEffect ?_⟩
  rw [(s.levellingWork_reservoir inputs p).1, s.readReservoir_of_faulty _ faulty]
  exact effect

/-- Pending, during one that outlasts the expiry. -/
theorem State.levelExpiry_defers_reservoir (absent : s.hasCondition .reservoirSensor = false)
    (fresh : s.inEffect .reservoirSensor = false) (manoeuvre : s.protectedManoeuvre = true)
    (lasts : (s.levelExpiry inputs).protectedManoeuvre = true) :
    (s.levelExpiry inputs).air.reservoirLatch = s.air.reservoirLatch ∧ (s.levelExpiry inputs).air.air = s.air.air
    ∧ FaultCode.reservoirSensor ∈ (s.levelExpiry inputs).sup.deferred := by
  obtain ⟨same, pending⟩ := s.follow_defers rfl absent fresh manoeuvre
  obtain ⟨air, latch⟩ := State.levellingWork_of_faulty_reservoir (p := p) faulty
  obtain ⟨air', latch'⟩ := State.levelExpiry_status timers copy (p := p) (.inr lasts)
  rw [air', latch', air, latch, same]
  refine ⟨rfl, rfl, ?_⟩
  rw [State.levelExpiry_eq timers copy] at lasts ⊢
  obtain ⟨mode, runFrom, sup⟩ := State.settle_sup_of_stays
    (State.closeIfIdle_of_protected (State.settle_manoeuvre (s.levellingWork inputs p) ▸ lasts))
  rw [sup]
  refine (s.levellingWork_reservoir inputs p).2.1.mpr ?_
  rw [s.readReservoir_of_faulty _ faulty]
  exact pending

/-- Nothing more, where the fault is there or its consequence in effect. -/
theorem State.levelExpiry_of_spent_reservoir (spent : s.hasCondition .reservoirSensor = true ∨ s.inEffect .reservoirSensor = true)
    (rests : s.sup.deferred = [] ∨ (s.levelExpiry inputs).protectedManoeuvre = true) :
    (s.levelExpiry inputs).air.reservoirLatch = s.air.reservoirLatch ∧ (s.levelExpiry inputs).air.air = s.air.air := by
  obtain ⟨same, pending, -⟩ := s.follow_spent rfl (present := true) (.inr spent)
  obtain ⟨air, latch⟩ := State.levellingWork_of_faulty_reservoir (p := p) faulty
  have stays : (FaultCode.reservoirSensor ∉ (s.readReservoir inputs.reservoir).sup.deferred)
      ∨ (s.levelExpiry inputs).protectedManoeuvre = true := by
    refine rests.imp_left fun none => ?_
    rw [s.readReservoir_of_faulty _ faulty]
    change FaultCode.reservoirSensor ∉ (s.follow .reservoirSensor true).sup.deferred
    rw [pending, none]
    exact List.not_mem_nil
  obtain ⟨air', latch'⟩ := State.levelExpiry_status timers copy (p := p) stays
  rw [air', latch', air, latch, same]
  exact ⟨rfl, rfl⟩

end

/-! ## The heights (R137) -/

theorem State.levellingWork_excluded (s : State) (inputs : LevelInputs) (p : Params) (side : Side) :
    ((s.levellingWork inputs p).air.corner side).excluded = ((s.readLevel inputs).air.corner side).excluded := by
  obtain ⟨g, corner⟩ := (s.levellingWork_later inputs p).corner side
  rw [corner]

section
variable {s : State} {p : Params} {inputs : LevelInputs} (timers : s.timersRun = true) (copy : s.loader.copy = some p)
  {side : Side}
include timers copy

theorem State.levelExpiry_height_hasCondition : (s.levelExpiry inputs).hasCondition (heightFault side) =
    ((s.air.corner side).readHeight (s.air.channel side).flows (heightInput inputs side)).condition.isSome := by
  rw [State.levelExpiry_hasCondition timers copy (by cases side <;> decide) (by cases side <;> decide),
    State.readLevel_height_hasCondition]

end

end Sys2Proof.Machine
end

section
/-! PROOFS. The height inputs of a levelling expiry and their consequences: O46. -/

namespace Sys2Proof.Machine

section
variable {s : State} {p : Params} {inputs : LevelInputs} {side : Side} (timers : s.timersRun = true)
  (copy : s.loader.copy = some p)
include timers copy

/-- A sound height is taken and ends the condition; the exclusion stays (R137). -/
theorem State.levelExpiry_of_sound_height {h : Nat} (range : h ≤ 400) (sound : heightInput inputs side = .reading h)
    (free : (s.air.corner side).condition ≠ some .stuck) (few : (s.air.corner side).stuckCount < 29) :
    ((s.levelExpiry inputs).air.corner side).condition = none ∧ ((s.levelExpiry inputs).air.corner side).height = h
    ∧ (s.levelExpiry inputs).hasCondition (heightFault side) = false
    ∧ (s.sup.deferred = [] ∨ (s.levelExpiry inputs).protectedManoeuvre = true →
        ((s.levelExpiry inputs).air.corner side).excluded = (s.air.corner side).excluded) := by
  obtain ⟨none, height⟩ := (s.air.corner side).readHeight_of_sound (s.air.channel side).flows range free few
  rw [← sound] at none height
  obtain ⟨e, g, corner⟩ := State.levelExpiry_corner (inputs := inputs) timers copy side
  have read : ((s.readLevel inputs).air.corner side).excluded = (s.air.corner side).excluded := by
    rw [(s.readLevel_of_sound inputs none).1, Corner.readBellows_keeps]
    exact ((s.air.corner side).readHeight_keeps _ _).1
  refine ⟨?_, ?_, ?_, fun rests => ?_⟩
  · rw [corner, Corner.readBellows_keeps]
    exact none
  · rw [corner, Corner.readBellows_keeps]
    exact height
  · rw [State.levelExpiry_height_hasCondition timers copy, none]
    rfl
  · rw [← read, ← s.levellingWork_excluded inputs p]
    rw [State.levelExpiry_eq timers copy] at rests ⊢
    rcases rests with empty | manoeuvre
    · refine State.settle_excluded ?_
      rw [(s.levellingWork_standsAs inputs p (by cases side <;> decide) (by cases side <;> decide)).2.1,
        (s.readLevel_of_sound inputs none).2.2, empty]
      exact List.not_mem_nil
    · rw [State.settle_air, State.closeIfIdle_of_protected (State.settle_manoeuvre _ ▸ manoeuvre)]

section
variable (faulty : faultyReading 0 400 (heightInput inputs side))
include faulty

omit timers copy in
theorem State.readHeight_isSome : ((s.air.corner side).readHeight (s.air.channel side).flows (heightInput inputs side)).condition.isSome = true := by
  rw [((s.air.corner side).readHeight_of_faulty _ faulty).1]
  rfl

/-- A faulty height is kept under its condition, without a run (R137). -/
theorem State.levelExpiry_of_faulty_height :
    ((s.levelExpiry inputs).air.corner side).condition =
      some (if heightInput inputs side = .openShort then HeightCondition.openShort else .range)
    ∧ ((s.levelExpiry inputs).air.corner side).height = (s.air.corner side).height
    ∧ (s.levelExpiry inputs).hasCondition (heightFault side) = true ∧ ((s.levelExpiry inputs).air.channel side).shut := by
  obtain ⟨condition, height⟩ := (s.air.corner side).readHeight_of_faulty (s.air.channel side).flows faulty
  obtain ⟨e, g, corner⟩ := State.levelExpiry_corner (inputs := inputs) timers copy side
  refine ⟨?_, ?_, ?_, State.levelExpiry_shut timers copy (State.readHeight_isSome faulty)⟩
  · rw [corner, Corner.readBellows_keeps]
    exact condition
  · rw [corner, Corner.readBellows_keeps]
    exact height
  · rw [State.levelExpiry_height_hasCondition timers copy]
    exact State.readHeight_isSome faulty

/-- The corner is excluded at once, outside a protected manoeuvre with no window open. -/
theorem State.levelExpiry_excludes (absent : s.hasCondition (heightFault side) = false)
    (fresh : s.inEffect (heightFault side) = false) (quiet : s.protectedManoeuvre = false) (closed : s.sup.windowFrom = none) :
    ((s.levelExpiry inputs).air.corner side).excluded = true ∧ (s.levelExpiry inputs).air.kneelDisabled = true
    ∧ (s.levelExpiry inputs).inEffect (heightFault side) = true := by
  obtain ⟨excluded, disabled, effect⟩ := s.readLevel_excludes inputs (State.readHeight_isSome faulty) absent fresh quiet closed
  obtain ⟨-, -, kneel⟩ := (s.levellingWork_later inputs p).rest
  obtain ⟨out, off⟩ := (State.settle_air_bears (s.levellingWork inputs p)).excluded
    ⟨(s.levellingWork_excluded inputs p side).trans excluded, kneel.trans disabled⟩
  rw [State.levelExpiry_eq timers copy]
  refine ⟨out, off, State.settle_inEffect ?_⟩
  rw [(s.levellingWork_standsAs inputs p (by cases side <;> decide) (by cases side <;> decide)).1]
  exact effect

/-- Pending, during one that outlasts the expiry. -/
theorem State.levelExpiry_defers_height (absent : s.hasCondition (heightFault side) = false)
    (fresh : s.inEffect (heightFault side) = false) (manoeuvre : s.protectedManoeuvre = true)
    (lasts : (s.levelExpiry inputs).protectedManoeuvre = true) :
    ((s.levelExpiry inputs).air.corner side).excluded = (s.air.corner side).excluded
    ∧ heightFault side ∈ (s.levelExpiry inputs).sup.deferred := by
  obtain ⟨excluded, pending⟩ := s.readLevel_defers inputs (State.readHeight_isSome faulty) absent fresh manoeuvre
  rw [State.levelExpiry_eq timers copy] at lasts ⊢
  have stays := State.closeIfIdle_of_protected (State.settle_manoeuvre (s.levellingWork inputs p) ▸ lasts)
  obtain ⟨mode, runFrom, sup⟩ := State.settle_sup_of_stays stays
  refine ⟨?_, ?_⟩
  · rw [State.settle_air, stays, State.levellingWork_excluded]
    exact excluded
  · rw [sup]
    exact (s.levellingWork_standsAs inputs p (by cases side <;> decide) (by cases side <;> decide)).2.1.mpr pending

end

end

/-! ## The load (R149) -/

section
variable {s : State} {inputs : LevelInputs} (p : Params)

theorem State.load_of_both {left right : Nat} (l : left ≤ 1000) (r : right ≤ 1000) (soundL : inputs.bellowsL = .reading left)
    (soundR : inputs.bellowsR = .reading right) : (s.readLevel inputs).air.load p = axleLoadOf p left right := by
  obtain ⟨conditionL, bellowsL⟩ := (s.readLevel_bellows inputs .left).1 left l soundL
  obtain ⟨conditionR, bellowsR⟩ := (s.readLevel_bellows inputs .right).1 right r soundR
  unfold Levelling.load Levelling.loadPressures
  rw [show (s.readLevel inputs).air.cornerL.bellowsCondition = false from conditionL,
    show (s.readLevel inputs).air.cornerR.bellowsCondition = false from conditionR,
    show (s.readLevel inputs).air.cornerL.bellows = left from bellowsL,
    show (s.readLevel inputs).air.cornerR.bellows = right from bellowsR]
  rfl

theorem State.load_of_one {side : Side} {v : Nat} (range : v ≤ 1000) (sound : bellowsInput inputs side = .reading v)
    (faulty : faultyReading 0 1000 (bellowsInput inputs (otherSide side))) :
    (s.readLevel inputs).air.load p = axleLoadOf p v v := by
  obtain ⟨condition, bellows⟩ := (s.readLevel_bellows inputs side).1 v range sound
  have other := (s.readLevel_bellows inputs (otherSide side)).2.mpr faulty
  unfold Levelling.load Levelling.loadPressures
  cases side
  · rw [show (s.readLevel inputs).air.cornerL.bellowsCondition = false from condition,
      show (s.readLevel inputs).air.cornerR.bellowsCondition = true from other,
      show (s.readLevel inputs).air.cornerL.bellows = v from bellows]
    rfl
  · rw [show (s.readLevel inputs).air.cornerR.bellowsCondition = false from condition,
      show (s.readLevel inputs).air.cornerL.bellowsCondition = true from other,
      show (s.readLevel inputs).air.cornerR.bellows = v from bellows]
    rfl

theorem State.load_of_none (left : faultyReading 0 1000 inputs.bellowsL) (right : faultyReading 0 1000 inputs.bellowsR) :
    (s.readLevel inputs).air.load p = p.ladenDefault := by
  unfold Levelling.load Levelling.loadPressures
  rw [show (s.readLevel inputs).air.cornerL.bellowsCondition = true from (s.readLevel_bellows inputs .left).2.mpr left,
    show (s.readLevel inputs).air.cornerR.bellowsCondition = true from (s.readLevel_bellows inputs .right).2.mpr right]
  rfl

end

/-- Settles O46. -/
theorem levellingWeighsAndJudgesAir : Obligations.levelling_weighs_and_judges_air := by
  refine ⟨fun dt s p inputs res left right timers copy _ empty range l r reservoir soundL soundR => ?_,
    fun dt s p inputs timers copy => ⟨fun faulty => ?_, ?_, fun side => ⟨fun faulty => ?_, fun h range sound free few => ?_⟩⟩⟩
  all_goals have changes := (s.advance dt).levelExpiry_onlyChanges inputs
  · have rest := State.levelExpiry_rest (s := s.advance dt) (inputs := inputs) timers copy
    have load := State.levelExpiry_axleLoad (s := s.advance dt) (inputs := inputs) timers copy
    obtain ⟨-, bellowsL⟩ := (State.levelExpiry_bellows (s := s.advance dt) (inputs := inputs) timers copy .left).2 left l soundL
    obtain ⟨-, bellowsR⟩ := (State.levelExpiry_bellows (s := s.advance dt) (inputs := inputs) timers copy .right).2 right r soundR
    have read := (s.advance dt).readReservoir_of_sound range
    rw [← reservoir] at read
    obtain ⟨free, latched⟩ := State.levelExpiry_air_of_sound (s := s.advance dt) timers copy range reservoir empty
    refine completes_of rfl ⟨?_, bellowsL, bellowsR, ?_, ?_, fun idle => ?_, fun braked => ?_,
      fun off => (free off).trans (airAfter_eq ..), latched, changes⟩
    · exact rest.1.trans (read ▸ rfl)
    · refine (State.levelExpiry_reservoir_hasCondition (s := s.advance dt) timers copy).trans ?_
      rw [read]
      exact (State.hasCondition_endCondition (s.advance dt) .reservoirSensor .reservoirSensor).trans (by simp)
    · rw [← Bool.not_eq_true]
      refine fun there => ?_
      rcases (State.levelExpiry_bellows_hasCondition (s := s.advance dt) timers copy).mp there with faulty | faulty
      · rw [soundL] at faulty
        exact absurd faulty (by change ¬(_ ∨ _); omega)
      · rw [soundR] at faulty
        exact absurd faulty (by change ¬(_ ∨ _); omega)
    · exact (load.trans (if_pos idle)).trans (State.load_of_both p l r soundL soundR)
    · exact load.trans (if_neg braked)
  · obtain ⟨reservoir, condition⟩ := State.levelExpiry_of_faulty_reservoir (s := s.advance dt) timers copy faulty
    exact completes_of rfl ⟨reservoir, condition,
      fun absent fresh => ⟨State.levelExpiry_latches (s := s.advance dt) timers copy faulty absent fresh,
        State.levelExpiry_defers_reservoir (s := s.advance dt) timers copy faulty absent fresh⟩,
      State.levelExpiry_of_spent_reservoir (s := s.advance dt) timers copy faulty, changes⟩
  · have bellows := State.levelExpiry_bellows (s := s.advance dt) (inputs := inputs) timers copy
    have load := State.levelExpiry_axleLoad (s := s.advance dt) (inputs := inputs) timers copy
    refine completes_of rfl ⟨fun side => ⟨(bellows side).1, fun v range sound => ?_⟩,
      State.levelExpiry_bellows_hasCondition (s := s.advance dt) timers copy, fun left right idle => ?_, changes⟩
    · obtain ⟨condition, reads⟩ := (bellows side).2 v range sound
      exact ⟨condition, reads, fun faulty idle => (load.trans (if_pos idle)).trans (State.load_of_one p range sound faulty)⟩
    · exact (load.trans (if_pos idle)).trans (State.load_of_none p left right)
  · obtain ⟨condition, height, there, idle, closed⟩ := State.levelExpiry_of_faulty_height (s := s.advance dt) timers copy faulty
    exact completes_of rfl ⟨condition, height, there, idle, closed,
      fun absent fresh => ⟨State.levelExpiry_excludes (s := s.advance dt) timers copy faulty absent fresh,
        State.levelExpiry_defers_height (s := s.advance dt) timers copy faulty absent fresh⟩, changes⟩
  · obtain ⟨condition, height, gone, excluded⟩ :=
      State.levelExpiry_of_sound_height (s := s.advance dt) timers copy range sound free few
    exact completes_of rfl ⟨condition, height, gone, excluded, changes⟩

end Sys2Proof.Machine
end

section
/-! PROOFS. The level state of an expiry: what step 4 looks at, the state it enters and the runs that state calls for
(R139, R143 to R147). -/

namespace Sys2Proof.Machine

/-! ## What steps 1 to 3 leave of the other blocks -/

/-- A state that differs in its levelling block and its supervisor, and not in the mode. -/
def State.seesAs (s t : State) : Prop := t = { s with air := t.air, sup := t.sup } ∧ t.sup.mode = s.sup.mode

theorem State.seesAs_of_onlyChanges {s t : State} (same : s.onlyChanges [.air, .sup] t)
    (stands : t.sup.stand = s.sup.stand) : s.seesAs t := by
  obtain ⟨pending, now, blocks⟩ := same
  have kept (b : Block) (apart : b ∉ [Block.air, .sup]) : s.same t b := (blocks b).resolve_left apart
  refine ⟨?_, Supervisor.mode_of_stand stands⟩
  have loader : t.loader = s.loader := kept .loader (by decide)
  have link : t.link = s.link := kept .link (by decide)
  have peers : t.peers = s.peers := kept .peers (by decide)
  have driver : t.driver = s.driver := kept .driver (by decide)
  have odo : t.odo = s.odo := kept .odo (by decide)
  have path : t.path = s.path := kept .path (by decide)
  have track : t.track = s.track := kept .track (by decide)
  have steer : t.steer = s.steer := kept .steer (by decide)
  have joint : t.joint = s.joint := kept .joint (by decide)
  have brake : t.brake = s.brake := kept .brake (by decide)
  have doors : t.doors = s.doors := kept .doors (by decide)
  cases t
  simp_all

section
variable (s : State) (inputs : LevelInputs) (p : Params)

theorem State.weighed_onlyChanges : s.onlyChanges [.air, .sup] (s.weighed inputs p) :=
  ((s.readLevel_onlyChanges inputs).step (State.airWork_onlyChanges _ p) (by decide)).step
    (State.loadWork_onlyChanges _ p) (by decide)

theorem State.weighed_stand : (s.weighed inputs p).sup.stand = s.sup.stand := by
  rw [State.weighed_sup, State.readLevel_stand]

theorem State.countLevel_stand (s : State) : s.countLevel.sup.stand = s.sup.stand := by
  unfold State.countLevel
  dsimp only
  exact ite_keeps (P := fun t : State => t.sup.stand = s.sup.stand) (State.raiseFault_stand ..) rfl

/-- The state that step 4 judges: the readings in, the times counted. -/
def State.judged (s : State) (inputs : LevelInputs) (p : Params) : State := (s.weighed inputs p).countLevel

theorem State.judged_seesAs : s.seesAs (s.judged inputs p) :=
  State.seesAs_of_onlyChanges ((s.weighed_onlyChanges inputs p).step (State.countLevel_onlyChanges _) (by decide))
    ((State.countLevel_stand _).trans (s.weighed_stand inputs p))

theorem State.judged_air : (s.judged inputs p).air = (s.weighed inputs p).air.countTimes := State.countLevel_air _

theorem State.weighed_corner (side : Side) :
    (s.weighed inputs p).air.corner side = (s.readLevel inputs).air.corner side
    ∧ (s.weighed inputs p).air.channel side = ((s.readLevel inputs).airWork p).air.channel side := by
  obtain ⟨load, e⟩ := State.loadWork_air ((s.readLevel inputs).airWork p) p
  unfold State.weighed
  rw [e, ← (State.airWork_corner (s.readLevel inputs) p side).1]
  cases side <;> exact ⟨rfl, rfl⟩

theorem State.weighed_rest : (s.weighed inputs p).air.level = s.air.level
    ∧ (s.weighed inputs p).air.kneelTimer = s.air.kneelTimer ∧ (s.weighed inputs p).air.returnTime = s.air.returnTime
    ∧ (s.weighed inputs p).air.gateBelow = s.air.gateBelow ∧ (s.weighed inputs p).air.gateAbove = s.air.gateAbove := by
  obtain ⟨load, e⟩ := State.loadWork_air ((s.readLevel inputs).airWork p) p
  obtain ⟨level, kneel, time, -, below, above⟩ := Levelling.scheme_eq_iff.mp
    ((State.airWork_corner (s.readLevel inputs) p .left).2.trans (s.readLevel_scheme inputs).1)
  unfold State.weighed
  rw [e]
  exact ⟨level, kneel, time, below, above⟩

end

/-- A corner with a sound height, before the thirtieth period without movement. -/
structure State.soundHeight (s : State) (inputs : LevelInputs) (side : Side) (h : Nat) : Prop where
  range : h ≤ 400
  reads : heightInput inputs side = .reading h
  clear : (s.air.corner side).condition = none
  few : (s.air.corner side).stuckCount < 29

section
variable {s : State} {inputs : LevelInputs} {side : Side} {h : Nat} (sound : s.soundHeight inputs side h)
include sound

theorem State.soundHeight.taken :
    ((s.air.corner side).readHeight (s.air.channel side).flows (heightInput inputs side)).condition = none
    ∧ ((s.air.corner side).readHeight (s.air.channel side).flows (heightInput inputs side)).height = h := by
  rw [sound.reads]
  exact Corner.readHeight_of_sound _ _ sound.range (by rw [sound.clear]; decide) sound.few

/-- A corner with a sound height at step 4. -/
theorem State.soundHeight.corner (p : Params) :
    ((s.weighed inputs p).air.corner side).height = h ∧ ((s.weighed inputs p).air.corner side).condition = none
    ∧ ((s.weighed inputs p).air.corner side).target = (s.air.corner side).target
    ∧ ((s.weighed inputs p).air.corner side).excluded = (s.air.corner side).excluded := by
  obtain ⟨none, height⟩ := sound.taken
  obtain ⟨excluded, target, -, -⟩ := (s.air.corner side).readHeight_keeps (s.air.channel side).flows (heightInput inputs side)
  rw [(s.weighed_corner inputs p side).1, (s.readLevel_of_sound inputs none).1, Corner.readBellows_keeps]
  exact ⟨height, none, target, excluded⟩

end

theorem Corner.atTarget_eq (c d : Corner) (h : Nat) (height : c.height = h) (target : c.target = d.target)
    (excluded : c.excluded = d.excluded) : c.atTarget = d.reached h := by
  unfold Corner.atTarget Corner.reached nearTarget
  rw [height, target, excluded]

/-! ## The fault window (R181) -/

theorem State.raiseFault_window_of_plain (s : State) {c : FaultCode} (single : c ≠ .wheelSensorsBoth)
    (plain : c.deferrable = false) : (s.raiseFault c).sup.windowFrom = s.sup.windowFrom := by
  rw [State.raiseFault_recorded s single plain]
  exact s.recorded_windowFrom c .active

theorem State.follow_window_of_plain (s : State) {c : FaultCode} (single : c ≠ .wheelSensorsBoth)
    (plain : c.deferrable = false) (present : Bool) : (s.follow c present).sup.windowFrom = s.sup.windowFrom := by
  rcases s.follow_cases c present with ⟨-, -, e⟩ | ⟨-, -, e⟩ | ⟨-, e⟩ <;> rw [e]
  · exact s.raiseFault_window_of_plain single plain
  · rfl

theorem State.levelWork_windowFrom (s : State) (p : Params) : (s.levelWork p).sup.windowFrom = s.sup.windowFrom := by
  have counted : s.countLevel.sup.windowFrom = s.sup.windowFrom :=
    ite_keeps (P := fun t : State => t.sup.windowFrom = s.sup.windowFrom)
      ((s.setAir s.air.countTimes).raiseFault_window_of_plain (by decide) rfl) rfl
  have moved (x : Levelling) :
      ((s.countLevel.setAir x).leaveReturning s.countLevel.air.level).sup.windowFrom = s.sup.windowFrom :=
    ite_keeps (P := fun t : State => t.sup.windowFrom = s.sup.windowFrom) counted counted
  unfold State.levelWork
  dsimp only
  refine ite_keeps (P := fun t : State => t.sup.windowFrom = s.sup.windowFrom) counted
    (ite_keeps (P := fun t : State => t.sup.windowFrom = s.sup.windowFrom) ?_ (moved _))
  exact (State.raiseFault_window_of_plain _ (by decide) rfl).trans (moved _)

/-! ## Steps 4 to 6 outside LIMP -/

theorem State.gateWork_keeps (s : State) (p : Params) : (s.gateWork p).air.level = s.air.level
    ∧ (s.gateWork p).air.air = s.air.air ∧ (∀ side, (s.gateWork p).air.corner side = s.air.corner side)
    ∧ (∀ side, (s.gateWork p).air.channel side = s.air.channel side)
    ∧ (s.gateWork p).air.kneelTimer = s.air.kneelTimer ∧ (s.gateWork p).air.returnTime = s.air.returnTime := by
  obtain ⟨g, b, a, e⟩ := s.gateWork_air p
  rw [e]
  exact ⟨rfl, rfl, fun side => by cases side <;> rfl, fun side => by cases side <;> rfl, rfl, rfl⟩

/-- Step 4 done, and step 5. -/
def State.levelled (s : State) (inputs : LevelInputs) (p : Params) : State := (s.weighed inputs p).levelWork p
def State.gated (s : State) (inputs : LevelInputs) (p : Params) : State := (s.levelled inputs p).gateWork p

/-- The level state that step 4 leaves. -/
def State.nextState (s : State) (inputs : LevelInputs) (p : Params) : LevelState := (s.judged inputs p).nextLevel p

section
variable (s : State) (inputs : LevelInputs) (p : Params)

theorem State.levelled_air : (s.levelled inputs p).air =
    if s.nextState inputs p = s.air.level then (s.weighed inputs p).air.countTimes
    else (s.weighed inputs p).air.countTimes.toLevel p (s.nextState inputs p) := by
  unfold State.levelled
  rw [State.levelWork_air, (s.weighed_rest inputs p).1]
  rfl

theorem State.gated_air : (s.gated inputs p).air.level = s.nextState inputs p
    ∧ (s.gated inputs p).air.air = (s.weighed inputs p).air.air
    ∧ (∀ side, (s.gated inputs p).air.corner side = (s.levelled inputs p).air.corner side)
    ∧ (∀ side, (s.gated inputs p).air.channel side = (s.levelled inputs p).air.channel side)
    ∧ (s.gated inputs p).air.kneelTimer = (s.levelled inputs p).air.kneelTimer
    ∧ (s.gated inputs p).air.returnTime = (s.levelled inputs p).air.returnTime := by
  have levelled := s.levelled_air inputs p
  have status : (s.levelled inputs p).air.level = s.nextState inputs p
      ∧ (s.levelled inputs p).air.air = (s.weighed inputs p).air.air := by
    rw [levelled]
    by_cases stays : s.nextState inputs p = s.air.level
    · rw [if_pos stays, stays]
      exact ⟨(s.weighed_rest inputs p).1, rfl⟩
    · rw [if_neg stays]
      exact ⟨rfl, rfl⟩
  obtain ⟨level, air, rest⟩ := (s.levelled inputs p).gateWork_keeps p
  exact ⟨level.trans status.1, air.trans status.2, rest⟩

theorem State.gated_windowFrom : (s.gated inputs p).sup.windowFrom = (s.readLevel inputs).sup.windowFrom := by
  have gate (t : State) : (t.gateWork p).sup = t.sup := State.same_of_onlyChanges (t.gateWork_onlyChanges p) .sup (by decide)
  unfold State.gated State.levelled
  rw [gate, State.levelWork_windowFrom, State.weighed_sup]

end

section
variable {s : State} {p : Params} {inputs : LevelInputs} (working : s.working = true) (copy : s.loader.copy = some p)
include working

theorem State.levellingWork_of_working : s.levellingWork inputs p = (s.gated inputs p).channelWork p := by
  have notLimp : s.inLimp = false := by
    unfold State.working at working
    unfold State.inLimp
    cases mode : s.sup.mode <;> rw [mode] at working
    case limp => exact absurd working (by decide)
    all_goals rfl
  rw [State.levellingWork_eq, notLimp]
  rfl

include copy

theorem State.levelExpiry_of_working : s.levelExpiry inputs = ((s.gated inputs p).channelWork p).settle := by
  rw [State.levelExpiry_eq (State.timersRun_of_working working) copy, State.levellingWork_of_working working]

/-- The level state after the expiry. -/
theorem State.levelExpiry_level : (s.levelExpiry inputs).air.level = s.nextState inputs p := by
  obtain ⟨l, r, e⟩ := (s.gated inputs p).channelWork_air p
  rw [State.levelExpiry_of_working working copy, (State.settle_air_bears _).rest.1, e]
  exact (s.gated_air inputs p).1

end

end Sys2Proof.Machine
end

section
/-! PROOFS. The rows of Table 8.6, and the targets and runs of the level state entered: O49. -/

namespace Sys2Proof.Machine

/-! ## What the rows look at (R144 to R147) -/

section
variable {s y : State} (same : s.seesAs y)
include same

theorem State.seesAs.levelRequest : y.levelRequest = s.levelRequest := by
  rw [same.1]
  rfl

theorem State.seesAs.runOrDegraded : y.runOrDegraded = s.runOrDegraded := by
  unfold State.runOrDegraded
  rw [same.2]

theorem State.seesAs.mustReturn_iff : y.mustReturn = true ↔
    s.levelRequest ≠ .kneel ∨ s.driverUsable = false ∨ s.odo.standstill = false := by
  unfold State.mustReturn
  rw [same.levelRequest, same.1]
  simp only [Bool.or_eq_true, bne_iff_ne, Bool.not_eq_true', or_assoc]
  exact Iff.rfl

theorem State.seesAs.mustDescend_iff : y.mustDescend = true ↔ s.levelRequest ≠ .raise ∨ 833 ≤ s.odo.reference := by
  unfold State.mustDescend
  rw [same.levelRequest, same.1]
  simp

theorem State.seesAs.mayRaise_iff : y.mayRaise = true ↔
    s.levelRequest = .raise ∧ s.odo.reference < 833 ∧ s.runOrDegraded = true ∧ y.air.bothGood = true := by
  unfold State.mayRaise
  rw [same.levelRequest, same.runOrDegraded, same.1]
  simp only [Bool.and_eq_true, beq_iff_eq, decide_eq_true_eq, and_assoc]

theorem State.seesAs.mayKneel_iff (p : Params) : y.mayKneel p = true ↔
    s.levelRequest = .kneel ∧ s.odo.standstill = true ∧ s.doors.halt = .applied ∧ p.participant = 1
    ∧ y.air.kneelDisabled = false ∧ y.air.bothGood = true ∧ s.runOrDegraded = true := by
  unfold State.mayKneel
  rw [same.levelRequest, same.runOrDegraded, same.1]
  simp only [Bool.and_eq_true, beq_iff_eq, Bool.not_eq_true', and_assoc]

theorem State.seesAs.neighbourLost (below : y.air.gateBelow = s.air.gateBelow) (above : y.air.gateAbove = s.air.gateAbove) :
    y.neighbourLost = s.neighbourLost := by
  unfold State.neighbourLost State.peer
  rw [below, above, show y.peers = s.peers by rw [same.1]]

end

section
variable {s : State} {inputs : LevelInputs} (p : Params) {left right : Nat}

theorem State.judged_rest : (s.judged inputs p).air.level = s.air.level
    ∧ (s.judged inputs p).air.gateBelow = s.air.gateBelow ∧ (s.judged inputs p).air.gateAbove = s.air.gateAbove := by
  obtain ⟨level, -, -, below, above⟩ := s.weighed_rest inputs p
  rw [State.judged_air]
  exact ⟨level, below, above⟩

theorem State.judged_corner (side : Side) :
    (s.judged inputs p).air.corner side = (s.weighed inputs p).air.corner side := by
  rw [State.judged_air]
  cases side <;> rfl

/-- In KNEELING the judged timer has counted the expiry (R146). -/
theorem State.judged_kneelTimer (kneeling : s.air.level = .kneeling) :
    kneelLimit ≤ (s.judged inputs p).air.kneelTimer ↔ 79 ≤ s.air.kneelTimer := by
  obtain ⟨level, timer, -⟩ := s.weighed_rest inputs p
  have limit : kneelLimit = 80 := rfl
  rw [State.judged_air, limit]
  unfold Levelling.countTimes
  dsimp only
  rw [level, kneeling, if_pos rfl, timer, limit]
  omega

variable (l : s.soundHeight inputs .left left) (r : s.soundHeight inputs .right right)
include l r

theorem State.judged_bothAtTarget : (s.judged inputs p).air.bothAtTarget = true ↔
    s.air.cornerL.reached left = true ∧ s.air.cornerR.reached right = true := by
  have at_ (side : Side) (h : Nat) (sound : s.soundHeight inputs side h) :
      ((s.judged inputs p).air.corner side).atTarget = (s.air.corner side).reached h := by
    obtain ⟨height, -, target, excluded⟩ := sound.corner p
    rw [State.judged_corner]
    exact Corner.atTarget_eq _ _ h height target excluded
  have lefts : (s.judged inputs p).air.cornerL.atTarget = s.air.cornerL.reached left := at_ .left left l
  have rights : (s.judged inputs p).air.cornerR.atTarget = s.air.cornerR.reached right := at_ .right right r
  unfold Levelling.bothAtTarget
  rw [lefts, rights, Bool.and_eq_true]

theorem State.judged_bothGood : (s.judged inputs p).air.bothGood = true ↔
    s.air.cornerL.excluded = false ∧ s.air.cornerR.excluded = false := by
  have good (side : Side) (h : Nat) (sound : s.soundHeight inputs side h) :
      ((s.judged inputs p).air.corner side).excluded = (s.air.corner side).excluded
      ∧ ((s.judged inputs p).air.corner side).condition = none := by
    obtain ⟨-, condition, -, excluded⟩ := sound.corner p
    rw [State.judged_corner]
    exact ⟨excluded, condition⟩
  obtain ⟨outL, clearL⟩ := good .left left l
  obtain ⟨outR, clearR⟩ := good .right right r
  unfold Levelling.bothGood
  rw [show (s.judged inputs p).air.cornerL.excluded = s.air.cornerL.excluded from outL,
    show (s.judged inputs p).air.cornerL.condition = none from clearL,
    show (s.judged inputs p).air.cornerR.excluded = s.air.cornerR.excluded from outR,
    show (s.judged inputs p).air.cornerR.condition = none from clearR]
  simp

/-- Two sound heights raise nothing. -/
theorem State.readLevel_of_both : (s.readLevel inputs).air.kneelDisabled = s.air.kneelDisabled
    ∧ (s.readLevel inputs).sup.windowFrom = (s.readReservoir inputs.reservoir).sup.windowFrom := by
  have corner (side : Side) := (s.readReservoir_air inputs.reservoir side).1
  have first := State.readHeight_air_of_sound (s.readReservoir inputs.reservoir) .left s.air.channelL.flows inputs.heightL
    (by rw [corner]; exact l.taken.1)
  have second := State.readHeight_air_of_sound
    ((s.readReservoir inputs.reservoir).readHeight .left s.air.channelL.flows inputs.heightL) .right s.air.channelR.flows
    inputs.heightR (by
      rw [first.1]
      change ((s.readReservoir inputs.reservoir).air.cornerR.readHeight _ _).condition = none
      rw [show (s.readReservoir inputs.reservoir).air.cornerR = s.air.cornerR from corner .right]
      exact r.taken.1)
  have heights : s.heightsRead inputs = ((s.readReservoir inputs.reservoir).readHeight .left s.air.channelL.flows
    inputs.heightL).readHeight .right s.air.channelR.flows inputs.heightR := rfl
  refine ⟨?_, ?_⟩
  · rw [State.readLevel_air, heights]
    unfold Levelling.readBellows
    rw [second.1, first.1]
    exact (s.readReservoir_air inputs.reservoir .left).2.2.2
  · rw [State.readLevel_eq, State.follow_window_of_plain _ (by decide) rfl, State.setAir_sup, heights, second.2.2, first.2.2]

theorem State.judged_kneelDisabled : (s.judged inputs p).air.kneelDisabled = s.air.kneelDisabled := by
  rw [State.judged_air]
  exact (s.weighed_later inputs p).rest.2.2.trans (State.readLevel_of_both l r).1

/-- The rows of Table 8.6. -/
theorem State.nextState_eq : s.nextState inputs p =
    match s.air.level with
    | .level =>
      if s.levelRequest = .raise ∧ s.odo.reference < 833 ∧ s.runOrDegraded = true
        ∧ s.air.cornerL.excluded = false ∧ s.air.cornerR.excluded = false then LevelState.raising
      else if s.levelRequest = .kneel ∧ s.odo.standstill = true ∧ s.doors.halt = .applied ∧ p.participant = 1
        ∧ s.air.kneelDisabled = false ∧ s.air.cornerL.excluded = false ∧ s.air.cornerR.excluded = false
        ∧ s.runOrDegraded = true then .kneeling
      else .level
    | .raising =>
      if s.levelRequest ≠ .raise ∨ 833 ≤ s.odo.reference then .descending
      else if s.air.cornerL.reached left ∧ s.air.cornerR.reached right then .raised
      else .raising
    | .raised => if s.levelRequest ≠ .raise ∨ 833 ≤ s.odo.reference then .descending else .raised
    | .descending => if s.air.cornerL.reached left ∧ s.air.cornerR.reached right then .level else .descending
    | .kneeling =>
      if s.levelRequest ≠ .kneel ∨ s.driverUsable = false ∨ s.odo.standstill = false then .returning
      else if s.air.cornerL.reached left ∧ s.air.cornerR.reached right then .kneeled
      else if s.neighbourLost = true ∨ s.air.kneelDisabled = true ∨ 79 ≤ s.air.kneelTimer then .kneelHeld
      else .kneeling
    | .kneeled =>
      if s.levelRequest ≠ .kneel ∨ s.driverUsable = false ∨ s.odo.standstill = false then .returning else .kneeled
    | .kneelHeld =>
      if s.levelRequest ≠ .kneel ∨ s.driverUsable = false ∨ s.odo.standstill = false then .returning
      else .kneelHeld
    | .returning => if s.air.cornerL.reached left ∧ s.air.cornerR.reached right then .level else .returning := by
  have same := s.judged_seesAs inputs p
  have target := State.judged_bothAtTarget p l r
  have good := State.judged_bothGood p l r
  have disabled := State.judged_kneelDisabled p l r
  obtain ⟨level, below, above⟩ := State.judged_rest (s := s) (inputs := inputs) p
  unfold State.nextState State.nextLevel
  rw [level]
  cases was : s.air.level <;> dsimp only
  case level =>
    refine if_congr (same.mayRaise_iff.trans (by rw [good])) rfl (if_congr ((same.mayKneel_iff p).trans ?_) rfl rfl)
    rw [good, disabled]
    simp only [and_assoc]
  case raising => exact if_congr same.mustDescend_iff rfl (if_congr target rfl rfl)
  case raised => exact if_congr same.mustDescend_iff rfl rfl
  case descending | returning => exact if_congr target rfl rfl
  case kneeling =>
    refine if_congr same.mustReturn_iff rfl (if_congr target rfl (if_congr ?_ rfl rfl))
    unfold State.mustHold
    rw [Bool.or_eq_true, Bool.or_eq_true, decide_eq_true_eq, same.neighbourLost below above, disabled,
      State.judged_kneelTimer p was, or_assoc]
  case kneeled | kneelHeld => exact if_congr same.mustReturn_iff rfl rfl

end

end Sys2Proof.Machine
end

section
/-! PROOFS. The runs and targets of a level state entered, KNEEL_TIMEOUT and RAISE_TIMEOUT: O49. -/

namespace Sys2Proof.Machine

/-! ## Continuous runs (R135, R139) -/

/-- A continuous run that begins (R139); a fill under PROTECT is suspended from the start (R135). -/
theorem Levelling.startContinuous_eq (a : Levelling) (kerb : Bool) (c : Corner) (ch : Channel) :
    (a.startContinuous kerb c ch).kind = .continuous ∧ (a.startContinuous kerb c ch).direction = flowOf c.error
    ∧ (a.startContinuous kerb c ch).state =
      (if flowOf c.error = .fill ∧ a.air = .protect then .suspended else runningState (flowOf c.error)) := by
  unfold Levelling.startContinuous
  dsimp only
  split <;> exact ⟨rfl, rfl, rfl⟩

theorem Levelling.continuousChannel_of_idle (a : Levelling) (kerb : Bool) {c : Corner} {ch : Channel}
    (within : (c.excluded || c.condition.isSome) = false) (idle : ch.state = .idle) :
    a.continuousChannel kerb c ch = if 10 < c.error.natAbs then a.startContinuous kerb c ch else ch := by
  unfold Levelling.continuousChannel
  rw [if_neg (ne_true_of_eq_false within), idle]

/-- No run begins at a corner at its target, or out of use. -/
theorem Levelling.continuousChannel_of_reached (a : Levelling) (kerb : Bool) {c : Corner} {ch : Channel} (closed : ch.shut)
    (reached : c.reached c.height = true) : a.continuousChannel kerb c ch = ch := by
  cases out : (c.excluded || c.condition.isSome)
  · rw [Levelling.continuousChannel_of_idle a kerb out closed.1, if_neg]
    obtain ⟨within, -⟩ := Bool.or_eq_false_iff.mp out
    unfold Corner.reached at reached
    rw [within, Bool.false_or, Bool.and_eq_true, decide_eq_true_eq, decide_eq_true_eq] at reached
    unfold Corner.error
    omega
  · exact Levelling.continuousChannel_of_out a kerb ch out

theorem Corner.far_of_not_reached {c : Corner} (reached : c.reached c.height = false) :
    c.excluded = false ∧ 10 < c.error.natAbs := by
  unfold Corner.reached at reached
  rw [Bool.or_eq_false_iff, Bool.and_eq_false_iff, decide_eq_false_iff_not, decide_eq_false_iff_not] at reached
  obtain ⟨within, far⟩ := reached
  refine ⟨within, ?_⟩
  unfold Corner.error
  omega

theorem flowOf_error (c : Corner) (far : 10 < c.error.natAbs) :
    flowOf c.error = (if c.height < c.target then FlowDirection.fill else .exhaust)
    ∧ runningState (flowOf c.error) = (if c.target < c.height then ChannelState.exhausting else .filling) := by
  unfold flowOf Corner.error at *
  by_cases below : c.height < c.target
  · rw [if_pos (by omega), if_pos below, if_neg (by omega)]
    exact ⟨rfl, rfl⟩
  · rw [if_neg (by omega), if_neg below, if_pos (by omega)]
    exact ⟨rfl, rfl⟩

/-! ## The level state entered (R143) -/

section
variable {s : State} {inputs : LevelInputs} {p : Params}

/-- A move sets the targets and ends every run. -/
theorem State.gated_of_moved (moved : s.nextState inputs p ≠ s.air.level) (side : Side) :
    (s.gated inputs p).air.corner side =
      { (s.weighed inputs p).air.corner side with target := cornerTarget p (s.nextState inputs p) side }
    ∧ (s.gated inputs p).air.channel side = ((s.weighed inputs p).air.channel side).stop
    ∧ (s.gated inputs p).air.kneelTimer = 0 := by
  obtain ⟨-, -, corner, channel, timer, -⟩ := s.gated_air inputs p
  have times : (s.weighed inputs p).air.countTimes.corner side = (s.weighed inputs p).air.corner side
      ∧ (s.weighed inputs p).air.countTimes.channel side = (s.weighed inputs p).air.channel side := by
    cases side <;> exact ⟨rfl, rfl⟩
  rw [corner, channel, timer, s.levelled_air, if_neg moved, Levelling.toLevel_corner, Levelling.toLevel_channel, times.1, times.2]
  exact ⟨rfl, rfl, rfl⟩

/-- One side's run after a move: none where the level state calls for none or the corner is at its target. -/
theorem State.worked_channel_of_moved (moved : s.nextState inputs p ≠ s.air.level) {side : Side}
    (calm : s.nextState inputs p = .kneeled ∨ s.nextState inputs p = .kneelHeld
      ∨ (s.nextState inputs p ≠ .level ∧ s.nextState inputs p ≠ .raised
        ∧ ((s.gated inputs p).air.corner side).reached ((s.gated inputs p).air.corner side).height = true)) :
    (((s.gated inputs p).channelWork p).air.channel side).shut := by
  obtain ⟨-, channel, -⟩ := State.gated_of_moved moved side
  have closed : ((s.gated inputs p).air.channel side).shut := by
    rw [channel]
    exact Channel.stop_shut _
  rw [State.channelWork_channel, (s.gated_air inputs p).1]
  rcases calm with state | state | ⟨level, raised, reached⟩
  · rw [state]
    exact closed
  · rw [state]
    exact closed
  · cases state : s.nextState inputs p
    case level => exact absurd state level
    case raised => exact absurd state raised
    case kneeled | kneelHeld => exact closed
    all_goals exact (Levelling.continuousChannel_of_reached _ _ closed reached).symm ▸ closed

/-- In a state of continuous runs a corner that has not reached its target begins one. -/
theorem State.worked_channel_starts (moved : s.nextState inputs p ≠ s.air.level) {side : Side}
    (runs : s.nextState inputs p = .raising ∨ s.nextState inputs p = .descending ∨ s.nextState inputs p = .kneeling
      ∨ s.nextState inputs p = .returning)
    (clear : ((s.gated inputs p).air.corner side).condition = none)
    (far : ((s.gated inputs p).air.corner side).reached ((s.gated inputs p).air.corner side).height = false) :
    ((s.gated inputs p).channelWork p).air.channel side =
      (s.gated inputs p).air.startContinuous (kerbOf p == side) ((s.gated inputs p).air.corner side)
        ((s.gated inputs p).air.channel side) := by
  obtain ⟨-, channel, -⟩ := State.gated_of_moved moved side
  have idle : ((s.gated inputs p).air.channel side).state = .idle := by
    rw [channel]
    rfl
  obtain ⟨within, apart⟩ := Corner.far_of_not_reached far
  have started := Levelling.continuousChannel_of_idle (s.gated inputs p).air (kerbOf p == side)
    (c := (s.gated inputs p).air.corner side) (by rw [within, clear]; rfl) idle
  rw [if_pos apart] at started
  rw [State.channelWork_channel, (s.gated_air inputs p).1]
  rcases runs with state | state | state | state <;> rw [state] <;> exact started

end

/-! ## The expiry with two sound heights -/

section
variable {s : State} {p : Params} {inputs : LevelInputs} (working : s.working = true) (copy : s.loader.copy = some p)
include working copy

/-- Where the window rests, settling leaves the block as the work does. -/
theorem State.levelExpiry_air_of_rests (rests : ((s.gated inputs p).channelWork p).windowRests) :
    (s.levelExpiry inputs).air = ((s.gated inputs p).channelWork p).air := by
  rw [State.levelExpiry_of_working working copy, State.settle_air, rests.closeIfIdle]

omit working copy in
theorem State.worked_windowFrom (s : State) (inputs : LevelInputs) (p : Params) :
    ((s.gated inputs p).channelWork p).sup.windowFrom = (s.readLevel inputs).sup.windowFrom := by
  rw [State.same_of_onlyChanges (State.channelWork_onlyChanges _ p) .sup (by decide), State.gated_windowFrom]

omit working copy in
theorem State.worked_corner (s : State) (inputs : LevelInputs) (p : Params) (side : Side) :
    ((s.gated inputs p).channelWork p).air.corner side = (s.gated inputs p).air.corner side
    ∧ ((s.gated inputs p).channelWork p).air.air = (s.weighed inputs p).air.air := by
  obtain ⟨l, r, e⟩ := (s.gated inputs p).channelWork_air p
  obtain ⟨-, air, -⟩ := s.gated_air inputs p
  rw [e]
  exact ⟨by cases side <;> rfl, air⟩

/-- Targets and runs where the level state moves. -/
theorem State.levelExpiry_enters {res : Nat} (range : res ≤ 1000) (reservoir : inputs.reservoir = .reading res)
    (closed : s.sup.windowFrom = none) {left right : Nat} (l : s.soundHeight inputs .left left)
    (r : s.soundHeight inputs .right right) (moved : (s.levelExpiry inputs).air.level ≠ s.air.level) {side : Side} {h : Nat}
    (sound : s.soundHeight inputs side h) :
    let t := s.levelExpiry inputs
    (t.air.corner side).target = cornerTarget p t.air.level side
    ∧ (t.air.level = .kneeled ∨ t.air.level = .kneelHeld ∨ (t.air.level ≠ .level ∧ t.air.level ≠ .raised
        ∧ (t.air.corner side).reached h = true) →
      (t.air.channel side).state = .idle ∧ (t.air.channel side).valveOpen = false)
    ∧ (t.air.level = .raising ∨ t.air.level = .descending ∨ t.air.level = .kneeling ∨ t.air.level = .returning →
        (t.air.corner side).reached h = false →
      (t.air.channel side).kind = .continuous
      ∧ (t.air.channel side).direction = (if h < (t.air.corner side).target then FlowDirection.fill else .exhaust)
      ∧ (t.air.channel side).state =
        (if (t.air.corner side).target < h then ChannelState.exhausting
         else if t.air.air = .protect then .suspended
         else .filling)) := by
  intro t
  have level : t.air.level = s.nextState inputs p := State.levelExpiry_level working copy
  have window : ((s.gated inputs p).channelWork p).sup.windowFrom = none := by
    rw [State.worked_windowFrom, (State.readLevel_of_both l r).2, reservoir, s.readReservoir_of_sound range]
    exact closed
  have air : t.air = ((s.gated inputs p).channelWork p).air := State.levelExpiry_air_of_rests working copy (.inl window)
  have goes : s.nextState inputs p ≠ s.air.level := level ▸ moved
  obtain ⟨corner, -, -⟩ := State.gated_of_moved goes side
  obtain ⟨kept, status⟩ := State.worked_corner s inputs p side
  obtain ⟨height, clear, -, -⟩ := sound.corner p
  have target : (t.air.corner side).target = cornerTarget p (s.nextState inputs p) side := by
    rw [air, kept, corner]
  have tall : ((s.gated inputs p).air.corner side).height = h := by
    rw [corner]
    exact height
  have whole : t.air.corner side = (s.gated inputs p).air.corner side := by
    rw [air, kept]
  rw [level, whole, air, ← tall]
  refine ⟨whole ▸ target, State.worked_channel_of_moved goes, fun runs far => ?_⟩
  obtain ⟨kind, direction, state⟩ := (s.gated inputs p).air.startContinuous_eq (kerbOf p == side)
    ((s.gated inputs p).air.corner side) ((s.gated inputs p).air.channel side)
  obtain ⟨flows, starts⟩ := flowOf_error _ (Corner.far_of_not_reached far).2
  rw [State.worked_channel_starts goes runs (by rw [corner]; exact clear) far, status, kind, direction, state, starts]
  refine ⟨rfl, flows, ?_⟩
  rw [flows, (s.gated_air inputs p).2.1]
  have apart := (Corner.far_of_not_reached far).2
  unfold Corner.error at apart
  by_cases below : ((s.gated inputs p).air.corner side).height < ((s.gated inputs p).air.corner side).target
  · have notAbove : ¬((s.gated inputs p).air.corner side).target < ((s.gated inputs p).air.corner side).height := by omega
    simp only [if_pos below, if_neg notAbove, true_and]
  · have above : ((s.gated inputs p).air.corner side).target < ((s.gated inputs p).air.corner side).height := by omega
    simp only [if_neg below, if_pos above, reduceCtorEq, false_and, if_false]

end

end Sys2Proof.Machine
end

section
/-! PROOFS. The air status and channels at step 2, and KNEEL_TIMEOUT and RAISE_TIMEOUT: O49. -/

namespace Sys2Proof.Machine

/-! ## Step 2 on a sound reservoir (R134, R135) -/

theorem State.weighed_air (s : State) (inputs : LevelInputs) (p : Params) :
    (s.weighed inputs p).air.air = ((s.readLevel inputs).airWork p).air.air := by
  obtain ⟨load, e⟩ := State.loadWork_air ((s.readLevel inputs).airWork p) p
  unfold State.weighed
  rw [e]
  rfl

section
variable {s : State} {inputs : LevelInputs} {res : Nat} (range : res ≤ 1000) (reservoir : inputs.reservoir = .reading res)
include range reservoir

theorem State.readReservoir_sound : s.readReservoir inputs.reservoir =
    (s.endCondition .reservoirSensor).setAir { s.air with reservoir := res } := by
  rw [reservoir, s.readReservoir_of_sound range]

/-- The latch holds status and channels; without it the status follows the pressure. -/
theorem State.airWork_of_sound (p : Params) :
    (s.air.reservoirLatch = true ∧ (s.readLevel inputs).airWork p = s.readLevel inputs
      ∧ (s.readLevel inputs).air.air = s.air.air)
    ∨ (s.air.reservoirLatch = false ∧ (s.readLevel inputs).airWork p =
        (s.readLevel inputs).setAir ((s.readLevel inputs).air.setAirStatus (airAfter p s.air.air res))
      ∧ (s.readLevel inputs).air.air = s.air.air) := by
  obtain ⟨air, latch⟩ := s.readLevel_status inputs
  have pressure := (s.readLevel_scheme inputs).2
  have absent : (s.readLevel inputs).hasCondition .reservoirSensor = false := by
    rw [(s.readLevel_reservoir_standsAs inputs).2.2, State.readReservoir_sound range reservoir]
    exact (State.hasCondition_endCondition s .reservoirSensor .reservoirSensor).trans (by simp)
  rw [State.readReservoir_sound range reservoir] at air latch pressure
  have air' : (s.readLevel inputs).air.air = s.air.air := air
  have latch' : (s.readLevel inputs).air.reservoirLatch = s.air.reservoirLatch := latch
  have pressure' : (s.readLevel inputs).air.reservoir = res := pressure
  rcases (s.readLevel inputs).airWork_cases p with ⟨held, e⟩ | ⟨off, -, e⟩
  · rw [latch', absent] at held
    exact .inl ⟨held.resolve_right Bool.false_ne_true, e, air'⟩
  · rw [latch'] at off
    rw [air', pressure'] at e
    exact .inr ⟨off, e, air'⟩

/-- The status at step 4. -/
theorem State.weighed_air_of_sound (p : Params) (off : s.air.reservoirLatch = false) :
    (s.weighed inputs p).air.air = airAfter p s.air.air res := by
  rw [State.weighed_air]
  rcases State.airWork_of_sound range reservoir p (s := s) with ⟨on, -⟩ | ⟨-, e, -⟩
  · exact absurd on (ne_true_of_eq_false off)
  · rw [e]
    exact (Levelling.setAirStatus_keeps _ _ .left).1

/-- A channel at step 4: as it was, its fill suspended under PROTECT, or resumed on leaving it. -/
theorem State.weighed_channel_of_sound (p : Params) {side : Side}
    (height : ((s.air.corner side).readHeight (s.air.channel side).flows (heightInput inputs side)).condition = none) :
    ((s.weighed inputs p).air.air = s.air.air ∧ (s.weighed inputs p).air.channel side = s.air.channel side)
    ∨ (s.weighed inputs p).air.channel side =
      if (s.weighed inputs p).air.air = .protect then (s.air.channel side).suspend
      else if s.air.air = .protect then (s.air.channel side).resume else s.air.channel side := by
  have channel : (s.readLevel inputs).air.channel side = s.air.channel side := by
    rw [(s.readLevel_of_sound inputs height).2.1, State.readReservoir_sound range reservoir]
    cases side <;> rfl
  rw [State.weighed_air, (s.weighed_corner inputs p side).2]
  rcases State.airWork_of_sound range reservoir p (s := s) with ⟨-, e, air⟩ | ⟨-, e, air⟩
  · rw [e]
    exact .inl ⟨air, channel⟩
  · rw [e, State.setAir_air, Levelling.setAirStatus_channel, (Levelling.setAirStatus_keeps _ _ side).1, channel, air]
    exact .inr rfl

end

/-! ## Room in the fault list (R182, R183) -/

theorem Supervisor.record_length (u : Supervisor) (c : FaultCode) (x : RecordState) (time : Nat) :
    (u.record c x time).faults.length ≤ u.faults.length + 1 := by
  rcases u.record_cases c x time with ⟨-, e⟩ | ⟨-, e⟩ <;> rw [e]
  · unfold Supervisor.update
    rw [List.length_map]
    exact Nat.le_succ _
  · rcases u.addRecord_cases { code := c, state := x, count := 1, first := time, last := time } with ⟨-, e'⟩ | ⟨-, -, e'⟩ | ⟨-, -, e'⟩
    · rw [e', List.length_append]
      exact Nat.le_refl _
    · rw [e', List.length_append]
      exact Nat.succ_le_succ List.length_eraseP_le
    · rw [e']
      exact Nat.le_succ _

theorem State.recorded_length (s : State) (c : FaultCode) (x : RecordState) :
    (s.recorded c x).faults.length ≤ s.sup.faults.length + 1 := by
  have marked : (s.sup.addCondition c).faults = s.sup.faults := by
    unfold Supervisor.addCondition
    split <;> rfl
  exact (Supervisor.record_length ..).trans (by rw [marked])

theorem State.raiseFault_length (s : State) {c : FaultCode} (single : c ≠ .wheelSensorsBoth) :
    (s.raiseFault c).sup.faults.length ≤ s.sup.faults.length + 1 := by
  cases deferrable : c.deferrable with
  | true =>
    rcases s.raiseFault_deferrable_cases deferrable with ⟨-, e⟩ | ⟨-, -, e⟩ | ⟨-, -, -, e⟩ <;> rw [e]
    · exact s.recorded_length c .active
    · exact s.recorded_length c .deferred
    · have added : ((s.setSup (s.recorded c .active)).applyConsequence c).sup.faults = (s.recorded c .active).faults := by
        cases c
        case wheelSensorL | wheelSensorR | jointSensor | heightSensorL | heightSensorR | reservoirSensor | odometerSaturated =>
          exact Supervisor.addEffect_faults ..
        all_goals rfl
      rw [added]
      exact s.recorded_length c .active
  | false =>
    rw [State.raiseFault_recorded s single deferrable]
    exact s.recorded_length c .active

theorem State.endCondition_length (s : State) (c : FaultCode) :
    (s.endCondition c).sup.faults.length = s.sup.faults.length := List.length_map ..

theorem State.follow_length (s : State) {c : FaultCode} (single : c ≠ .wheelSensorsBoth) (present : Bool) :
    (s.follow c present).sup.faults.length ≤ s.sup.faults.length + 1 := by
  rcases s.follow_cases c present with ⟨-, -, e⟩ | ⟨-, -, e⟩ | ⟨-, e⟩ <;> rw [e]
  · exact Nat.le_succ _
  · exact s.raiseFault_length single
  · rw [State.endCondition_length]
    exact Nat.le_succ _

/-- A levelling expiry records at most four faults before its level state moves, with a sound reservoir. -/
theorem State.judged_length {s : State} {inputs : LevelInputs} (p : Params) {res : Nat} (range : res ≤ 1000)
    (reservoir : inputs.reservoir = .reading res) : (s.judged inputs p).sup.faults.length ≤ s.sup.faults.length + 4 := by
  have read (t : State) (side : Side) (ran : Bool) (input : AnalogIn) :
      (t.readHeight side ran input).sup.faults.length ≤ t.sup.faults.length + 1 := by
    rw [State.readHeight_eq]
    exact State.follow_length (t.setAir _) (heightFault_ne_both side) _
  have first : (s.readReservoir inputs.reservoir).sup.faults.length = s.sup.faults.length := by
    rw [State.readReservoir_sound range reservoir]
    exact s.endCondition_length .reservoirSensor
  have left := read (s.readReservoir inputs.reservoir) .left s.air.channelL.flows inputs.heightL
  have right := read ((s.readReservoir inputs.reservoir).readHeight .left s.air.channelL.flows inputs.heightL) .right
    s.air.channelR.flows inputs.heightR
  have bellows : (s.readLevel inputs).sup.faults.length ≤ (s.heightsRead inputs).sup.faults.length + 1 := by
    rw [State.readLevel_eq]
    exact State.follow_length ((s.heightsRead inputs).setAir _) (by decide) _
  have counted (t : State) : t.countLevel.sup.faults.length ≤ t.sup.faults.length + 1 :=
    ite_keeps (P := fun u : State => u.sup.faults.length ≤ t.sup.faults.length + 1)
      (State.raiseFault_length (t.setAir t.air.countTimes) (by decide)) (Nat.le_succ _)
  have last := counted (s.weighed inputs p)
  rw [State.weighed_sup] at last
  have heights : (s.heightsRead inputs).sup.faults.length ≤ s.sup.faults.length + 2 := by
    rw [← first]
    exact right.trans (Nat.succ_le_succ left)
  exact last.trans (Nat.succ_le_succ (bellows.trans (Nat.succ_le_succ heights)))

end Sys2Proof.Machine
end

section
/-! PROOFS. KNEEL_TIMEOUT and RAISE_TIMEOUT: O49. -/

namespace Sys2Proof.Machine

/-! ## A corner short of its target -/

section
variable {s : State} {inputs : LevelInputs} (p : Params) {side : Side} {h : Nat} (sound : s.soundHeight inputs side h)
  (within : (s.air.corner side).excluded = false)
  (far : h + 10 < (s.air.corner side).target ∨ (s.air.corner side).target + 10 < h)
include sound within far

theorem State.judged_not_atTarget : (s.judged inputs p).air.bothAtTarget = false := by
  obtain ⟨height, -, target, excluded⟩ := sound.corner p
  have short : ((s.judged inputs p).air.corner side).atTarget = false := by
    rw [State.judged_corner, Corner.atTarget_eq _ (s.air.corner side) h height target excluded]
    unfold Corner.reached
    rw [within, Bool.false_or, Bool.and_eq_false_iff, decide_eq_false_iff_not, decide_eq_false_iff_not]
    omega
  unfold Levelling.bothAtTarget
  cases side
  · rw [show (s.judged inputs p).air.cornerL.atTarget = false from short, Bool.false_and]
  · rw [show (s.judged inputs p).air.cornerR.atTarget = false from short, Bool.and_false]

/-- A kneel timer that has run out ends KNEELING in KNEEL_HELD (R146). -/
theorem State.nextState_held (kneeling : s.air.level = .kneeling) (timer : s.air.kneelTimer = 79)
    (request : s.levelRequest = .kneel) (usable : s.driverUsable = true) (standstill : s.odo.standstill = true) :
    s.nextState inputs p = .kneelHeld ∧ kneelLimit ≤ (s.judged inputs p).air.kneelTimer := by
  have same := s.judged_seesAs inputs p
  have due : kneelLimit ≤ (s.judged inputs p).air.kneelTimer :=
    (State.judged_kneelTimer p kneeling).mpr (Nat.le_of_eq timer.symm)
  have stays : (s.judged inputs p).mustReturn = false := by
    rw [← Bool.not_eq_true, same.mustReturn_iff, request, usable, standstill]
    simp
  have holds : (s.judged inputs p).mustHold = true := by
    unfold State.mustHold
    rw [decide_eq_true due, Bool.or_true]
  refine ⟨?_, due⟩
  unfold State.nextState State.nextLevel
  rw [(State.judged_rest p).1, kneeling]
  dsimp only
  rw [stays, State.judged_not_atTarget p sound within far, holds]
  rfl

theorem State.nextState_returning (returning : s.air.level = .returning) : s.nextState inputs p = .returning := by
  unfold State.nextState State.nextLevel
  rw [(State.judged_rest p).1, returning]
  dsimp only
  rw [State.judged_not_atTarget p sound within far]
  rfl

end

/-! ## The supervisor after steps 4 to 6 -/

section
variable {s : State} {inputs : LevelInputs} {p : Params}

theorem State.raiseEvent_records {s : State} {c : FaultCode} (room : s.sup.faults.length < 16)
    (single : c ≠ .wheelSensorsBoth) (plain : c.deferrable = false) : ∃ x ∈ (s.raiseEvent c).sup.faults, x.code = c := by
  obtain ⟨x, mem, code, -⟩ := State.exists_record_raiseEvent room single plain
  exact ⟨x, mem, code⟩

/-- A kneel timer that has run out records KNEEL_TIMEOUT with the move. -/
theorem State.levelled_of_held (kneeling : s.air.level = .kneeling) (held : s.nextState inputs p = .kneelHeld)
    (due : kneelLimit ≤ (s.judged inputs p).air.kneelTimer) : s.levelled inputs p =
      ((s.judged inputs p).setAir ((s.judged inputs p).air.toLevel p .kneelHeld)).raiseEvent .kneelTimeout := by
  have level : (s.judged inputs p).air.level = .kneeling := (State.judged_rest p).1.trans kneeling
  have next : (s.judged inputs p).nextLevel p = .kneelHeld := held
  have left (t : State) : t.leaveReturning .kneeling = t := if_neg (fun h => absurd h.1 (by decide))
  unfold State.levelled State.levelWork
  dsimp only
  rw [← State.judged, next, level, if_neg (by decide), if_pos ⟨rfl, due⟩, left]

theorem State.worked_sup (s : State) (inputs : LevelInputs) (p : Params) :
    ((s.gated inputs p).channelWork p).sup = (s.levelled inputs p).sup := by
  rw [State.same_of_onlyChanges (State.channelWork_onlyChanges _ p) .sup (by decide)]
  exact State.same_of_onlyChanges ((s.levelled inputs p).gateWork_onlyChanges p) .sup (by decide)

theorem State.worked_hasCondition (s : State) (inputs : LevelInputs) (p : Params) (c : FaultCode) :
    ((s.gated inputs p).channelWork p).hasCondition c = (s.levelled inputs p).hasCondition c := by
  unfold State.hasCondition
  rw [s.worked_sup]

/-- Outside KNEELING and RETURNING there is no twist gate (R148). -/
theorem State.gated_gate (kneeling : s.nextState inputs p ≠ .kneeling) (returning : s.nextState inputs p ≠ .returning) :
    (s.gated inputs p).air.gate = none ∧ (s.gated inputs p).air.gateBelow = none ∧ (s.gated inputs p).air.gateAbove = none := by
  have level : (s.levelled inputs p).air.level = s.nextState inputs p := by
    rw [← (s.gated_air inputs p).1]
    exact ((s.levelled inputs p).gateWork_keeps p).1.symm
  unfold State.gated State.gateWork
  rw [level]
  cases state : s.nextState inputs p
  case kneeling => exact absurd state kneeling
  case returning => exact absurd state returning
  all_goals exact ⟨rfl, rfl, rfl⟩

variable (working : s.working = true) (copy : s.loader.copy = some p)
include working copy

/-- The kneel timer's 8 s (R146). -/
theorem State.levelExpiry_kneelTimeout {res : Nat} (range : res ≤ 1000) (reservoir : inputs.reservoir = .reading res)
    {side : Side} {h : Nat} (sound : s.soundHeight inputs side h) (within : (s.air.corner side).excluded = false)
    (far : h + 10 < (s.air.corner side).target ∨ (s.air.corner side).target + 10 < h)
    (kneeling : s.air.level = .kneeling) (timer : s.air.kneelTimer = 79)
    (request : s.levelRequest = .kneel) (usable : s.driverUsable = true) (standstill : s.odo.standstill = true) :
    let t := s.levelExpiry inputs
    t.air.level = .kneelHeld ∧ t.air.kneelTimer = 0 ∧ t.air.gate = none
    ∧ (∀ side, (t.air.channel side).shut) ∧ t.hasCondition .kneelTimeout = false
    ∧ (s.sup.faults.length < 12 → ∃ x ∈ t.sup.faults, x.code = .kneelTimeout) := by
  intro t
  obtain ⟨held, due⟩ := State.nextState_held p sound within far kneeling timer request usable standstill
  have moved : s.nextState inputs p ≠ s.air.level := by
    rw [held, kneeling]
    decide
  have expiry : t = ((s.gated inputs p).channelWork p).settle := State.levelExpiry_of_working working copy
  have levelled := State.levelled_of_held kneeling held due
  have hit := State.settle_air_bears ((s.gated inputs p).channelWork p)
  obtain ⟨-, -, -, kneelTimer, -, gate, -, -⟩ := hit.rest
  obtain ⟨l, r, worked⟩ := (s.gated inputs p).channelWork_air p
  refine ⟨(State.levelExpiry_level working copy).trans held, ?_, ?_, fun side => ?_, ?_, fun room => ?_⟩
  · rw [expiry, kneelTimer, worked]
    exact (State.gated_of_moved moved side).2.2
  · rw [expiry, gate, worked]
    exact (State.gated_gate (by rw [held]; decide) (by rw [held]; decide)).1
  · rw [expiry]
    exact hit.shut (State.worked_channel_of_moved moved (.inr (.inl held)))
  · rw [expiry, State.hasCondition_settle]
    rw [State.worked_hasCondition, levelled, State.hasCondition_raiseEvent, bne_self_eq_false, Bool.and_false]
  · rw [expiry]
    refine State.settle_exists_code ?_
    rw [State.worked_sup, levelled]
    refine State.raiseEvent_records ?_ (by decide) rfl
    rw [State.setAir_sup]
    exact Nat.lt_of_le_of_lt (State.judged_length p range reservoir) (by omega)

/-- The return time's 15 s (R147). -/
theorem State.levelExpiry_raiseTimeout {res : Nat} (range : res ≤ 1000) (reservoir : inputs.reservoir = .reading res)
    {side : Side} {h : Nat} (sound : s.soundHeight inputs side h) (within : (s.air.corner side).excluded = false)
    (far : h + 10 < (s.air.corner side).target ∨ (s.air.corner side).target + 10 < h)
    (returning : s.air.level = .returning) (time : s.air.returnTime = 149) (off : s.air.reservoirLatch = false)
    (air : s.air.air ≠ .protect) (pressure : p.protectAt ≤ res) :
    let t := s.levelExpiry inputs
    t.air.level = .returning ∧ t.air.returnTime = 150 ∧ t.hasCondition .raiseTimeout = true := by
  intro t
  have stays : s.nextState inputs p = .returning := State.nextState_returning p sound within far returning
  have same : s.nextState inputs p = s.air.level := stays.trans returning.symm
  have expiry : t = ((s.gated inputs p).channelWork p).settle := State.levelExpiry_of_working working copy
  obtain ⟨level, -, time', -, -⟩ := s.weighed_rest inputs p
  have status : (s.weighed inputs p).air.air ≠ .protect := by
    rw [State.weighed_air_of_sound range reservoir p off, airAfter_eq, if_neg (fun h => air h.1),
      if_neg (fun h => absurd h.2 (by omega))]
    split <;> decide
  have counted : (s.weighed inputs p).air.countTimes.returnTime = 150 := by
    unfold Levelling.countTimes
    dsimp only
    rw [if_pos ⟨level.trans returning, status⟩, time', time]
    rfl
  obtain ⟨-, -, -, -, after, -⟩ := (State.settle_air_bears ((s.gated inputs p).channelWork p)).rest
  obtain ⟨l, r, worked⟩ := (s.gated inputs p).channelWork_air p
  have levelled : s.levelled inputs p = s.judged inputs p := by
    unfold State.levelled State.levelWork
    dsimp only
    exact if_pos (same.trans (State.judged_rest p).1.symm)
  refine ⟨(State.levelExpiry_level working copy).trans stays, ?_, ?_⟩
  · rw [expiry, after, worked]
    refine (s.gated_air inputs p).2.2.2.2.2.trans ?_
    rw [levelled, State.judged_air]
    exact counted
  · have raised : s.judged inputs p = ((s.weighed inputs p).setAir (s.weighed inputs p).air.countTimes).raiseFault .raiseTimeout := by
      unfold State.judged State.countLevel
      dsimp only
      refine if_pos ⟨counted, ?_⟩
      rw [time', time]
      decide
    rw [expiry, State.hasCondition_settle]
    rw [State.worked_hasCondition, levelled, raised, State.hasCondition_raiseFault, beq_self_eq_true, Bool.or_true]

end

/-- Settles O49. -/
theorem levelStateMovesAndTimesOut : Obligations.level_state_moves_and_times_out := by
  intro dt s p inputs res working copy closed range reservoir
  have changes := (s.advance dt).levelExpiry_onlyChanges inputs
  refine ⟨fun left right l r readsL readsR clearL clearR fewL fewR _ => ?_,
    fun side h high reads within clear few far => ⟨fun kneeling timer request usable standstill => ?_,
      fun returning time off air pressure => ?_⟩⟩
  · have soundL : (s.advance dt).soundHeight inputs .left left := ⟨l, readsL, clearL, fewL⟩
    have soundR : (s.advance dt).soundHeight inputs .right right := ⟨r, readsR, clearR, fewR⟩
    have level := (State.levelExpiry_level (s := s.advance dt) (inputs := inputs) working copy).trans
      (State.nextState_eq p soundL soundR)
    refine completes_of rfl ⟨level, fun moved side h reads => ?_, changes⟩
    have sound : (s.advance dt).soundHeight inputs side h := by
      cases side
      · obtain rfl : left = h := Int.ofNat.inj (AnalogIn.reading.inj (readsL.symm.trans reads))
        exact soundL
      · obtain rfl : right = h := Int.ofNat.inj (AnalogIn.reading.inj (readsR.symm.trans reads))
        exact soundR
    exact State.levelExpiry_enters (s := s.advance dt) working copy range reservoir closed soundL soundR moved sound
  · have sound : (s.advance dt).soundHeight inputs side h := ⟨high, reads, clear, few⟩
    obtain ⟨level, zero, gate, shut, gone, recorded⟩ := State.levelExpiry_kneelTimeout (s := s.advance dt) working copy range
      reservoir sound within far kneeling timer request usable standstill
    have happens : (s.advance dt).kneelExpiry inputs = (s.advance dt).levelExpiry inputs := by
      refine State.expiryIf_of ?_
      rw [level, show (s.advance dt).air.level = .kneeling from kneeling, show (s.advance dt).air.kneelTimer = 79 from timer]
      rfl
    obtain ⟨idleL, closedL⟩ := shut .left
    obtain ⟨idleR, closedR⟩ := shut .right
    exact completes_of happens ⟨level, zero, gate, idleL, idleR, closedL, closedR, gone, recorded, changes⟩
  · have sound : (s.advance dt).soundHeight inputs side h := ⟨high, reads, clear, few⟩
    obtain ⟨level, counted, condition⟩ := State.levelExpiry_raiseTimeout (s := s.advance dt) working copy range reservoir
      sound within far returning time off air pressure
    have happens : (s.advance dt).returnExpiry inputs = (s.advance dt).levelExpiry inputs := by
      refine State.expiryIf_of ?_
      rw [counted, show (s.advance dt).air.returnTime = 149 from time]
      rfl
    exact completes_of happens ⟨level, counted, condition, changes⟩

end Sys2Proof.Machine
end

section
/-! PROOFS. Pulsed corrections of a levelling expiry that stays in its level state (R138, R140 to R142): O48. -/

namespace Sys2Proof.Machine

/-! ## What step 6 looks at -/

section
variable {s t : State} (same : s.seesAs t)
include same

theorem State.seesAs.inLimp : t.inLimp = s.inLimp := by
  unfold State.inLimp
  rw [same.2]

theorem State.seesAs.lookAhead (offset : Nat) : t.lookAhead offset = s.lookAhead offset := by
  unfold State.lookAhead
  rw [same.inLimp, same.1]

theorem State.seesAs.pulseHold (p : Params) : t.pulseHold p = s.pulseHold p := by
  have curvature : t.holdCurvature p = s.holdCurvature p := by
    unfold State.holdCurvature
    rw [same.lookAhead, same.1]
    rfl
  unfold State.pulseHold State.curvatureHold
  rw [curvature, same.1]
  rfl

theorem State.seesAs.fillAllowed (p : Params) : t.fillAllowed p =
    decide ((s.presentContents.filter (fun x => x.2.fillInProgress)).length < p.fillLimit) := by
  unfold State.fillAllowed
  rw [same.1]
  rfl

end

section
variable (s : State) (inputs : LevelInputs) (p : Params)

theorem State.gated_seesAs : s.seesAs (s.gated inputs p) := by
  have gate : (s.gated inputs p).sup = (s.levelled inputs p).sup :=
    State.same_of_onlyChanges ((s.levelled inputs p).gateWork_onlyChanges p) .sup (by decide)
  refine State.seesAs_of_onlyChanges (((s.weighed_onlyChanges inputs p).step (State.levelWork_onlyChanges _ p) (by decide)).step
    (State.gateWork_onlyChanges _ p) (by decide)) ?_
  rw [gate, State.levelled, State.levelWork_stand]
  exact s.weighed_stand inputs p

variable {s inputs p} (stays : s.nextState inputs p = s.air.level)
include stays

/-- A level state that stays leaves corners and channels as step 3 does. -/
theorem State.gated_of_stays (side : Side) :
    (s.gated inputs p).air.corner side = (s.weighed inputs p).air.corner side
    ∧ (s.gated inputs p).air.channel side = (s.weighed inputs p).air.channel side := by
  obtain ⟨-, -, corner, channel, -, -⟩ := s.gated_air inputs p
  rw [corner, channel, s.levelled_air, if_pos stays]
  cases side <;> exact ⟨rfl, rfl⟩

/-- So a window that rests before the expiry rests after it. -/
theorem State.worked_windowRests (rests : s.windowRests) : ((s.gated inputs p).channelWork p).windowRests := by
  refine (s.readLevel_windowRests inputs rests).of_same (s.worked_windowFrom inputs p) ?_
  have level : ((s.gated inputs p).channelWork p).air.level = (s.readLevel inputs).air.level := by
    obtain ⟨l, r, e⟩ := (s.gated inputs p).channelWork_air p
    obtain ⟨before, -⟩ := Levelling.scheme_eq_iff.mp (s.readLevel_scheme inputs).1
    rw [e, before, ← stays]
    exact (s.gated_air inputs p).1
  have steer : ((s.gated inputs p).channelWork p).steer = (s.readLevel inputs).steer := by
    rw [State.same_of_onlyChanges (State.channelWork_onlyChanges _ p) .steer (by decide), (s.gated_seesAs inputs p).1,
      State.same_of_onlyChanges (s.readLevel_onlyChanges inputs) .steer (by decide)]
  unfold State.protectedManoeuvre
  rw [level, steer]

variable (working : s.working = true) (copy : s.loader.copy = some p) (rests : s.windowRests)
include working copy rests

/-- The air block at the end of such an expiry. -/
theorem State.levelExpiry_air_of_stays : (s.levelExpiry inputs).air = ((s.gated inputs p).channelWork p).air :=
  State.levelExpiry_air_of_rests working copy (State.worked_windowRests stays rests)

theorem State.levelExpiry_air_air_of_stays : (s.levelExpiry inputs).air.air = (s.weighed inputs p).air.air := by
  rw [State.levelExpiry_air_of_stays stays working copy rests]
  exact (s.worked_corner inputs p .left).2

end

/-! ## Channels at step 2 -/

theorem Channel.suspend_keeps (c : Channel) : c.suspend.kind = c.kind ∧ (c.suspend.state = .idle ↔ c.state = .idle) := by
  unfold Channel.suspend
  by_cases fills : c.state = .filling
  · rw [if_pos fills, fills]
    exact ⟨rfl, nofun, nofun⟩
  · rw [if_neg fills]
    exact ⟨rfl, Iff.rfl⟩

theorem Channel.resume_keeps (c : Channel) : c.resume.kind = c.kind ∧ (c.resume.state = .idle ↔ c.state = .idle) := by
  unfold Channel.resume
  by_cases waits : c.state = .suspended
  · rw [if_pos waits, waits]
    exact ⟨rfl, nofun, nofun⟩
  · rw [if_neg waits]
    exact ⟨rfl, Iff.rfl⟩

theorem Channel.suspend_of_ne {c : Channel} (h : c.state ≠ .filling) : c.suspend = c := if_neg h
theorem Channel.resume_of_ne {c : Channel} (h : c.state ≠ .suspended) : c.resume = c := if_neg h

section
variable {s : State} {inputs : LevelInputs} {side : Side} {h res : Nat} (p : Params) (sound : s.soundHeight inputs side h)
  (range : res ≤ 1000) (reservoir : inputs.reservoir = .reading res)
include sound range reservoir

/-- Step 2 leaves a channel's kind, and whether it is idle. -/
theorem State.weighed_channel_keeps : ((s.weighed inputs p).air.channel side).kind = (s.air.channel side).kind
    ∧ (((s.weighed inputs p).air.channel side).state = .idle ↔ (s.air.channel side).state = .idle) := by
  rcases State.weighed_channel_of_sound range reservoir p sound.taken.1 with ⟨-, e⟩ | e <;> rw [e]
  · exact ⟨rfl, Iff.rfl⟩
  · split_ifs
    · exact Channel.suspend_keeps _
    · exact Channel.resume_keeps _
    · exact ⟨rfl, Iff.rfl⟩

/-- It leaves a channel alone that neither fills nor waits. -/
theorem State.weighed_channel_of_other (fills : (s.air.channel side).state ≠ .filling)
    (waits : (s.air.channel side).state ≠ .suspended) : (s.weighed inputs p).air.channel side = s.air.channel side := by
  rcases State.weighed_channel_of_sound range reservoir p sound.taken.1 with ⟨-, e⟩ | e <;> rw [e]
  rw [Channel.suspend_of_ne fills, Channel.resume_of_ne waits]
  split_ifs <;> rfl

/-- And one that fills outside PROTECT. -/
theorem State.weighed_channel_of_fill (before : s.air.air ≠ .protect) (after : (s.weighed inputs p).air.air ≠ .protect) :
    (s.weighed inputs p).air.channel side = s.air.channel side := by
  rcases State.weighed_channel_of_sound range reservoir p sound.taken.1 with ⟨-, e⟩ | e <;> rw [e]
  rw [if_neg after, if_neg before]

/-- A fill is suspended where PROTECT begins (R135). -/
theorem State.weighed_channel_suspends (before : s.air.air ≠ .protect) (after : (s.weighed inputs p).air.air = .protect)
    (fills : (s.air.channel side).state = .filling) : (s.weighed inputs p).air.channel side =
      { s.air.channel side with state := .suspended, gated := false, valveOpen := false } := by
  rcases State.weighed_channel_of_sound range reservoir p sound.taken.1 with ⟨same, -⟩ | e
  · exact absurd (same.symm.trans after) before
  · rw [e, if_pos after]
    exact if_pos fills

/-- It goes on where PROTECT ends. -/
theorem State.weighed_channel_resumes (before : s.air.air = .protect) (after : (s.weighed inputs p).air.air ≠ .protect)
    (waits : (s.air.channel side).state = .suspended) :
    (s.weighed inputs p).air.channel side = { s.air.channel side with state := .filling } := by
  rcases State.weighed_channel_of_sound range reservoir p sound.taken.1 with ⟨same, -⟩ | e
  · exact absurd (same.trans before) after
  · rw [e, if_neg after, if_pos before]
    exact if_pos waits

theorem State.weighed_channel_waits (after : (s.weighed inputs p).air.air = .protect)
    (waits : (s.air.channel side).state = .suspended) : (s.weighed inputs p).air.channel side = s.air.channel side := by
  rcases State.weighed_channel_of_sound range reservoir p sound.taken.1 with ⟨-, e⟩ | e <;> rw [e]
  rw [if_pos after]
  exact Channel.suspend_of_ne (by rw [waits]; decide)

end

/-! ## One corner's pulsed work (R138, R140) -/

section
variable {s : State} {p : Params} {c : Corner} {ch : Channel}

theorem State.pulsedChannel_of_hold (hold : s.pulseHold p = true) (pulsed : ch.kind = .pulsed) (runs : ch.state ≠ .idle) :
    s.pulsedChannel p c ch = ch.stop := by
  unfold State.pulsedChannel
  rw [if_pos hold, if_pos ⟨pulsed, runs⟩]

theorem State.pulsedChannel_of_idle (within : (c.excluded || c.condition.isSome) = false) (idle : ch.state = .idle) :
    s.pulsedChannel p c ch =
      if s.pulseHold p = false ∧ s.mayPulse p c.error = true then ch.startPulsed p c.error s.now else ch := by
  unfold State.pulsedChannel
  cases hold : s.pulseHold p
  · rw [if_neg Bool.false_ne_true, if_neg (ne_true_of_eq_false within), idle]
    exact if_congr (and_iff_right rfl).symm rfl rfl
  · rw [if_pos rfl, if_neg (fun h => h.2 idle), if_neg (by simp)]

theorem State.pulsedChannel_of_running (hold : s.pulseHold p = false) (within : (c.excluded || c.condition.isSome) = false)
    (runs : ch.state = .filling ∨ ch.state = .exhausting) : s.pulsedChannel p c ch = ch.nextPulse p c.error s.now := by
  unfold State.pulsedChannel
  rw [if_neg (ne_true_of_eq_false hold), if_neg (ne_true_of_eq_false within)]
  rcases runs with state | state <;> rw [state]

end

theorem opposes_iff (d : FlowDirection) (e : Int) : opposes d e = true ↔ (d = .fill ∧ e < 0) ∨ (d = .exhaust ∧ 0 < e) := by
  cases d <;> simp [opposes]

theorem State.mayPulse_iff (s : State) (p : Params) (e : Int) : s.mayPulse p e = true ↔
    p.deadband < e.natAbs ∧ (e < 0 ∨ (s.air.air ≠ .protect ∧ s.fillAllowed p = true)) := by
  simp [State.mayPulse]

/-! ## An expiry in LEVEL or RAISED that stays there -/

section
variable {s : State} {p : Params} {inputs : LevelInputs} {side : Side} {h res : Nat} {e : Int} (working : s.working = true)
  (copy : s.loader.copy = some p) (rests : s.windowRests) (level : s.air.level = .level ∨ s.air.level = .raised)
  (sound : s.soundHeight inputs side h) (range : res ≤ 1000) (reservoir : inputs.reservoir = .reading res)
  (within : (s.air.corner side).excluded = false) (error : e = ((s.air.corner side).target : Int) - h)
  (stays : (s.levelExpiry inputs).air.level = s.air.level)
include working copy rests level sound range reservoir stays

omit sound range reservoir in
/-- Step 6 works on the channel as step 2 leaves it. -/
theorem State.levelExpiry_pulsed : (s.levelExpiry inputs).air.channel side =
    (s.gated inputs p).pulsedChannel p ((s.weighed inputs p).air.corner side) ((s.weighed inputs p).air.channel side) := by
  have same : s.nextState inputs p = s.air.level := (State.levelExpiry_level working copy).symm.trans stays
  obtain ⟨corner, channel⟩ := State.gated_of_stays same side
  rw [State.levelExpiry_air_of_stays same working copy rests, State.channelWork_channel, (s.gated_air inputs p).1, same,
    corner, channel]
  rcases level with state | state <;> rw [state]

omit working copy rests level range reservoir stays in
include within error in
theorem State.weighed_error : ((s.weighed inputs p).air.corner side).error = e
    ∧ (((s.weighed inputs p).air.corner side).excluded || ((s.weighed inputs p).air.corner side).condition.isSome) = false := by
  obtain ⟨height, condition, target, excluded⟩ := sound.corner p
  unfold Corner.error
  rw [height, target, excluded, condition, within, error]
  exact ⟨rfl, rfl⟩

theorem State.levelExpiry_pulse_held (hold : s.pulseHold p = true) (pulsed : (s.air.channel side).kind = .pulsed)
    (runs : (s.air.channel side).state ≠ .idle) : ((s.levelExpiry inputs).air.channel side).shut := by
  obtain ⟨kind, idle⟩ := State.weighed_channel_keeps p sound range reservoir
  rw [State.levelExpiry_pulsed working copy rests level stays,
    State.pulsedChannel_of_hold (((s.gated_seesAs inputs p).pulseHold p).trans hold) (kind.trans pulsed) (mt idle.mp runs)]
  exact Channel.stop_shut _

include within error

theorem State.levelExpiry_pulse_starts (idle : (s.air.channel side).state = .idle) :
    (s.levelExpiry inputs).air.channel side =
      if s.pulseHold p = false ∧ p.deadband < e.natAbs
        ∧ (e < 0 ∨ ((s.levelExpiry inputs).air.air ≠ .protect
          ∧ (s.presentContents.filter (fun x => x.2.fillInProgress)).length < p.fillLimit)) then
        (s.air.channel side).startPulsed p e s.now
      else s.air.channel side := by
  have same := s.gated_seesAs inputs p
  have next : s.nextState inputs p = s.air.level := (State.levelExpiry_level working copy).symm.trans stays
  obtain ⟨wrong, inside⟩ := State.weighed_error (p := p) sound within error
  have channel := State.weighed_channel_of_other p sound range reservoir (by rw [idle]; decide) (by rw [idle]; decide)
  rw [State.levelExpiry_pulsed working copy rests level stays, channel,
    State.pulsedChannel_of_idle inside idle, wrong, same.pulseHold, show (s.gated inputs p).now = s.now by rw [same.1],
    State.levelExpiry_air_air_of_stays next working copy rests]
  refine if_congr (and_congr_right' ?_) rfl rfl
  rw [State.mayPulse_iff, same.fillAllowed, decide_eq_true_eq, (s.gated_air inputs p).2.1]

theorem State.levelExpiry_pulse_goes_on (hold : s.pulseHold p = false)
    (runs : (s.air.channel side).state = .exhausting
      ∨ ((s.air.channel side).state = .filling ∧ s.air.air ≠ .protect ∧ (s.levelExpiry inputs).air.air ≠ .protect)) :
    (s.levelExpiry inputs).air.channel side = (s.air.channel side).nextPulse p e s.now := by
  have same := s.gated_seesAs inputs p
  have next : s.nextState inputs p = s.air.level := (State.levelExpiry_level working copy).symm.trans stays
  obtain ⟨wrong, inside⟩ := State.weighed_error (p := p) sound within error
  rw [State.levelExpiry_air_air_of_stays next working copy rests] at runs
  have channel : (s.weighed inputs p).air.channel side = s.air.channel side := by
    rcases runs with state | ⟨-, before, after⟩
    · exact State.weighed_channel_of_other p sound range reservoir (by rw [state]; decide) (by rw [state]; decide)
    · exact State.weighed_channel_of_fill p sound range reservoir before after
  rw [State.levelExpiry_pulsed working copy rests level stays, channel,
    State.pulsedChannel_of_running ((same.pulseHold p).trans hold) inside (runs.symm.imp_left And.left), wrong,
    show (s.gated inputs p).now = s.now by rw [same.1]]

end

end Sys2Proof.Machine
end

section
/-! PROOFS. Pulsed and continuous runs of a levelling expiry that stays in its level state (R135, R138 to R140, R148): O48. -/

namespace Sys2Proof.Machine

/-! ## Pulsed runs in the words of R138 -/

theorem Channel.startPulsed_eq (c : Channel) (p : Params) (e : Int) (now : Micros) : c.startPulsed p e now =
    { c with
      state := if 0 < e then .filling else .exhausting, kind := .pulsed
      direction := if 0 < e then .fill else .exhaust, pulses := min 8 (ceilDiv e.natAbs p.pulseStep)
      gated := false, valveOpen := true, pulseFrom := now } := by
  unfold Channel.startPulsed flowOf
  by_cases up : 0 < e
  · simp only [if_pos up, runningState]
  · simp only [if_neg up, runningState]

theorem Channel.nextPulse_shut {c : Channel} {p : Params} {e : Int} (ends : e.natAbs ≤ p.deadband ∨ c.direction.against e)
    (now : Micros) : (c.nextPulse p e now).shut := by
  unfold Channel.nextPulse
  rw [if_pos (ends.imp_right (opposes_iff _ _).mpr)]
  exact c.stop_shut

theorem Channel.nextPulse_opens {c : Channel} {p : Params} {e : Int} (far : p.deadband < e.natAbs)
    (along : (c.direction = .fill ∧ 0 < e) ∨ (c.direction = .exhaust ∧ e < 0)) (now : Micros) :
    c.nextPulse p e now = { c with valveOpen := true, pulseFrom := now } := by
  refine if_neg (not_or.mpr ⟨Nat.not_le.mpr far, fun opposed => ?_⟩)
  rcases along with ⟨direction, sign⟩ | ⟨direction, sign⟩ <;> rw [direction] at opposed
  · exact absurd (of_decide_eq_true opposed) (by omega)
  · exact absurd (of_decide_eq_true opposed) (by omega)

/-! ## Continuous runs in the words of R139 and R148 -/

theorem stopReached_iff (d : FlowDirection) (target : Nat) (h : Int) : stopReached d target h = true ↔ d.atStop target h := by
  cases d <;> simp [stopReached, FlowDirection.atStop]

theorem Levelling.gateHolds_iff (a : Levelling) (kerb : Bool) (d : FlowDirection) (h : Int) :
    a.gateHolds kerb d h = true ↔ kerb = true ∧ a.holdsAtGate d h := by
  unfold Levelling.gateHolds
  rw [Bool.and_eq_true]
  refine and_congr_right' ?_
  cases gate : a.gate
  · simp [Levelling.holdsAtGate, gate]
  · cases level : a.level <;> cases d <;> simp [Levelling.holdsAtGate, gate, level]

theorem Channel.running_iff {c : Channel} : c.running = true ↔ c.state = .filling ∨ c.state = .exhausting := by
  simp [Channel.running]

/-- A run that goes on, ends at the opposite sign, or ends at its stop with its valve closed. -/
theorem Levelling.continuousChannel_of_running (a : Levelling) (kerb : Bool) {c : Corner} {ch : Channel}
    (within : (c.excluded || c.condition.isSome) = false) (runs : ch.running = true) : a.continuousChannel kerb c ch =
      if ch.direction.against c.error ∨ (ch.valveOpen = false ∧ ch.direction.atStop c.target c.height) then ch.stop
      else ch.gateBy (a.gateHolds kerb ch.direction c.height) := by
  have body : a.continuousChannel kerb c ch =
      if opposes ch.direction c.error then ch.stop
      else if !ch.valveOpen && stopReached ch.direction c.target c.height then ch.stop
      else ch.gateBy (a.gateHolds kerb ch.direction c.height) := by
    unfold Levelling.continuousChannel
    rw [if_neg (ne_true_of_eq_false within)]
    rcases Channel.running_iff.mp runs with state | state <;> rw [state]
  rw [body]
  by_cases against : ch.direction.against c.error
  · rw [if_pos ((opposes_iff _ _).mpr against), if_pos (.inl against)]
  · rw [if_neg (mt (opposes_iff _ _).mp against)]
    refine if_congr ?_ rfl rfl
    rw [Bool.and_eq_true, Bool.not_eq_true', stopReached_iff]
    exact (or_iff_right against).symm

theorem Levelling.continuousChannel_of_suspended (a : Levelling) (kerb : Bool) {c : Corner} {ch : Channel}
    (within : (c.excluded || c.condition.isSome) = false) (waits : ch.state = .suspended) : a.continuousChannel kerb c ch =
      if ch.direction.against c.error ∨ ch.direction.atStop c.target c.height then ch.stop else ch := by
  unfold Levelling.continuousChannel
  rw [if_neg (ne_true_of_eq_false within), waits]
  refine if_congr ?_ rfl rfl
  rw [Bool.or_eq_true, opposes_iff, stopReached_iff]

end Sys2Proof.Machine
end

section
/-! PROOFS. Continuous runs of a levelling expiry that stays in its level state (R135, R139, R148): O48. -/

namespace Sys2Proof.Machine

theorem Levelling.startContinuous_valve (a : Levelling) (kerb : Bool) (c : Corner) (ch : Channel) :
    let run := a.startContinuous kerb c ch
    (run.state = .suspended → run.valveOpen = false)
    ∧ (run.state ≠ .suspended → run.gated = a.gateHolds kerb run.direction c.height ∧ run.valveOpen = !run.gated) := by
  unfold Levelling.startContinuous
  dsimp only
  split
  · exact ⟨fun _ => rfl, fun h => absurd rfl h⟩
  · refine ⟨fun h => ?_, fun _ => ⟨rfl, rfl⟩⟩
    exact absurd h (by cases flowOf c.error <;> exact nofun)

theorem kerb_beq_iff (p : Params) (side : Side) : (kerbOf p == side) = true ↔ side = p.kerb := by
  rw [beq_iff_eq]
  exact eq_comm

section
variable {s : State} {inputs : LevelInputs} {side : Side} {h res : Nat} {p : Params} (sound : s.soundHeight inputs side h)
  (range : res ≤ 1000) (reservoir : inputs.reservoir = .reading res)
include sound range reservoir

/-- A run that neither starts nor waits under PROTECT comes to step 6 as it stood, or resumed. -/
theorem State.weighed_channel_of_runs (runs : (s.air.channel side).state = .exhausting
      ∨ ((s.air.channel side).state = .filling ∧ s.air.air ≠ .protect ∧ (s.weighed inputs p).air.air ≠ .protect)
      ∨ ((s.air.channel side).state = .suspended ∧ s.air.air = .protect ∧ (s.weighed inputs p).air.air ≠ .protect)) :
    (s.weighed inputs p).air.channel side =
      { s.air.channel side with state := if (s.air.channel side).state = .exhausting then .exhausting else .filling } := by
  rcases runs with state | ⟨state, before, after⟩ | ⟨state, before, after⟩
  · rw [State.weighed_channel_of_other p sound range reservoir (by rw [state]; decide) (by rw [state]; decide), if_pos state,
      ← state]
  · rw [State.weighed_channel_of_fill p sound range reservoir before after, if_neg (by rw [state]; decide), ← state]
  · rw [State.weighed_channel_resumes p sound range reservoir before after state, if_neg (by rw [state]; decide)]

/-- Under PROTECT a fill comes to step 6 suspended. -/
theorem State.weighed_channel_of_protect
    (fills : (s.air.channel side).state = .filling ∧ s.air.air ≠ .protect ∨ (s.air.channel side).state = .suspended)
    (after : (s.weighed inputs p).air.air = .protect) : (s.weighed inputs p).air.channel side =
      if (s.air.channel side).state = .suspended then s.air.channel side
      else { s.air.channel side with state := .suspended, gated := false, valveOpen := false } := by
  rcases fills with ⟨state, before⟩ | state
  · rw [State.weighed_channel_suspends p sound range reservoir before after state, if_neg (by rw [state]; decide)]
  · rw [State.weighed_channel_waits p sound range reservoir after state, if_pos state]

end

/-! ## An expiry in a state of continuous runs that stays there -/

section
variable {s : State} {p : Params} {inputs : LevelInputs} {side : Side} {h res : Nat} {e : Int} (working : s.working = true)
  (copy : s.loader.copy = some p) (rests : s.windowRests)
  (level : s.air.level = .raising ∨ s.air.level = .descending ∨ s.air.level = .kneeling ∨ s.air.level = .returning)
  (stays : (s.levelExpiry inputs).air.level = s.air.level)
include working copy rests stays

/-- Step 6 works on the channel as step 2 leaves it, at the gate that step 5 leaves. -/
theorem State.levelExpiry_continuous
    (level : s.air.level = .raising ∨ s.air.level = .descending ∨ s.air.level = .kneeling ∨ s.air.level = .returning)
    (side : Side) : (s.levelExpiry inputs).air.channel side =
    (s.levelExpiry inputs).air.continuousChannel (kerbOf p == side) ((s.weighed inputs p).air.corner side)
      ((s.weighed inputs p).air.channel side) := by
  have same : s.nextState inputs p = s.air.level := (State.levelExpiry_level working copy).symm.trans stays
  obtain ⟨corner, channel⟩ := State.gated_of_stays same side
  obtain ⟨l, r, worked⟩ := (s.gated inputs p).channelWork_air p
  have gate : (s.levelExpiry inputs).air.continuousChannel (kerbOf p == side) = (s.gated inputs p).air.continuousChannel (kerbOf p == side) := by
    rw [State.levelExpiry_air_of_stays same working copy rests, worked]
    rfl
  rw [gate, State.levelExpiry_air_of_stays same working copy rests, State.channelWork_channel, (s.gated_air inputs p).1, same,
    corner, channel]
  rcases level with state | state | state | state <;> rw [state]

variable (sound : s.soundHeight inputs side h) (range : res ≤ 1000) (reservoir : inputs.reservoir = .reading res)
  (within : (s.air.corner side).excluded = false) (error : e = ((s.air.corner side).target : Int) - h)
include level sound range reservoir within error

theorem State.levelExpiry_continuous_idle (idle : (s.air.channel side).state = .idle) :
    (s.levelExpiry inputs).air.channel side =
      if 10 < e.natAbs then
        (s.levelExpiry inputs).air.startContinuous (kerbOf p == side) ((s.weighed inputs p).air.corner side)
          (s.air.channel side)
      else s.air.channel side := by
  obtain ⟨wrong, inside⟩ := State.weighed_error (p := p) sound within error
  have channel := State.weighed_channel_of_other p sound range reservoir (by rw [idle]; decide) (by rw [idle]; decide)
  rw [State.levelExpiry_continuous working copy rests stays level side, channel,
    Levelling.continuousChannel_of_idle _ _ inside idle, wrong]

theorem State.levelExpiry_continuous_rests (idle : (s.air.channel side).state = .idle) (near : e.natAbs ≤ 10) :
    (s.levelExpiry inputs).air.channel side = s.air.channel side := by
  rw [State.levelExpiry_continuous_idle working copy rests level stays sound range reservoir within error idle,
    if_neg (Nat.not_lt.mpr near)]

theorem State.levelExpiry_continuous_starts (idle : (s.air.channel side).state = .idle) (far : 10 < e.natAbs) :
    let t := s.levelExpiry inputs
    (t.air.channel side).kind = .continuous
    ∧ (t.air.channel side).direction = (if 0 < e then FlowDirection.fill else .exhaust)
    ∧ (t.air.channel side).state =
      (if e < 0 then ChannelState.exhausting else if t.air.air = .protect then .suspended else .filling)
    ∧ ((t.air.channel side).state = .suspended → (t.air.channel side).valveOpen = false)
    ∧ ((t.air.channel side).state ≠ .suspended →
        ((t.air.channel side).gated = true ↔ side = p.kerb ∧ t.air.holdsAtGate (t.air.channel side).direction h)
        ∧ (t.air.channel side).valveOpen = !(t.air.channel side).gated) := by
  intro t
  have run := State.levelExpiry_continuous_idle working copy rests level stays sound range reservoir within error idle
  rw [if_pos far] at run
  obtain ⟨wrong, -⟩ := State.weighed_error (p := p) sound within error
  obtain ⟨height, -⟩ := sound.corner p
  obtain ⟨kind, direction, state⟩ := t.air.startContinuous_eq (kerbOf p == side) ((s.weighed inputs p).air.corner side)
    (s.air.channel side)
  obtain ⟨waits, opens⟩ := t.air.startContinuous_valve (kerbOf p == side) ((s.weighed inputs p).air.corner side)
    (s.air.channel side)
  rw [← run] at kind direction state waits opens
  rw [wrong] at direction state
  refine ⟨kind, direction, state.trans ?_, waits, fun goes => ?_⟩
  · by_cases up : 0 < e
    · have flows : flowOf e = .fill := if_pos up
      have positive : ¬e < 0 := by omega
      rw [flows, if_neg positive]
      simp only [true_and, runningState]
    · have flows : flowOf e = .exhaust := if_neg up
      have negative : e < 0 := by omega
      rw [flows, if_pos negative]
      exact if_neg (fun k => absurd k.1 (by decide))
  · obtain ⟨gated, valve⟩ := opens goes
    rw [height] at gated
    exact ⟨by rw [gated, Levelling.gateHolds_iff, kerb_beq_iff], valve⟩

/-- A run under way ends at the opposite sign, or at its stop with its valve closed, and otherwise goes on (R139, R148). -/
theorem State.levelExpiry_continuous_goes_on (runs : (s.air.channel side).state = .exhausting
      ∨ ((s.air.channel side).state = .filling ∧ s.air.air ≠ .protect ∧ (s.levelExpiry inputs).air.air ≠ .protect)
      ∨ ((s.air.channel side).state = .suspended ∧ s.air.air = .protect ∧ (s.levelExpiry inputs).air.air ≠ .protect)) :
    let t := s.levelExpiry inputs
    let c := s.air.channel side
    (c.direction.against e ∨ (c.valveOpen = false ∧ c.direction.atStop (s.air.corner side).target h) →
      (t.air.channel side).shut)
    ∧ (¬c.direction.against e → c.valveOpen = true ∨ ¬c.direction.atStop (s.air.corner side).target h →
      ∀ held : Bool, (held = true ↔ side = p.kerb ∧ t.air.holdsAtGate c.direction h) →
        t.air.channel side =
          { c with state := if c.state = .exhausting then .exhausting else .filling, gated := held, valveOpen := !held }) := by
  intro t c
  have next : s.nextState inputs p = s.air.level := (State.levelExpiry_level working copy).symm.trans stays
  rw [State.levelExpiry_air_air_of_stays next working copy rests] at runs
  have channel := State.weighed_channel_of_runs sound range reservoir runs
  obtain ⟨wrong, inside⟩ := State.weighed_error (p := p) sound within error
  obtain ⟨height, -, target, -⟩ := sound.corner p
  have whole := State.levelExpiry_continuous working copy rests stays level side
  rw [channel, Levelling.continuousChannel_of_running _ _ inside, wrong, height, target] at whole
  · refine ⟨fun ends => ?_, fun along open_ held holds => ?_⟩
    · rw [whole, if_pos ends]
      exact Channel.stop_shut _
    · have gate : t.air.gateHolds (kerbOf p == side) c.direction h = held := by
        rw [Bool.eq_iff_iff, Levelling.gateHolds_iff, kerb_beq_iff]
        exact holds.symm
      rw [whole, if_neg, gate]
      · rfl
      · rintro (against | ⟨closed, stop⟩)
        · exact along against
        · exact open_.elim (fun k => Bool.false_ne_true (closed.symm.trans k)) (fun k => k stop)
  · refine Channel.running_iff.mpr ?_
    dsimp only
    split
    · exact .inr rfl
    · exact .inl rfl

/-- Under PROTECT a fill waits, and ends at the opposite sign or at its stop (R135, R139). -/
theorem State.levelExpiry_continuous_waits
    (fills : (s.air.channel side).state = .filling ∧ s.air.air ≠ .protect ∨ (s.air.channel side).state = .suspended)
    (after : (s.levelExpiry inputs).air.air = .protect) :
    let t := s.levelExpiry inputs
    let c := s.air.channel side
    (c.direction.against e ∨ c.direction.atStop (s.air.corner side).target h → (t.air.channel side).shut)
    ∧ (¬c.direction.against e → ¬c.direction.atStop (s.air.corner side).target h →
      t.air.channel side =
        if c.state = .suspended then c else { c with state := .suspended, gated := false, valveOpen := false }) := by
  intro t c
  have next : s.nextState inputs p = s.air.level := (State.levelExpiry_level working copy).symm.trans stays
  rw [State.levelExpiry_air_air_of_stays next working copy rests] at after
  have channel := State.weighed_channel_of_protect sound range reservoir fills after
  have waits : ((s.weighed inputs p).air.channel side).state = .suspended
      ∧ ((s.weighed inputs p).air.channel side).direction = c.direction := by
    rw [channel]
    split
    next state => exact ⟨state, rfl⟩
    next => exact ⟨rfl, rfl⟩
  obtain ⟨wrong, inside⟩ := State.weighed_error (p := p) sound within error
  obtain ⟨height, -, target, -⟩ := sound.corner p
  have whole := State.levelExpiry_continuous working copy rests stays level side
  rw [Levelling.continuousChannel_of_suspended _ _ inside waits.1, waits.2, wrong, height, target] at whole
  refine ⟨fun ends => ?_, fun along far => ?_⟩
  · rw [whole, if_pos ends]
    exact Channel.stop_shut _
  · rw [whole, if_neg (not_or.mpr ⟨along, far⟩)]
    exact channel

end

end Sys2Proof.Machine
end

section
/-! PROOFS. The twist gate and its neighbours at a levelling expiry (R148): O48. -/

namespace Sys2Proof.Machine

/-! ## The first and the last of an ordered list -/

theorem greatest_of_getLast? {α : Type} {l : List (Nat × α)} {x : Nat × α} (ordered : l.Pairwise (fun a b => a.1 < b.1))
    (last : l.getLast? = some x) : x ∈ l ∧ (∀ y ∈ l, y.1 ≤ x.1) ∧ ∀ y ∈ l, x.1 ≤ y.1 → y = x := by
  obtain ⟨before, rfl⟩ := List.getLast?_eq_some_iff.mp last
  obtain ⟨-, -, below⟩ := List.pairwise_append.mp ordered
  have split (y : Nat × α) (h : y ∈ before ++ [x]) : y.1 < x.1 ∨ y = x :=
    (List.mem_append.mp h).imp (fun k => below y k x (List.mem_singleton_self x)) List.mem_singleton.mp
  refine ⟨List.mem_append_right _ (List.mem_singleton_self x), fun y h => ?_, fun y h above => ?_⟩
  · exact (split y h).elim Nat.le_of_lt (fun same => same ▸ Nat.le_refl _)
  · exact (split y h).resolve_left (Nat.not_lt.mpr above)

theorem least_of_head? {α : Type} {l : List (Nat × α)} {x : Nat × α} (ordered : l.Pairwise (fun a b => a.1 < b.1))
    (first : l.head? = some x) : x ∈ l ∧ (∀ y ∈ l, x.1 ≤ y.1) ∧ ∀ y ∈ l, y.1 ≤ x.1 → y = x := by
  obtain ⟨after, rfl⟩ := List.head?_eq_some_iff.mp first
  obtain ⟨above, -⟩ := List.pairwise_cons.mp ordered
  have split (y : Nat × α) (h : y ∈ x :: after) : y = x ∨ x.1 < y.1 := (List.mem_cons.mp h).imp id (above y)
  refine ⟨List.mem_cons_self, fun y h => ?_, fun y h below => ?_⟩
  · exact (split y h).elim (fun same => same ▸ Nat.le_refl _) Nat.le_of_lt
  · exact (split y h).resolve_right (Nat.not_lt.mpr below)

/-! ## The gate neighbours -/

theorem State.presentContents_ordered {s : State} (h : s.peersOrdered) :
    s.presentContents.Pairwise (fun x y => x.1 < y.1) := by
  have number (r : Nat × PeerRecord) (x : Nat × StateContent)
      (e : (if r.2.presence == .present then r.2.content.map (fun c => (r.1, c)) else none) = some x) : x.1 = r.1 := by
    split at e
    · obtain ⟨c, -, rfl⟩ := Option.map_eq_some_iff.mp e
      rfl
    · cases e
  refine List.pairwise_filterMap.mpr (List.Pairwise.imp (fun {a b} below x hx y hy => ?_) h)
  rw [number a x hx, number b y hy]
  exact below

section
variable {s : State}

theorem State.mem_below_iff {x : Nat × StateContent} : x ∈ s.kneelers.filter (fun x => x.1 < s.station) ↔
    x ∈ s.presentContents ∧ x.2.participant = true ∧ x.1 < s.station := by
  unfold State.kneelers
  rw [List.mem_filter, List.mem_filter, decide_eq_true_eq, and_assoc]

theorem State.mem_above_iff {x : Nat × StateContent} : x ∈ s.kneelers.filter (fun x => s.station < x.1) ↔
    x ∈ s.presentContents ∧ x.2.participant = true ∧ s.station < x.1 := by
  unfold State.kneelers
  rw [List.mem_filter, List.mem_filter, decide_eq_true_eq, and_assoc]

theorem State.kneelerBelow_none (none : s.kneelerBelow = none) : ∀ x ∈ s.presentContents, ¬s.nearestBelow x := by
  rintro x held ⟨participant, below, -⟩
  have member := State.mem_below_iff.mpr ⟨held, participant, below⟩
  rw [List.getLast?_eq_none_iff.mp none] at member
  exact List.not_mem_nil member

theorem State.kneelerAbove_none (none : s.kneelerAbove = none) : ∀ x ∈ s.presentContents, ¬s.nearestAbove x := by
  rintro x held ⟨participant, above, -⟩
  have member := State.mem_above_iff.mpr ⟨held, participant, above⟩
  rw [List.head?_eq_none_iff.mp none] at member
  exact List.not_mem_nil member

variable (ordered : s.peersOrdered) {x : Nat × StateContent}
include ordered

theorem State.kneelerBelow_some (some : s.kneelerBelow = some x) :
    x ∈ s.presentContents ∧ s.nearestBelow x ∧ ∀ y ∈ s.presentContents, s.nearestBelow y → y = x := by
  obtain ⟨member, greatest, unique⟩ :=
    greatest_of_getLast? (((State.presentContents_ordered ordered).filter _).filter _) some
  obtain ⟨held, participant, below⟩ := State.mem_below_iff.mp member
  refine ⟨held, ⟨participant, below, fun y h k b => greatest y (State.mem_below_iff.mpr ⟨h, k, b⟩)⟩, fun y h near => ?_⟩
  obtain ⟨k, b, nearest⟩ := near
  exact unique y (State.mem_below_iff.mpr ⟨h, k, b⟩) (nearest x held participant below)

theorem State.kneelerAbove_some (some : s.kneelerAbove = some x) :
    x ∈ s.presentContents ∧ s.nearestAbove x ∧ ∀ y ∈ s.presentContents, s.nearestAbove y → y = x := by
  obtain ⟨member, least, unique⟩ := least_of_head? (((State.presentContents_ordered ordered).filter _).filter _) some
  obtain ⟨held, participant, above⟩ := State.mem_above_iff.mp member
  refine ⟨held, ⟨participant, above, fun y h k b => least y (State.mem_above_iff.mpr ⟨h, k, b⟩)⟩, fun y h near => ?_⟩
  obtain ⟨k, b, nearest⟩ := near
  exact unique y (State.mem_above_iff.mpr ⟨h, k, b⟩) (nearest x held participant above)

omit ordered in
theorem StateContent.heightAt_kerb (c : StateContent) (p : Params) : c.heightAt (kerbOf p) = c.kerbHeight p := by
  unfold kerbOf StateContent.kerbHeight
  split <;> rfl

/-- The lowest kerb height is that of a gate neighbour, and none with no neighbour. -/
theorem State.lowestKerb_cases (p : Params) :
    (s.lowestKerb p = none ∧ ∀ x ∈ s.presentContents, ¬s.nearestBelow x ∧ ¬s.nearestAbove x)
    ∨ ∃ x ∈ s.presentContents, (s.nearestBelow x ∨ s.nearestAbove x)
      ∧ (∀ y ∈ s.presentContents, s.nearestBelow y ∨ s.nearestAbove y → x.2.kerbHeight p ≤ y.2.kerbHeight p)
      ∧ s.lowestKerb p = some (x.2.kerbHeight p) := by
  unfold State.lowestKerb
  simp only [StateContent.heightAt_kerb]
  cases below : s.kneelerBelow with
  | none =>
    have noneBelow := State.kneelerBelow_none below
    cases above : s.kneelerAbove with
    | none => exact .inl ⟨rfl, fun x h => ⟨noneBelow x h, State.kneelerAbove_none above x h⟩⟩
    | some y =>
      obtain ⟨held, near, unique⟩ := State.kneelerAbove_some ordered above
      refine .inr ⟨y, held, .inr near, fun z h k => ?_, rfl⟩
      rw [unique z h (k.resolve_left (noneBelow z h))]
  | some x =>
    obtain ⟨heldBelow, nearBelow, uniqueBelow⟩ := State.kneelerBelow_some ordered below
    cases above : s.kneelerAbove with
    | none =>
      refine .inr ⟨x, heldBelow, .inl nearBelow, fun z h k => ?_, rfl⟩
      rw [uniqueBelow z h (k.resolve_right (State.kneelerAbove_none above z h))]
    | some y =>
      obtain ⟨heldAbove, nearAbove, uniqueAbove⟩ := State.kneelerAbove_some ordered above
      have either (z : Nat × StateContent) (h : z ∈ s.presentContents) (k : s.nearestBelow z ∨ s.nearestAbove z) :
          z = x ∨ z = y := k.imp (uniqueBelow z h) (uniqueAbove z h)
      rcases Nat.le_total (x.2.kerbHeight p) (y.2.kerbHeight p) with lower | lower
      · refine .inr ⟨x, heldBelow, .inl nearBelow, fun z h k => ?_, congrArg some (Nat.min_eq_left lower)⟩
        rcases either z h k with rfl | rfl
        · exact Nat.le_refl _
        · exact lower
      · refine .inr ⟨y, heldAbove, .inr nearAbove, fun z h k => ?_, congrArg some (Nat.min_eq_right lower)⟩
        rcases either z h k with rfl | rfl
        · exact lower
        · exact Nat.le_refl _

theorem State.kneelerBelow_cases : (s.kneelerBelow.map Prod.fst = none ∧ ∀ x ∈ s.presentContents, ¬s.nearestBelow x)
    ∨ ∃ x ∈ s.presentContents, s.nearestBelow x ∧ s.kneelerBelow.map Prod.fst = some x.1 := by
  cases below : s.kneelerBelow with
  | none => exact .inl ⟨rfl, State.kneelerBelow_none below⟩
  | some x =>
    obtain ⟨held, near, -⟩ := State.kneelerBelow_some ordered below
    exact .inr ⟨x, held, near, rfl⟩

theorem State.kneelerAbove_cases : (s.kneelerAbove.map Prod.fst = none ∧ ∀ x ∈ s.presentContents, ¬s.nearestAbove x)
    ∨ ∃ x ∈ s.presentContents, s.nearestAbove x ∧ s.kneelerAbove.map Prod.fst = some x.1 := by
  cases above : s.kneelerAbove with
  | none => exact .inl ⟨rfl, State.kneelerAbove_none above⟩
  | some x =>
    obtain ⟨held, near, -⟩ := State.kneelerAbove_some ordered above
    exact .inr ⟨x, held, near, rfl⟩

end

/-! ## The gate at an expiry -/

theorem State.gateWork_gate (s : State) (p : Params) (runs : s.air.level = .kneeling ∨ s.air.level = .returning) :
    (s.gateWork p).air.gate = (s.lowestKerb p).map
      (fun h : Nat => if s.air.level = .kneeling then (h : Int) - p.twistLimit else (h : Int) + p.twistLimit)
    ∧ (s.gateWork p).air.gateBelow = s.kneelerBelow.map Prod.fst
    ∧ (s.gateWork p).air.gateAbove = s.kneelerAbove.map Prod.fst := by
  unfold State.gateWork
  rcases runs with state | state <;> rw [state] <;> cases s.lowestKerb p <;> exact ⟨rfl, rfl, rfl⟩

section
variable {s : State} {inputs : LevelInputs} {p : Params}

theorem State.levelled_seesAs (s : State) (inputs : LevelInputs) (p : Params) : s.seesAs (s.levelled inputs p) := by
  refine State.seesAs_of_onlyChanges ((s.weighed_onlyChanges inputs p).step (State.levelWork_onlyChanges _ p) (by decide)) ?_
  rw [State.levelled, State.levelWork_stand]
  exact s.weighed_stand inputs p

theorem State.seesAs.kneelers {t : State} (same : s.seesAs t) (p : Params) : t.kneelerBelow = s.kneelerBelow
    ∧ t.kneelerAbove = s.kneelerAbove ∧ t.lowestKerb p = s.lowestKerb p := by
  rw [same.1]
  exact ⟨rfl, rfl, rfl⟩

variable (working : s.working = true) (copy : s.loader.copy = some p)
include working copy

/-- Settling and step 6 leave the gate of step 5. -/
theorem State.levelExpiry_gate : (s.levelExpiry inputs).air.gate = (s.gated inputs p).air.gate
    ∧ (s.levelExpiry inputs).air.gateBelow = (s.gated inputs p).air.gateBelow
    ∧ (s.levelExpiry inputs).air.gateAbove = (s.gated inputs p).air.gateAbove := by
  obtain ⟨-, -, -, -, -, gate, below, above⟩ := (State.settle_air_bears ((s.gated inputs p).channelWork p)).rest
  obtain ⟨l, r, worked⟩ := (s.gated inputs p).channelWork_air p
  rw [State.levelExpiry_of_working working copy, gate, below, above, worked]
  exact ⟨rfl, rfl, rfl⟩

theorem State.levelExpiry_without_gate (kneeling : (s.levelExpiry inputs).air.level ≠ .kneeling)
    (returning : (s.levelExpiry inputs).air.level ≠ .returning) : (s.levelExpiry inputs).air.gate = none
    ∧ (s.levelExpiry inputs).air.gateBelow = none ∧ (s.levelExpiry inputs).air.gateAbove = none := by
  rw [State.levelExpiry_level working copy] at kneeling returning
  obtain ⟨gate, below, above⟩ := State.levelExpiry_gate (inputs := inputs) working copy
  rw [gate, below, above]
  exact State.gated_gate kneeling returning

/-- In KNEELING and RETURNING the gate stands by the peers (R148). -/
theorem State.levelExpiry_gates
    (runs : (s.levelExpiry inputs).air.level = .kneeling ∨ (s.levelExpiry inputs).air.level = .returning) :
    (s.levelExpiry inputs).air.gate = (s.lowestKerb p).map (fun h : Nat =>
      if (s.levelExpiry inputs).air.level = .kneeling then (h : Int) - p.twistLimit else (h : Int) + p.twistLimit)
    ∧ (s.levelExpiry inputs).air.gateBelow = s.kneelerBelow.map Prod.fst
    ∧ (s.levelExpiry inputs).air.gateAbove = s.kneelerAbove.map Prod.fst := by
  have level : (s.levelled inputs p).air.level = (s.levelExpiry inputs).air.level := by
    rw [State.levelExpiry_level working copy, ← (s.gated_air inputs p).1]
    exact ((s.levelled inputs p).gateWork_keeps p).1.symm
  obtain ⟨gate, below, above⟩ := State.levelExpiry_gate (inputs := inputs) working copy
  obtain ⟨sameBelow, sameAbove, lowest⟩ := (s.levelled_seesAs inputs p).kneelers p
  have stands := (s.levelled inputs p).gateWork_gate p (level ▸ runs)
  rw [sameBelow, sameAbove, lowest, level] at stands
  rw [gate, below, above]
  exact stands

/-- The neighbours are the nearest kneel participants, and the gate stands by the lower of their kerb heights. -/
theorem State.levelExpiry_gates_nearest (ordered : s.peersOrdered)
    (runs : (s.levelExpiry inputs).air.level = .kneeling ∨ (s.levelExpiry inputs).air.level = .returning) :
    let t := s.levelExpiry inputs
    (t.air.gateBelow = none ∧ (∀ x ∈ s.presentContents, ¬s.nearestBelow x)
      ∨ ∃ x ∈ s.presentContents, s.nearestBelow x ∧ t.air.gateBelow = some x.1)
    ∧ (t.air.gateAbove = none ∧ (∀ x ∈ s.presentContents, ¬s.nearestAbove x)
      ∨ ∃ x ∈ s.presentContents, s.nearestAbove x ∧ t.air.gateAbove = some x.1)
    ∧ (t.air.gate = none ∧ (∀ x ∈ s.presentContents, ¬s.nearestBelow x ∧ ¬s.nearestAbove x)
      ∨ ∃ x ∈ s.presentContents, (s.nearestBelow x ∨ s.nearestAbove x)
        ∧ (∀ y ∈ s.presentContents, s.nearestBelow y ∨ s.nearestAbove y → x.2.kerbHeight p ≤ y.2.kerbHeight p)
        ∧ t.air.gate = some (if t.air.level = .kneeling then (x.2.kerbHeight p : Int) - p.twistLimit
            else x.2.kerbHeight p + p.twistLimit)) := by
  intro t
  obtain ⟨gate, below, above⟩ := State.levelExpiry_gates (inputs := inputs) working copy runs
  refine ⟨below ▸ State.kneelerBelow_cases ordered, above ▸ State.kneelerAbove_cases ordered, ?_⟩
  rcases State.lowestKerb_cases ordered p with ⟨none, lone⟩ | ⟨x, held, near, least, lowest⟩
  · exact .inl ⟨by rw [gate, none]; rfl, lone⟩
  · exact .inr ⟨x, held, near, least, by rw [gate, lowest]; rfl⟩

end

end Sys2Proof.Machine
end

section
/-! PROOFS. Valves that close between expiries, and the pulsed and continuous runs of an expiry: O48. -/

namespace Sys2Proof.Machine

/-! ## Between expiries (R138, R139, R148) -/

section
variable {s : State} {side : Side}

theorem Channel.endPulse_eq (c : Channel) : c.endPulse.valveOpen = false ∧ c.endPulse.pulses = c.pulses - 1
    ∧ c.endPulse.state = (if c.pulses ≤ 1 then ChannelState.idle else c.state) := by
  unfold Channel.endPulse
  split
  next last => exact ⟨rfl, (Nat.sub_eq_zero_of_le last).symm, rfl⟩
  next => exact ⟨rfl, rfl, rfl⟩

variable (runs : (s.air.channel side).state = .filling ∨ (s.air.channel side).state = .exhausting)
  (opened : (s.air.channel side).valveOpen = true)
include runs opened

theorem State.pulseEnd_of_due {p : Params} (pulsed : (s.air.channel side).kind = .pulsed) (copy : s.loader.copy = some p)
    (due : p.pulseWidth * 1000 ≤ s.now - (s.air.channel side).pulseFrom) :
    s.pulseEnd side = s.setAir (s.air.setChannel side (s.air.channel side).endPulse) := by
  have width : s.param Params.pulseWidth = p.pulseWidth := by
    unfold State.param
    rw [copy]
  refine if_pos ?_
  unfold State.pulseDue State.hasCopy
  dsimp only
  rw [Channel.running_iff.mpr runs, pulsed, opened, copy, width]
  exact decide_eq_true due

theorem Channel.flows_of_open (continuous : (s.air.channel side).kind = .continuous) : (s.air.channel side).flows = true := by
  unfold Channel.flows
  rw [Channel.running_iff.mpr runs, continuous, opened]
  rfl

theorem State.stopRun_of_stop (continuous : (s.air.channel side).kind = .continuous) {h : Int}
    (stop : (s.air.channel side).direction.atStop (s.air.corner side).target h) :
    s.stopRun side h = s.setAir (s.air.setChannel side (s.air.channel side).stop) := by
  refine if_pos ?_
  rw [Channel.flows_of_open runs opened continuous, (stopReached_iff _ _ _).mpr stop]
  rfl

theorem State.reachGate_of_gate {p : Params} (continuous : (s.air.channel side).kind = .continuous)
    (copy : s.loader.copy = some p) (kerb : side = p.kerb) {h : Int}
    (holds : s.air.holdsAtGate (s.air.channel side).direction h) :
    s.reachGate h = s.setAir (s.air.setChannel side { s.air.channel side with gated := true, valveOpen := false }) := by
  have flows := Channel.flows_of_open runs opened continuous
  have held := (s.air.gateHolds_iff true (s.air.channel side).direction h).mpr ⟨rfl, holds⟩
  have same : kerbOf p = side := kerb.symm
  unfold State.reachGate
  rw [State.withCopy_some copy, same]
  dsimp only
  rw [flows, held]
  exact if_pos rfl

end

/-! ## The two kinds of runs at an expiry, in the words of the obligation -/

section
variable {s : State} {p : Params} {inputs : LevelInputs} {side : Side} {h res : Nat} {e : Int} (working : s.working = true)
  (copy : s.loader.copy = some p) (rests : s.windowRests) (sound : s.soundHeight inputs side h) (range : res ≤ 1000)
  (reservoir : inputs.reservoir = .reading res) (within : (s.air.corner side).excluded = false)
  (error : e = ((s.air.corner side).target : Int) - h) (stays : (s.levelExpiry inputs).air.level = s.air.level)
include working copy rests sound range reservoir within error stays

theorem State.levelExpiry_pulses (level : s.air.level = .level ∨ s.air.level = .raised) :
    let t := s.levelExpiry inputs
    (s.pulseHold p = true → (s.air.channel side).kind = .pulsed → (s.air.channel side).state ≠ .idle →
      (t.air.channel side).shut)
    ∧ ((s.air.channel side).state = .idle →
      t.air.channel side =
        if s.pulseHold p = false ∧ p.deadband < e.natAbs
          ∧ (e < 0 ∨ (t.air.air ≠ .protect
            ∧ (s.presentContents.filter (fun x => x.2.fillInProgress)).length < p.fillLimit)) then
          { s.air.channel side with
            state := if 0 < e then .filling else .exhausting
            kind := .pulsed
            direction := if 0 < e then .fill else .exhaust
            pulses := min 8 (ceilDiv e.natAbs p.pulseStep)
            gated := false
            valveOpen := true
            pulseFrom := s.now }
        else s.air.channel side)
    ∧ (s.pulseHold p = false →
        (s.air.channel side).state = .exhausting
          ∨ ((s.air.channel side).state = .filling ∧ s.air.air ≠ .protect ∧ t.air.air ≠ .protect) →
      (e.natAbs ≤ p.deadband ∨ (s.air.channel side).direction.against e → (t.air.channel side).shut)
      ∧ (p.deadband < e.natAbs → ((s.air.channel side).direction = .fill ∧ 0 < e)
          ∨ ((s.air.channel side).direction = .exhaust ∧ e < 0) →
        t.air.channel side = { s.air.channel side with valveOpen := true, pulseFrom := s.now })) := by
  intro t
  refine ⟨State.levelExpiry_pulse_held working copy rests level sound range reservoir stays, fun idle => ?_,
    fun hold runs => ⟨fun ends => ?_, fun far along => ?_⟩⟩
  · rw [← Channel.startPulsed_eq]
    exact State.levelExpiry_pulse_starts working copy rests level sound range reservoir within error stays idle
  · rw [State.levelExpiry_pulse_goes_on working copy rests level sound range reservoir within error stays hold runs]
    exact Channel.nextPulse_shut ends _
  · rw [State.levelExpiry_pulse_goes_on working copy rests level sound range reservoir within error stays hold runs]
    exact Channel.nextPulse_opens far along _

end

theorem State.advance_pulseHold (s : State) (dt : Micros) (p : Params) : (s.advance dt).pulseHold p = s.pulseHold p := rfl

theorem LevelState.runs_of_ne {x : LevelState} (level : x ≠ .level) (raised : x ≠ .raised) (kneeled : x ≠ .kneeled)
    (held : x ≠ .kneelHeld) : x = .raising ∨ x = .descending ∨ x = .kneeling ∨ x = .returning := by
  cases x
  case level | raised | kneeled | kneelHeld => contradiction
  all_goals decide

/-- Settles O48. -/
theorem pulsesStartAndValvesClose : Obligations.pulses_start_and_valves_close := by
  intro dt s side
  refine ⟨?pulsed, ?gate, ?continuous, fun runs opened => ⟨fun pulsed p copy due => ?pulseEnd,
    fun continuous => ⟨fun h stop => ?stop, fun p g h copy kerb gate reached => ?twist⟩⟩⟩
  case pulsed =>
    intro p inputs h res e working copy closed _ level high range reads reservoir within clear few error
    have sound : (s.advance dt).soundHeight inputs side h := ⟨high, reads, clear, few⟩
    refine completes_of rfl ⟨fun stays => ?_, (s.advance dt).levelExpiry_onlyChanges inputs⟩
    obtain ⟨held, starts, goesOn⟩ := State.levelExpiry_pulses (s := s.advance dt) working copy (.inl closed) sound range
      reservoir within error stays level
    rw [State.advance_pulseHold] at held starts goesOn
    exact ⟨held, starts, fun hold _ => goesOn hold⟩
  case gate =>
    intro p inputs working copy ordered
    exact completes_of rfl ⟨State.levelExpiry_without_gate (s := s.advance dt) working copy,
      State.levelExpiry_gates_nearest (s := s.advance dt) working copy ordered, (s.advance dt).levelExpiry_onlyChanges inputs⟩
  case continuous =>
    intro p inputs h res e c working copy rests level raised kneeled kneelHeld high range reads reservoir within clear few
      error same
    subst same
    have sound : (s.advance dt).soundHeight inputs side h := ⟨high, reads, clear, few⟩
    have runs : (s.advance dt).air.level = .raising ∨ (s.advance dt).air.level = .descending
        ∨ (s.advance dt).air.level = .kneeling ∨ (s.advance dt).air.level = .returning :=
      LevelState.runs_of_ne level raised kneeled kneelHeld
    have window : (s.advance dt).windowRests := rests
    refine completes_of rfl ⟨fun stays => ⟨fun idle near => ?_, fun idle far => ?_, fun _ => ⟨fun under => ?_, fun fills => ?_⟩⟩,
      (s.advance dt).levelExpiry_onlyChanges inputs⟩
    · exact State.levelExpiry_continuous_rests (s := s.advance dt) working copy window runs stays sound range reservoir within
        error idle near
    · exact State.levelExpiry_continuous_starts (s := s.advance dt) working copy window runs stays sound range reservoir within
        error idle far
    · exact State.levelExpiry_continuous_goes_on (s := s.advance dt) working copy window runs stays sound range reservoir
        within error under
    · exact State.levelExpiry_continuous_waits (s := s.advance dt) working copy window runs stays sound range reservoir within
        error fills.1 fills.2
  case pulseEnd =>
    have ended := State.pulseEnd_of_due (s := s.advance dt) runs opened pulsed copy due
    obtain ⟨valve, pulses, state⟩ := (s.air.channel side).endPulse_eq
    refine completes_of ended ?_
    refine ⟨?_, ?_, ?_, Levelling.channel_setChannel_other .., ended ▸ (s.advance dt).pulseEnd_onlyChanges side⟩
    all_goals rw [State.setAir_air, Levelling.channel_setChannel]
    exacts [valve, pulses, state]
  case stop =>
    have stopped := State.stopRun_of_stop (s := s.advance dt) runs opened continuous stop
    refine completes_of stopped ?_
    refine ⟨?_, ?_, Levelling.channel_setChannel_other .., stopped ▸ (s.advance dt).stopRun_onlyChanges side h⟩
    all_goals rw [State.setAir_air, Levelling.channel_setChannel]
    all_goals rfl
  case twist =>
    exact exec_next (State.reachGate_of_gate (s := s.advance dt) runs opened continuous copy kerb ⟨g, gate, by
      rcases reached with ⟨level, direction, past⟩ | ⟨level, direction, past⟩
      · exact .inl ⟨level, direction, past⟩
      · exact .inr ⟨level, direction, past⟩⟩)

end Sys2Proof.Machine
end
